-- ==== Sys2Proof/Word.lean ====
section
/-! DEFINITION. The words of the Icarno 3160: bytes, line addresses, 32-bit counters and the
timebase word, and nothing else. -/

namespace Sys2Proof

/-- One byte, on the field line or on the message link. -/
abbrev Byte := BitVec 8

/-- A 16-bit line address (Table 1-2), frame id or generation. -/
abbrev Half := BitVec 16

/-- A 32-bit count (paragraph 0.7, Counters) or a value of the timebase (R23). -/
abbrev Word := BitVec 32

end Sys2Proof
end

