-- ==== Sys2Proof/Syntax.lean ====
section
/-! DEFINITION. The commands of the part: one constructor for each row of spec/opcode_table.json.

The rows of the table give no operands, so the operands here are the model's (assumption log 2).
`dt` is the number of quarter microseconds that have passed since the command before (assumption log 3): half
a bit time at 2000 kbit/s.
The rows that dispatch a request have no operand: dispatch takes the message that stands HELD in the
inbound buffer (R142). -/

namespace Sys2Proof

/-- Why a frame, or the byte that should begin one, counts a FRAGMENT (R11, R13). -/
inductive FragmentCause where
  /-- In IDLE, a byte other than 0x7E, or one whose stop bit is read dominant (R11). -/
  | firstByte
  /-- In IN_FRAME, a stop bit read dominant (R13). -/
  | framingFault
  /-- In IN_FRAME, more than 4 recessive bit times before the second FCS byte (R13). -/
  | prematureIdle
deriving DecidableEq, Repr

/-- The entry whose back-off has run (R133). -/
inductive BackoffOwner where
  /-- The send queue entry with this tag. -/
  | send (tag : Byte)
  /-- The reply queue entry at this place in the order of builds, 0 the oldest. -/
  | reply (place : Nat)
deriving DecidableEq, Repr

/-- The operations and events of the part, one for each row of the table. -/
inductive Instr where
  -- resets
  | powerUp
  | resetNAssert
  | resetNRelease
  -- exchanges on the SPI port
  | put (dt : Nat)
  | get (dt : Nat)
  | badExchange (dt : Nat)
  | messageHeld (bytes : List Byte)
  | rejectTooLong (bytes : List Byte)
  | rejectShort (bytes : List Byte)
  | getAck (ack : Byte)
  | resend (flags : Byte)
  | getSendingStep
  -- dispatch of the HELD message
  | unknownKindRequest
  | identify
  | echo
  | timeRead
  | resetPart
  | resetLineSide
  | lineSetup
  | addressSet
  | lineStart
  | lineStop
  | lineStatus
  | lineCounters
  | poolStatus
  | poolSetup
  | sievePut
  | sieveGet
  | sieveClear
  | sieveCopy
  | sieveDefault
  | sieveCommit
  | hitsRead
  | hitsClear
  | classifyStatus
  | queueSetup
  | queueStatus
  | framePeek
  | frameTake
  | frameDiscard
  | queueFlush
  | slotRead
  | slotWrite
  | slotClear
  | slotSetup
  | templatePut
  | templateGet
  | templateClear
  | responderStatus
  | frameSend
  | sendCancel
  | sendStatus
  | sleep
  | presenceSetup
  -- reception
  | frameStart (dt : Nat)
  | receiveClaim (dt : Nat) (bytes : List Byte)
  | malformed (dt : Nat) (bytes : List Byte)
  | fragment (dt : Nat) (cause : FragmentCause)
  | activityEnd (dt : Nat)
  | frameEnd (dt : Nat) (bytes : List Byte) (fcs : Half)
  -- the line clock and the transmitter
  | foreignActivity (dt : Nat)
  | windowClose (dt : Nat)
  | gapPassed (dt : Nat)
  | turnaround (dt : Nat)
  | attemptSent (dt : Nat)
  | collision (dt : Nat)
  | jamEnd (dt : Nat) (draw : BitVec 5)
  | backoffEnd (dt : Nat) (owner : BackoffOwner)
  | stuckLine (dt : Nat) (run : Nat) (draw : BitVec 5)
  | faultCleared (dt : Nat)
  -- the classifier and ages
  | evaluationStart (dt : Nat)
  | scanEnd (dt : Nat)
  | expiry (dt : Nat) (queue : Fin 4) (frameId : Half)
  | slotStale (dt : Nat) (slot : Fin 16)
deriving DecidableEq, Repr

end Sys2Proof
end

