-- ==== Sys2Proof/Decode.lean ====
section
/-! DEFINITION. The decoder over the rows of the table that give bits.  The part is a block and takes
commands, not words; no row of spec/opcode_table.json gives bits, so no word spells a command. -/

namespace Sys2Proof

/-- The command that a word of `nbits` bits spells by the table's bits: none, whatever the word (assumption
log 4). -/
def decodeTableWord (_nbits _w : Nat) : Option Instr := none

end Sys2Proof
end

