-- ==== Sys2Proof/Config.lean ====
section
/-! DEFINITION. What one implementation of the part fixes and the manual does not give: the identity
summary (R156, R159).  The three values are free: they have no body, so nothing can be proved of them
(assumption log 6). -/

namespace Sys2Proof

/-- The family code of IDENTIFY and READY (R156, R159): two bytes the manual does not give. -/
opaque Config.familyCode : Half

/-- The part code of IDENTIFY and READY (R156, R159): two bytes the manual does not give. -/
opaque Config.partCode : Half

/-- The revision of IDENTIFY and READY (R156, R159): one byte the manual does not give. -/
opaque Config.revision : Byte

/-- The capacities of IDENTIFY (paragraph 11.5): one value for each of the 29 rows of Table 0-1, in its
order, each the largest value the row gives in the first unit the row names. -/
def Config.capacities : List Nat :=
  [2000, 4, 8, 248, 255, 8, 192, 16, 64, 2, 32, 4, 4, 4, 4] ++
  [64, 16, 16, 248, 6, 4, 8, 320, 48, 8, 32, 8, 28, 31]

end Sys2Proof
end

