-- ==== Sys2Proof/Machine/State.lean ====
section
/-! DEFINITION. The state of the Icarno 3160 as plain data, block by block in the manual's own
division, and its value after reset.  INVENTORY.md lists every field with the rule that names it. -/

namespace Sys2Proof.Machine

/-! ### Frames -/

/-- A stored frame: DST through the last payload byte (paragraph 1.2).  LEN is the payload's length. -/
structure Frame where
  dst : Half
  src : Half
  kind : Byte
  seq : Byte
  payload : List Byte
deriving DecidableEq, Repr

/-! ### The line interface (Section 1) -/

/-- The four line modes (Table 1-6). -/
inductive LineMode where
  | stopped | listening | active | faulted
deriving DecidableEq, Repr

/-- The two modes in which the receiver hears, and so the two values of the resume mode (R15). -/
inductive HearMode where
  | listening | active
deriving DecidableEq, Repr

/-- The four bit rates (Table 1-1). -/
inductive BitRate where
  | r250 | r500 | r1000 | r2000
deriving DecidableEq, Repr

/-- The gap class (R4). -/
inductive GapClass where
  | short | long
deriving DecidableEq, Repr

/-- The reply slot, with the frame end at which it opened, a point of the line clock (R5). -/
inductive ReplySlot where
  | none
  | own (frameEnd : Nat)
  | other (frameEnd : Nat)
deriving DecidableEq, Repr

/-- The receiver (paragraph 1.6).  IN_FRAME has two forms: `receiving`, with the stored-frame bytes
placed so far, and `following`, the part's own frame (R11). -/
inductive Receiver where
  | idle
  | receiving (bytes : List Byte)
  | following
  | discarding
deriving DecidableEq, Repr

/-- The frame a grant carries: a send entry, named by its tag, or the reply that is ON_LINE. -/
inductive Carried where
  | send (tag : Byte)
  | reply
deriving DecidableEq, Repr

/-- A grant (R6): the frame's source, the number of the attempt about to be made, and the wait kind,
SLOT with the frame end of the frame answered, or CONTEND (`none`). -/
structure Grant where
  source : Carried
  attempt : Nat
  slotEnd : Option Nat
deriving DecidableEq, Repr

/-- The transmitter (paragraph 1.5).  SENDING holds the point of its start bit and the bytes of the
line frame it drives; JAMMING holds the point at which the jam began. -/
inductive Transmitter where
  | idle
  | gapWait (g : Grant)
  | sending (g : Grant) (start : Nat) (line : List Byte)
  | jamming (g : Grant) (start : Nat)
deriving DecidableEq, Repr

/-- The seven line counters (R24). -/
structure LineCounters where
  good : Word
  fcsError : Word
  malformed : Word
  fragment : Word
  noCell : Word
  collisions : Word
  stuckEvents : Word
deriving DecidableEq, Repr

/-- How far a line-side reset has gone (R158): `stopping` while the stopping sequence waits for a jam
to end, `classifier` while it waits for the frame under evaluation (R74). -/
inductive ResetPhase where
  | stopping | classifier
deriving DecidableEq, Repr

/-- A line-side reset in progress: the tag of its RESET request, and its phase (R158). -/
structure LineSideReset where
  tag : Byte
  phase : ResetPhase
deriving DecidableEq, Repr

/-- The line interface (Section 1). -/
structure Line where
  /-- The line mode (Table 1-6). -/
  mode : LineMode
  /-- The resume mode, `none` unless the mode is FAULTED (R15). -/
  resume : Option HearMode
  rate : BitRate
  /-- The own list, in the order given (R20). -/
  own : List Half
  /-- The group list, in the order given (R20). -/
  group : List Half
  receiver : Receiver
  transmitter : Transmitter
  slot : ReplySlot
  gap : GapClass
  /-- The point of last activity, a point of the line clock (R4). -/
  lastActivity : Nat
  /-- The stuck-line count: the bit times of the dominant run last measured (R15). -/
  stuckCount : Nat
  counters : LineCounters
  /-- The free-running microsecond count (R23). -/
  timebase : Word
  /-- The quarter microseconds that have passed since the timebase last counted (the model's own, log 3). -/
  fraction : BitVec 2
  /-- The present point of the line clock, in sixteenths of a bit time; it stands still in STOPPED (R4,
  log 3). -/
  point : Nat
  /-- The tag of the LINE_STOP whose stopping sequence waits for a jam to end (R21). -/
  lineStop : Option Byte
  /-- The line-side reset in progress (R158). -/
  lineSide : Option LineSideReset
deriving DecidableEq, Repr

/-! ### The cell pool (Section 2) -/

/-- The nine holders of cells (R26). -/
inductive Holder where
  | receive
  | classify
  | queue (q : Fin 4)
  | responder
  | send
  | outbox
deriving DecidableEq, Repr

/-- The pool's account: the free count, one held count for each holder, the low-water mark (R34) and the
send quota (R30). -/
structure Pool where
  free : Nat
  receive : Nat
  classify : Nat
  queue : Vector Nat 4
  responder : Nat
  send : Nat
  outbox : Nat
  lowWater : Nat
  quota : Nat
deriving DecidableEq, Repr

/-! ### The sieve table (Section 3) -/

/-- The address classes (Table 3-2). -/
inductive AddrClass where
  | own | group | all | addressed | others | every
deriving DecidableEq, Repr

/-- The term operators (Table 3-3). -/
inductive TermOp where
  | eq | ne | lt | ge | allSet | anySet
deriving DecidableEq, Repr

/-- The widths of a term's field: 1, 2 or 4 bytes (Table 3-3). -/
inductive TermWidth where
  | one | two | four
deriving DecidableEq, Repr

/-- A term (Table 3-3). -/
structure Term where
  offset : Nat
  width : TermWidth
  op : TermOp
  mask : Word
  operand : Word
deriving DecidableEq, Repr

/-- A capture: slot, payload offset and length (Table 3-1). -/
structure Capture where
  slot : Fin 16
  offset : Nat
  length : Nat
deriving DecidableEq, Repr

/-- A sieve entry (Table 3-1). -/
structure Entry where
  inUse : Bool
  cls : AddrClass
  kindValue : Byte
  kindMask : Byte
  /-- The source window, low and high. -/
  window : Option (Half × Half)
  terms : List Term
  deliver : Option (Fin 4)
  answer : Option (Fin 16)
  capture : Option Capture
  wake : Bool
  continue_ : Bool
deriving DecidableEq, Repr

/-- UNUSED, with the empty content (R41). -/
def Entry.empty : Entry :=
  { inUse := false, cls := .every, kindValue := 0, kindMask := 0, window := none, terms := [],
    deliver := none, answer := none, capture := none, wake := false, continue_ := false }

/-- A default verdict (R40, R43). -/
structure DefaultVerdict where
  deliver : Option (Fin 4)
  wake : Bool
deriving DecidableEq, Repr

/-- A bank: 32 entries and a default verdict (R40). -/
structure Bank where
  entries : Vector Entry 32
  dflt : DefaultVerdict
deriving DecidableEq, Repr

/-- A bank after a full reset (R57). -/
def Bank.empty : Bank := { entries := Vector.replicate 32 Entry.empty, dflt := ⟨none, false⟩ }

/-- The sieve table (R40).  `commit` is the commit-pending flag together with the recorded tag. -/
structure Sieve where
  active : Bank
  staged : Bank
  generation : Half
  commit : Option Byte
deriving DecidableEq, Repr

/-! ### The classifier (Section 4) -/

/-- A member of the classification queue (paragraph 4.1). -/
structure Waiting where
  frame : Frame
  id : Half
  /-- The timebase at the frame's end. -/
  stamp : Word
  /-- The frame end point on the line clock. -/
  frameEnd : Nat
deriving DecidableEq, Repr

/-- The frame under evaluation with what R61 fixes at its start. -/
structure Evaluation where
  member : Waiting
  generation : Half
  own : List Half
  group : List Half
deriving DecidableEq, Repr

/-- The five classifier counters (R73). -/
structure ClassifierCounters where
  absorbed : Word
  overrun : Word
  captureShort : Word
  captureExcess : Word
  suppressed : Word
deriving DecidableEq, Repr

/-- The classifier: IDLE when `eval` is `none` (paragraph 4.2). -/
structure Classifier where
  queue : List Waiting
  eval : Option Evaluation
  /-- The frame-id counter (R60). -/
  frameId : Half
  /-- The hit counters of the entry indices (R70). -/
  hits : Vector Word 32
  defaultHits : Word
  counters : ClassifierCounters
deriving DecidableEq, Repr

/-! ### The delivery queues (Section 5) -/

/-- A record of a delivery queue (R68, R76); `matched` is `none` for DEFAULT. -/
structure Record where
  frame : Frame
  id : Half
  stamp : Word
  generation : Half
  matched : Option (Fin 32)
  answered : Bool
  wake : Bool
  captured : Bool
deriving DecidableEq, Repr

/-- The overflow policies (Table 5-1). -/
inductive Overflow where
  | dropNewest | dropOldest
deriving DecidableEq, Repr

/-- The seven settings of a queue (Table 5-1). -/
structure QueueSettings where
  enabled : Bool
  depth : Nat
  cells : Nat
  age : Nat
  policy : Overflow
  fill : Nat
  wakeOnFill : Bool
deriving DecidableEq, Repr

/-- The seven queue counters (Table 5-2). -/
structure QueueCounters where
  accepted : Word
  taken : Word
  removed : Word
  expired : Word
  disabledDrop : Word
  overflowNew : Word
  overflowOld : Word
deriving DecidableEq, Repr

/-- A delivery queue, its records oldest first (R76). -/
structure DeliveryQueue where
  records : List Record
  settings : QueueSettings
  counters : QueueCounters
deriving DecidableEq, Repr

/-- A delivery queue after a full reset with the given cell limit (Table 5-1, R93). -/
def DeliveryQueue.initial (cells : Nat) : DeliveryQueue :=
  { records := []
    settings := { enabled := true, depth := 16, cells := cells, age := 0, policy := .dropNewest,
                  fill := 0, wakeOnFill := false }
    counters := ⟨0, 0, 0, 0, 0, 0, 0⟩ }

/-! ### The capture slots (Section 6) -/

/-- The origin of a slot's value (Table 6-1). -/
inductive Origin where
  | loc
  | line (entry : Fin 32) (src : Half)
deriving DecidableEq, Repr

/-- The content fields of a slot (Table 6-1). -/
structure SlotContent where
  data : List Byte
  origin : Origin
  stamp : Word
deriving DecidableEq, Repr

/-- The three states of a slot (R95). -/
inductive SlotState where
  | empty
  | held (c : SlotContent)
  | stale (c : SlotContent)
deriving DecidableEq, Repr

/-- A capture slot (Table 6-1). -/
structure Slot where
  state : SlotState
  updates : Half
  unread : Bool
  watch : Bool
  wakeOnUpdate : Bool
  /-- The freshness limit in milliseconds, 0 for none. -/
  limit : Nat
deriving DecidableEq, Repr

/-- A slot after a full reset (R105). -/
def Slot.initial : Slot :=
  { state := .empty, updates := 0, unread := false, watch := false, wakeOnUpdate := false, limit := 0 }

/-! ### The responder (Section 7) -/

/-- The destination rule of a template (Table 7-1). -/
inductive DestRule where
  | toSender
  | fixed (addr : Half)
deriving DecidableEq, Repr

/-- The SEQ rule of a template (Table 7-1). -/
inductive SeqRule where
  | echo | count
deriving DecidableEq, Repr

/-- The late policies (Table 7-1). -/
inductive LatePolicy where
  | send | drop
deriving DecidableEq, Repr

/-- The stale policies (Table 7-1). -/
inductive StalePolicy where
  | send | suppress
deriving DecidableEq, Repr

/-- The substitution items (Table 7-2). -/
inductive Item where
  | copy (target source length : Nat)
  | slot (target : Nat) (slot : Fin 16)
  | stamp (target : Nat)
  | uses (target : Nat)
deriving DecidableEq, Repr

/-- A template (Table 7-1). -/
structure Template where
  defined : Bool
  dest : DestRule
  kind : Byte
  seqRule : SeqRule
  body : List Byte
  items : List Item
  late : LatePolicy
  stale : StalePolicy
  uses : Half
deriving DecidableEq, Repr

/-- UNDEFINED, with the empty content (Table 7-1). -/
def Template.empty : Template :=
  { defined := false, dest := .toSender, kind := 0x80, seqRule := .echo, body := [], items := [],
    late := .drop, stale := .suppress, uses := 0 }

/-- Where an entry of the reply queue or of the send queue stands: WAITING or QUEUED, ON_LINE, or BACKOFF
with the point of the line clock at which its back-off has run (R115, R124). -/
inductive TxState where
  | waiting
  | onLine
  | backoff (runsOut : Nat)
deriving DecidableEq, Repr

/-- An entry of the reply queue (R115).  `window` holds the frame end point of an IN_WINDOW entry and is
`none` for a CONTEND entry. -/
structure ReplyEntry where
  frame : Frame
  template : Fin 16
  late : LatePolicy
  window : Option Nat
  attempts : Nat
  state : TxState
deriving DecidableEq, Repr

/-- The eight responder counters (R121). -/
structure ResponderCounters where
  sent : Word
  lateSent : Word
  lateDropped : Word
  replyFailed : Word
  stopDiscarded : Word
  answerOverflow : Word
  copyShort : Word
  slotSuppressed : Word
deriving DecidableEq, Repr

/-- The responder (Section 7). -/
structure Responder where
  templates : Vector Template 16
  /-- The reply queue, in the order of builds. -/
  queue : List ReplyEntry
  /-- The reply sequence counter (R106). -/
  seqCounter : Byte
  counters : ResponderCounters
deriving DecidableEq, Repr

/-! ### The send queue and the arbiter (Section 8) -/

/-- An entry of the send queue (R124). -/
structure SendEntry where
  tag : Byte
  frame : Frame
  attempts : Nat
  state : TxState
deriving DecidableEq, Repr

/-- The send queue, oldest first, and the pass count (R124, R131). -/
structure Sender where
  queue : List SendEntry
  pass : Nat
deriving DecidableEq, Repr

/-! ### The message link (Section 9) -/

/-- The request kinds (Table 11-6). -/
inductive ReqKind where
  | identify | echo | timeRead | reset | lineSetup | addressSet | lineStart | lineStop
  | lineStatus | lineCounters | poolStatus | poolSetup
  | sievePut | sieveGet | sieveClear | sieveCopy | sieveDefault | sieveCommit
  | hitsRead | hitsClear | classifyStatus
  | queueSetup | queueStatus | framePeek | frameTake | frameDiscard | queueFlush
  | slotRead | slotWrite | slotClear | slotSetup
  | templatePut | templateGet | templateClear | responderStatus
  | frameSend | sendCancel | sendStatus | sleep | presenceSetup
deriving DecidableEq, Repr

/-- The inbound buffer (paragraph 9.2): EMPTY, FILLING with the message bytes received so far, or HELD. -/
inductive InBuffer where
  | empty
  | filling (bytes : List Byte)
  | held (kind tag : Byte) (body : List Byte)
deriving DecidableEq, Repr

/-- What the bytes of the present select period still mean to the link (R138 to R149): nothing, a request
message, or the next byte of a GET (ACK, FLAGS, or the marker at position 3). -/
inductive Exchange where
  | none | put | getAck | getFlags | getMarker
deriving DecidableEq, Repr

/-- An entry of the request table (R144); it stands for one reserved outbox place. -/
structure TableEntry where
  tag : Byte
  kind : ReqKind
deriving DecidableEq, Repr

/-- The reset causes (Table 11-10). -/
inductive ResetCause where
  | power | pin | request
deriving DecidableEq, Repr

/-- The LINK_REJECT reasons (R141). -/
inductive RejectReason where
  | short | tooLong | check | badAck
deriving DecidableEq, Repr

/-- A notice: its kind, its subject where it has one, and its body (Table 9-1, Table 11-13).  A wake cause
set is the 24 bits of paragraph 11.4. -/
inductive Notice where
  | ready (cause : ResetCause)
  | lineState (mode : LineMode) (resume : Option HearMode)
  | queueReady (q : Fin 4) (records cells : Nat)
  | queueFill (q : Fin 4) (records cells : Nat)
  | slotUpdate (slot : Fin 16) (updates : Half) (data : List Byte) (entry : Fin 32) (src : Half)
      (stamp : Word)
  | wakeCause (causes : BitVec 24) (merged : Half) (time : Word)
  | linkReject (reason : RejectReason) (tag : Byte) (merged : Half)
deriving DecidableEq, Repr

/-- The 28 notice kinds and subjects (R152). -/
inductive NoticeId where
  | ready
  | lineState
  | queueReady (q : Fin 4)
  | queueFill (q : Fin 4)
  | slotUpdate (slot : Fin 16)
  | wakeCause
  | linkReject
deriving DecidableEq, Repr

/-- What an outbox entry carries: a notice, or a reply with its kind code, its tag and its body.  `inline`
is the part of the body held in the entry and `chain` the part held in an OUTBOX chain, empty where the
entry carries no chain (R146). -/
inductive Message where
  | notice (n : Notice)
  | reply (kind tag : Byte) (inline chain : List Byte)
deriving DecidableEq, Repr

/-- An entry of the outbox (R146); `sent` is clear for UNSENT. -/
structure OutEntry where
  seq : Byte
  sent : Bool
  msg : Message
deriving DecidableEq, Repr

/-- The ten link counters (Table 9-2). -/
structure LinkCounters where
  puts : Word
  gets : Word
  badExchange : Word
  busyReplies : Word
  rejectShort : Word
  rejectTooLong : Word
  rejectCheck : Word
  rejectBadAck : Word
  refusalsDropped : Word
  resends : Word
deriving DecidableEq, Repr

/-- The message link (Section 9). -/
structure Link where
  buffer : InBuffer
  exchange : Exchange
  /-- The request table (R144). -/
  table : List TableEntry
  /-- The outbox, oldest first (R146). -/
  outbox : List OutEntry
  /-- The next sequence number (R146). -/
  nextSeq : Byte
  /-- The last removed sequence number (R146). -/
  lastRemoved : Byte
  /-- The pending notice set, oldest member first (R154). -/
  notices : List Notice
  counters : LinkCounters
deriving DecidableEq, Repr

/-! ### The presence controller (Section 10) -/

/-- The presence states (Table 10-1). -/
inductive PresenceState where
  | awake | dozeRequested | dozing | waking
deriving DecidableEq, Repr

/-- The 24 wake causes (R160). -/
inductive Cause where
  | verdict
  | fill (q : Fin 4)
  | slot (s : Fin 16)
  | lineFault
  | outboxHigh
  | host
deriving DecidableEq, Repr

/-- The wake mask: one enable for each of the four cause classes (R160). -/
structure WakeMask where
  fill : Bool
  slot : Bool
  lineFault : Bool
  outboxHigh : Bool
deriving DecidableEq, Repr

/-- The presence controller (R160). -/
structure Presence where
  state : PresenceState
  /-- The wake cause set, with the bit positions of paragraph 11.4. -/
  causes : BitVec 24
  dozeReply : Option Byte
  mask : WakeMask
  /-- The outbox high mark, 8 to 31. -/
  highMark : Nat
deriving DecidableEq, Repr

/-! ### The signals (Table 0-4) -/

/-- The signals: RESET_N held low, ATTN and WAKE asserted, and the bytes the part has shifted out on SDO
in the present select period. -/
structure Pins where
  resetLow : Bool
  attn : Bool
  wake : Bool
  sdo : List Byte
deriving DecidableEq, Repr

/-! ### The whole part -/

/-- The state of the part, and the queue of the commands that wait for it. -/
structure State where
  line : Line
  pool : Pool
  sieve : Sieve
  classifier : Classifier
  queues : Vector DeliveryQueue 4
  slots : Vector Slot 16
  responder : Responder
  sender : Sender
  link : Link
  presence : Presence
  pins : Pins
  /-- The commands that wait, first in, first out. -/
  pending : List Instr
deriving DecidableEq, Repr

/-- The manual names no condition under which the part stops, so no command ends in a fault: this type
has no constructor (safe: nothing is hidden behind a fault). -/
inductive Fault where
deriving DecidableEq, Repr

/-- The refusals of the model. -/
inductive Refusal where
  /-- Raised by an arm of exec for a command that has no meaning yet; no arm raises it now.  Safe: the
  model stops. -/
  | notModelled (mnemonic : String)
deriving DecidableEq, Repr

/-- The line interface after a full reset (R25). -/
def Line.initial : Line :=
  { mode := .stopped, resume := none, rate := .r250, own := [], group := [], receiver := .idle,
    transmitter := .idle, slot := .none, gap := .long, lastActivity := 0, stuckCount := 0,
    counters := ⟨0, 0, 0, 0, 0, 0, 0⟩, timebase := 0, fraction := 0, point := 0,
    lineStop := none, lineSide := none }

/-- The cell pool after a full reset (R38). -/
def Pool.initial : Pool :=
  { free := 192, receive := 0, classify := 0, queue := Vector.replicate 4 0, responder := 0, send := 0,
    outbox := 0, lowWater := 192, quota := 32 }

/-- The sieve table after a full reset (R57). -/
def Sieve.initial : Sieve :=
  { active := Bank.empty, staged := Bank.empty, generation := 0, commit := none }

/-- The classifier after a full reset (R75). -/
def Classifier.initial : Classifier :=
  { queue := [], eval := none, frameId := 0, hits := Vector.replicate 32 0, defaultHits := 0,
    counters := ⟨0, 0, 0, 0, 0⟩ }

/-- The delivery queues after a full reset (R93): the cell limit is 64 for Q0 and 32 for the others. -/
def initialQueues : Vector DeliveryQueue 4 :=
  (Vector.replicate 4 (DeliveryQueue.initial 32)).set 0 (DeliveryQueue.initial 64)

/-- The responder after a full reset (R122). -/
def Responder.initial : Responder :=
  { templates := Vector.replicate 16 Template.empty, queue := [], seqCounter := 0,
    counters := ⟨0, 0, 0, 0, 0, 0, 0, 0⟩ }

/-- The message link after a full reset, before READY is appended (R159). -/
def Link.initial : Link :=
  { buffer := .empty, exchange := .none, table := [], outbox := [], nextSeq := 1, lastRemoved := 0,
    notices := [], counters := ⟨0, 0, 0, 0, 0, 0, 0, 0, 0, 0⟩ }

/-- The presence controller after a full reset (R170). -/
def Presence.initial : Presence :=
  { state := .awake, causes := 0, dozeReply := none, mask := ⟨true, true, true, true⟩, highMark := 24 }

/-- Every block in its full-reset state, before the link appends READY (R159). -/
def State.cleared : State :=
  { line := Line.initial, pool := Pool.initial, sieve := Sieve.initial,
    classifier := Classifier.initial, queues := initialQueues, slots := Vector.replicate 16 Slot.initial,
    responder := Responder.initial, sender := ⟨[], 0⟩, link := Link.initial,
    presence := Presence.initial, pins := ⟨false, false, false, []⟩, pending := [] }

/-- The part right after power-up (R159): every block in its full-reset state, READY with cause POWER in
the outbox as sequence number 1, and ATTN asserted (R151). -/
def State.reset : State :=
  { State.cleared with
    link := { Link.initial with outbox := [⟨1, false, .notice (.ready .power)⟩], nextSeq := 2 }
    pins := ⟨false, true, false, []⟩ }

end Sys2Proof.Machine
end

