-- ==== Sys2Proof/Machine/Operands.lean ====
section
/-! DEFINITION. The operand forms: bytes and byte order (paragraph 0.7), the CRC of R2, stored and line
frames (Table 11-1), the code tables of Section 11, and the readings of the request bodies whose layout
carries counts or optional parts (Table 11-11, R172). -/

namespace Sys2Proof.Machine

/-! ### Bytes, high byte first -/

/-- The byte of a number, modulo 256. -/
def byteOf (n : Nat) : Byte := BitVec.ofNat 8 n

/-- Two bytes, high byte first. -/
def be16 (h : Half) : List Byte := [h.extractLsb' 8 8, h.extractLsb' 0 8]

/-- Four bytes, high byte first. -/
def be32 (w : Word) : List Byte :=
  [w.extractLsb' 24 8, w.extractLsb' 16 8, w.extractLsb' 8 8, w.extractLsb' 0 8]

/-- Three bytes, high byte first: the form of a wake cause set (paragraph 11.4). -/
def be24 (c : BitVec 24) : List Byte := [c.extractLsb' 16 8, c.extractLsb' 8 8, c.extractLsb' 0 8]

/-- The byte at an offset; the callers look only inside the body's length. -/
def byteAt (bs : List Byte) (i : Nat) : Byte := bs.getD i 0

/-- The number at an offset, one byte. -/
def natAt (bs : List Byte) (i : Nat) : Nat := (byteAt bs i).toNat

/-- The two bytes at an offset, high byte first. -/
def halfAt (bs : List Byte) (i : Nat) : Half := byteAt bs i ++ byteAt bs (i + 1)

/-- The four bytes at an offset, high byte first. -/
def wordAt (bs : List Byte) (i : Nat) : Word := halfAt bs i ++ halfAt bs (i + 2)

/-- A yes/no byte: 0 or 1 (Table 11-10). -/
def yesNo (b : Bool) : Byte := if b then 1 else 0

/-- The reading of a yes/no, present/absent or option byte (R173). -/
def yesNo? (b : Byte) : Option Bool := if b = 0 then some false else if b = 1 then some true else none

/-- The reading of a queue number, 0 to 3. -/
def queue? (b : Byte) : Option (Fin 4) := if h : b.toNat < 4 then some ⟨b.toNat, h⟩ else none

/-- The reading of a slot or template number, 0 to 15. -/
def sixteen? (b : Byte) : Option (Fin 16) := if h : b.toNat < 16 then some ⟨b.toNat, h⟩ else none

/-- The reading of an entry index, 0 to 31. -/
def index? (b : Byte) : Option (Fin 32) := if h : b.toNat < 32 then some ⟨b.toNat, h⟩ else none

/-- A field that may be none, which is 0xFF (Table 11-10). -/
def orNone? {α : Type} (read : Byte → Option α) (b : Byte) : Option (Option α) :=
  if b = 0xFF then some none else (read b).map some

/-- The byte of a number that may be none (0xFF). -/
def orNoneByte {n : Nat} (v : Option (Fin n)) : Byte := match v with
  | none => 0xFF
  | some i => byteOf i.val

/-! ### The CRC of R2 -/

/-- One bit of the CRC with the generator x^16 + x^12 + x^5 + 1 (R2). -/
def crcBit (c : Half) : Half := if c.msb then (c <<< 1) ^^^ 0x1021 else c <<< 1

/-- One byte, most significant bit first (R2). -/
def crcByte (c : Half) (b : Byte) : Half :=
  crcBit (crcBit (crcBit (crcBit (crcBit (crcBit (crcBit (crcBit (c ^^^ (b ++ (0 : Byte))))))))))

/-- The CRC-16 of a run of bytes, initial value 0xFFFF, neither inverted nor reflected (R2). -/
def crc (bs : List Byte) : Half := bs.foldl crcByte 0xFFFF

/-! ### Frames (Table 11-1) -/

/-- The bytes of the stored frame: DST, SRC, KIND, SEQ, LEN, payload. -/
def Frame.bytes (f : Frame) : List Byte :=
  be16 f.dst ++ be16 f.src ++ [f.kind, f.seq, byteOf f.payload.length] ++ f.payload

/-- The stored frame that 7 + LEN received bytes make. -/
def Frame.ofBytes (bs : List Byte) : Frame :=
  { dst := halfAt bs 0, src := halfAt bs 2, kind := byteAt bs 4, seq := byteAt bs 5,
    payload := bs.drop 7 }

/-- The stored frame's length, 7 + LEN. -/
def Frame.length (f : Frame) : Nat := 7 + f.payload.length

/-- The line frame the transmitter drives: 0x7E, the stored frame, and its FCS high byte first (R2, R7). -/
def Frame.lineBytes (f : Frame) : List Byte := 0x7E :: (f.bytes ++ be16 (crc f.bytes))

/-- A station address, 0x0001 to 0xEFFF (Table 1-2). -/
def isStation (a : Half) : Bool := a ≠ 0 && a.toNat < 0xF000

/-- A group address, 0xF000 to 0xFFFE (Table 1-2). -/
def isGroup (a : Half) : Bool := 0xF000 ≤ a.toNat && a.toNat < 0xFFFF

/-- The reply flag, the most significant bit of KIND (paragraph 1.3). -/
def replyFlag (kind : Byte) : Bool := kind.msb

/-- Unicast with the reply flag clear: the frames that open a reply slot (R4, R5). -/
def Frame.opensSlot (f : Frame) : Bool := isStation f.dst && !replyFlag f.kind

/-- The cells that `n` bytes need at 64 bytes a cell (R26). -/
def cellsFor (n : Nat) : Nat := (n + 63) / 64

/-- The cells of a stored frame (R26). -/
def Frame.cells (f : Frame) : Nat := cellsFor f.length

/-! ### Codes (Tables 11-6, 11-8, 11-10) -/

/-- The statuses (Table 11-8). -/
inductive Status where
  | done | unknownKind | badLength | badField | duplicateTag | tableFull | busy | noCell | empty
  | inUse | invalid | lineState | cancelled | aborted | failed | tooLate | notFound
deriving DecidableEq, Repr

/-- Table 11-8. -/
def Status.code : Status → Byte
  | .done => 0x00 | .unknownKind => 0x01 | .badLength => 0x02 | .badField => 0x03
  | .duplicateTag => 0x04 | .tableFull => 0x05 | .busy => 0x06 | .noCell => 0x08 | .empty => 0x09
  | .inUse => 0x0A | .invalid => 0x0B | .lineState => 0x0C | .cancelled => 0x0D | .aborted => 0x0E
  | .failed => 0x0F | .tooLate => 0x10 | .notFound => 0x11

/-- Table 11-6. -/
def ReqKind.code : ReqKind → Byte
  | .identify => 0x01 | .echo => 0x02 | .timeRead => 0x03 | .reset => 0x04
  | .lineSetup => 0x10 | .addressSet => 0x11 | .lineStart => 0x12 | .lineStop => 0x13
  | .lineStatus => 0x14 | .lineCounters => 0x15 | .poolStatus => 0x18 | .poolSetup => 0x19
  | .sievePut => 0x20 | .sieveGet => 0x21 | .sieveClear => 0x22 | .sieveCopy => 0x23
  | .sieveDefault => 0x24 | .sieveCommit => 0x25 | .hitsRead => 0x26 | .hitsClear => 0x27
  | .classifyStatus => 0x28
  | .queueSetup => 0x30 | .queueStatus => 0x31 | .framePeek => 0x32 | .frameTake => 0x33
  | .frameDiscard => 0x34 | .queueFlush => 0x35
  | .slotRead => 0x40 | .slotWrite => 0x41 | .slotClear => 0x42 | .slotSetup => 0x43
  | .templatePut => 0x50 | .templateGet => 0x51 | .templateClear => 0x52
  | .responderStatus => 0x53
  | .frameSend => 0x60 | .sendCancel => 0x61 | .sendStatus => 0x62
  | .sleep => 0x70 | .presenceSetup => 0x71

/-- The request kinds in the order of Table 11-6. -/
def ReqKind.all : List ReqKind :=
  [.identify, .echo, .timeRead, .reset, .lineSetup, .addressSet, .lineStart, .lineStop,
   .lineStatus, .lineCounters, .poolStatus, .poolSetup] ++
  [.sievePut, .sieveGet, .sieveClear, .sieveCopy, .sieveDefault, .sieveCommit,
   .hitsRead, .hitsClear, .classifyStatus] ++
  [.queueSetup, .queueStatus, .framePeek, .frameTake, .frameDiscard, .queueFlush,
   .slotRead, .slotWrite, .slotClear, .slotSetup] ++
  [.templatePut, .templateGet, .templateClear, .responderStatus,
   .frameSend, .sendCancel, .sendStatus, .sleep, .presenceSetup]

/-- Whether a kind byte is a request kind of Table 11-6. -/
def isRequestKind (b : Byte) : Bool := ReqKind.all.any (fun k => k.code == b)

/-- The kind of the reply to a request: the request's kind plus 0x80 (Table 11-5). -/
def ReqKind.replyCode (k : ReqKind) : Byte := k.code + 0x80

/-- The body lengths dispatch permits (Table 11-9): lowest and highest. -/
def ReqKind.bodyRange : ReqKind → Nat × Nat
  | .timeRead | .lineStop | .lineStatus | .poolStatus | .sieveCopy | .sieveCommit | .sendStatus
  | .sleep => (0, 0)
  | .identify | .reset | .lineSetup | .lineStart | .lineCounters | .poolSetup | .sieveClear
  | .classifyStatus | .framePeek | .frameTake | .queueFlush | .slotRead | .slotClear
  | .templateGet | .templateClear | .responderStatus | .sendCancel => (1, 1)
  | .sieveGet | .sieveDefault | .queueStatus | .frameDiscard => (2, 2)
  | .hitsRead | .hitsClear => (3, 3)
  | .slotSetup => (5, 5)
  | .presenceSetup => (6, 6)
  | .queueSetup => (9, 9)
  | .echo => (0, 319)
  | .addressSet | .slotWrite => (2, 320)
  | .frameSend => (6, 320)
  | .sievePut | .templatePut => (10, 320)

/-- Check 3 of dispatch (R171). -/
def ReqKind.lengthOk (k : ReqKind) (n : Nat) : Bool :=
  k.bodyRange.1 ≤ n && n ≤ k.bodyRange.2

/-- Line modes (Table 11-10). -/
def LineMode.code : LineMode → Byte
  | .stopped => 0 | .listening => 1 | .active => 2 | .faulted => 3

/-- The line mode of a hearing mode. -/
def HearMode.mode : HearMode → LineMode
  | .listening => .listening | .active => .active

/-- The mode LINE_START names, LISTENING or ACTIVE (R19). -/
def HearMode.ofByte? (b : Byte) : Option HearMode :=
  if b = 1 then some .listening else if b = 2 then some .active else none

/-- The resume mode, 0xFF for none (Table 11-10). -/
def resumeCode : Option HearMode → Byte
  | none => 0xFF
  | some m => m.mode.code

/-- Bit rates (Table 1-1). -/
def BitRate.code : BitRate → Byte
  | .r250 => 0 | .r500 => 1 | .r1000 => 2 | .r2000 => 3

/-- Bit rates (Table 1-1). -/
def BitRate.ofByte? (b : Byte) : Option BitRate :=
  if b = 0 then some .r250 else if b = 1 then some .r500
  else if b = 2 then some .r1000 else if b = 3 then some .r2000 else none

/-- Sixteenths of a bit time in a quarter microsecond: a bit time is 4, 2, 1 or 0.5 microseconds (Table 1-1). -/
def BitRate.sixteenths : BitRate → Nat
  | .r250 => 1 | .r500 => 2 | .r1000 => 4 | .r2000 => 8

/-- Receiver states (Table 11-10). -/
def Receiver.code : Receiver → Byte
  | .idle => 0 | .receiving _ => 1 | .following => 1 | .discarding => 2

/-- Transmitter states (Table 11-10). -/
def Transmitter.code : Transmitter → Byte
  | .idle => 0 | .gapWait _ => 1 | .sending _ _ _ => 2 | .jamming _ _ => 3

/-- The grant the transmitter carries, if any. -/
def Transmitter.grant? : Transmitter → Option Grant
  | .idle => none | .gapWait g => some g | .sending g _ _ => some g | .jamming g _ => some g

/-- Reply slot states (Table 11-10). -/
def ReplySlot.code : ReplySlot → Byte
  | .none => 0 | .own _ => 1 | .other _ => 2

/-- Address classes (Table 11-10). -/
def AddrClass.code : AddrClass → Byte
  | .own => 0 | .group => 1 | .all => 2 | .addressed => 3 | .others => 4 | .every => 5

/-- Address classes (Table 11-10). -/
def AddrClass.ofByte? (b : Byte) : Option AddrClass :=
  if b = 0 then some .own else if b = 1 then some .group else if b = 2 then some .all
  else if b = 3 then some .addressed else if b = 4 then some .others
  else if b = 5 then some .every else none

/-- Term operators (Table 11-10). -/
def TermOp.code : TermOp → Byte
  | .eq => 0 | .ne => 1 | .lt => 2 | .ge => 3 | .allSet => 4 | .anySet => 5

/-- Term operators (Table 11-10). -/
def TermOp.ofByte? (b : Byte) : Option TermOp :=
  if b = 0 then some .eq else if b = 1 then some .ne else if b = 2 then some .lt
  else if b = 3 then some .ge else if b = 4 then some .allSet
  else if b = 5 then some .anySet else none

/-- The bytes of a term's field (Table 3-3). -/
def TermWidth.bytes : TermWidth → Nat
  | .one => 1 | .two => 2 | .four => 4

/-- The widths 1, 2 and 4 (Table 3-4). -/
def TermWidth.ofByte? (b : Byte) : Option TermWidth :=
  if b = 1 then some .one else if b = 2 then some .two else if b = 4 then some .four else none

/-- Overflow policies (Table 11-10). -/
def Overflow.code : Overflow → Byte
  | .dropNewest => 0 | .dropOldest => 1

/-- Overflow policies (Table 11-10). -/
def Overflow.ofByte? (b : Byte) : Option Overflow :=
  if b = 0 then some .dropNewest else if b = 1 then some .dropOldest else none

/-- SEQ rules (Table 11-10). -/
def SeqRule.code : SeqRule → Byte
  | .echo => 0 | .count => 1

/-- SEQ rules (Table 11-10). -/
def SeqRule.ofByte? (b : Byte) : Option SeqRule :=
  if b = 0 then some .echo else if b = 1 then some .count else none

/-- Late policies (Table 11-10). -/
def LatePolicy.code : LatePolicy → Byte
  | .send => 0 | .drop => 1

/-- Late policies (Table 11-10). -/
def LatePolicy.ofByte? (b : Byte) : Option LatePolicy :=
  if b = 0 then some .send else if b = 1 then some .drop else none

/-- Stale policies (Table 11-10). -/
def StalePolicy.code : StalePolicy → Byte
  | .send => 0 | .suppress => 1

/-- Stale policies (Table 11-10). -/
def StalePolicy.ofByte? (b : Byte) : Option StalePolicy :=
  if b = 0 then some .send else if b = 1 then some .suppress else none

/-- Reset causes (Table 11-10). -/
def ResetCause.code : ResetCause → Byte
  | .power => 0 | .pin => 1 | .request => 2

/-- LINK_REJECT reasons (Table 11-10). -/
def RejectReason.code : RejectReason → Byte
  | .short => 0 | .tooLong => 1 | .check => 2 | .badAck => 3

/-- Reply entry and send entry states (Table 11-10). -/
def TxState.code : TxState → Byte
  | .waiting => 0 | .onLine => 1 | .backoff _ => 2

/-- Presence states (Table 11-10). -/
def PresenceState.code : PresenceState → Byte
  | .awake => 0 | .dozeRequested => 1 | .dozing => 2 | .waking => 3

/-- Slot states (Table 11-10). -/
def SlotState.code : SlotState → Byte
  | .empty => 0 | .held _ => 1 | .stale _ => 2

/-- The bit of a cause in the wake cause set (paragraph 11.4). -/
def Cause.bit : Cause → Nat
  | .verdict => 0
  | .fill q => 1 + q.val
  | .slot s => 5 + s.val
  | .lineFault => 21
  | .outboxHigh => 22
  | .host => 23

/-- The set that holds one cause. -/
def Cause.set (c : Cause) : BitVec 24 := BitVec.ofNat 24 (2 ^ c.bit)

/-! ### The sieve entry (Table 11-11, Table 3-4) -/

/-- Whether a 4-byte value has zero in the bytes above the term's width (Table 3-4). -/
def TermWidth.fits (w : TermWidth) (v : Word) : Bool := v.toNat < 2 ^ (8 * w.bytes)

/-- One term, 11 bytes: offset, width, operator, mask, operand, with the checks of Table 3-4. -/
def term? (bs : List Byte) : Option Term := do
  let width ← TermWidth.ofByte? (byteAt bs 1)
  let op ← TermOp.ofByte? (byteAt bs 2)
  let t : Term :=
    { offset := natAt bs 0, width := width, op := op, mask := wordAt bs 3, operand := wordAt bs 7 }
  if t.offset ≤ 247 ∧ t.offset + width.bytes ≤ 248 ∧ width.fits t.mask ∧ width.fits t.operand then
    some t
  else none

/-- `n` terms of 11 bytes each. -/
def terms? : Nat → List Byte → Option (List Term)
  | 0, _ => some []
  | n + 1, bs => do
    let t ← term? bs
    let ts ← terms? n (bs.drop 11)
    some (t :: ts)

/-- The source window (Table 3-4): absent, or low and high station addresses with low not above high. -/
def window? (present : Byte) (bs : List Byte) : Option (Option (Half × Half)) := do
  let p ← yesNo? present
  if p then
    let low := halfAt bs 0
    let high := halfAt bs 2
    if isStation low ∧ isStation high ∧ low.toNat ≤ high.toNat then some (some (low, high)) else none
  else some none

/-- The capture (Table 3-4). -/
def capture? (present : Byte) (bs : List Byte) : Option (Option Capture) := do
  let p ← yesNo? present
  if p then
    let slot ← sixteen? (byteAt bs 0)
    let off := natAt bs 1
    let len := natAt bs 2
    if off ≤ 247 ∧ 1 ≤ len ∧ len ≤ 16 ∧ off + len ≤ 248 then some (some ⟨slot, off, len⟩) else none
  else some none

/-- The bytes of the optional window, from its presence code at face value (R172). -/
def windowBytes (present : Byte) : Nat := if present = 0 then 0 else 4

/-- The bytes of the optional capture, from its presence code at face value (R172). -/
def captureBytes (present : Byte) : Nat := if present = 0 then 0 else 3

/-- The length a sieve entry declares, its counts and presence codes at face value (R172). -/
def entryLength (bs : List Byte) : Nat :=
  9 + windowBytes (byteAt bs 4) + captureBytes (byteAt bs 5) + 11 * natAt bs 3

/-- The reading of a sieve entry, IN_USE, under the checks of Table 3-4; `none` is BAD_FIELD (R42). -/
def entry? (bs : List Byte) : Option Entry := do
  let cls ← AddrClass.ofByte? (byteAt bs 0)
  let w := windowBytes (byteAt bs 4)
  let c := captureBytes (byteAt bs 5)
  let window ← window? (byteAt bs 4) (bs.drop 9)
  let capture ← capture? (byteAt bs 5) (bs.drop (9 + w))
  let deliver ← orNone? queue? (byteAt bs 6)
  let answer ← orNone? sixteen? (byteAt bs 7)
  if natAt bs 3 ≤ 4 ∧ natAt bs 8 < 4 then
    let terms ← terms? (natAt bs 3) (bs.drop (9 + w + c))
    some { inUse := true, cls := cls, kindValue := byteAt bs 1, kindMask := byteAt bs 2,
           window := window, terms := terms, deliver := deliver, answer := answer,
           capture := capture, wake := (byteAt bs 8).getLsbD 0, continue_ := (byteAt bs 8).getLsbD 1 }
  else none

/-- A term as Table 11-11 carries it. -/
def Term.bytes (t : Term) : List Byte :=
  [byteOf t.offset, byteOf t.width.bytes, t.op.code] ++ be32 t.mask ++ be32 t.operand

/-- A sieve entry as Table 11-11 carries it. -/
def Entry.bytes (e : Entry) : List Byte :=
  [e.cls.code, e.kindValue, e.kindMask, byteOf e.terms.length, yesNo e.window.isSome,
   yesNo e.capture.isSome, orNoneByte e.deliver, orNoneByte e.answer,
   yesNo e.wake ||| (yesNo e.continue_ <<< 1)] ++
  (match e.window with
   | none => []
   | some (low, high) => be16 low ++ be16 high) ++
  (match e.capture with
   | none => []
   | some c => [byteOf c.slot.val, byteOf c.offset, byteOf c.length]) ++
  e.terms.flatMap Term.bytes

/-! ### The template (Table 11-11, R107) -/

/-- The bytes of a substitution item from its kind code; a kind that is not 0 to 3 is taken as 2 (R172). -/
def itemBytes (kind : Byte) : Nat := if kind = 0 then 4 else if kind = 1 then 3 else 2

/-- The bytes of `n` items, cut apart; `none` when they do not fill the bytes exactly (R172). -/
def splitItems : Nat → List Byte → Option (List (List Byte))
  | 0, bs => if bs = [] then some [] else none
  | n + 1, bs =>
    if bs = [] then none
    else if bs.length < itemBytes (byteAt bs 0) then none
    else (splitItems n (bs.drop (itemBytes (byteAt bs 0)))).map
      (fun rest => bs.take (itemBytes (byteAt bs 0)) :: rest)

/-- One item under the checks of R107 against the body length. -/
def item? (bodyLen : Nat) (bs : List Byte) : Option Item :=
  let target := natAt bs 1
  if byteAt bs 0 = 0 then
    let source := natAt bs 2
    let len := natAt bs 3
    if 1 ≤ len ∧ len ≤ 16 ∧ source ≤ 247 ∧ source + len ≤ 248 ∧ target + len ≤ bodyLen then
      some (.copy target source len)
    else none
  else if byteAt bs 0 = 1 then
    match sixteen? (byteAt bs 2) with
    | some s => if target + 16 ≤ bodyLen then some (.slot target s) else none
    | none => none
  else if byteAt bs 0 = 2 then if target + 4 ≤ bodyLen then some (.stamp target) else none
  else if byteAt bs 0 = 3 then if target + 2 ≤ bodyLen then some (.uses target) else none
  else none

/-- Items in list order. -/
def items? (bodyLen : Nat) : List (List Byte) → Option (List Item)
  | [] => some []
  | bs :: rest => do
    let i ← item? bodyLen bs
    let is ← items? bodyLen rest
    some (i :: is)

/-- The destination rule; the address of a TO_SENDER rule is not judged (R173). -/
def destRule? (code : Byte) (addr : Half) : Option DestRule :=
  if code = 0 then some .toSender
  else if code = 1 then if addr = 0 then none else some (.fixed addr)
  else none

/-- The items' bytes of a template, from its body length at face value (R172). -/
def templateItems (bs : List Byte) : Option (List (List Byte)) :=
  if bs.length < 9 + natAt bs 7 then none
  else splitItems (natAt bs 8) (bs.drop (9 + natAt bs 7))

/-- The reading of a template whose items have been cut apart, under the checks of R107; the reply flag is
set whatever was carried (R108). -/
def template? (bs : List Byte) (rawItems : List (List Byte)) : Option Template := do
  let dest ← destRule? (byteAt bs 0) (halfAt bs 1)
  let seqRule ← SeqRule.ofByte? (byteAt bs 4)
  let late ← LatePolicy.ofByte? (byteAt bs 5)
  let stale ← StalePolicy.ofByte? (byteAt bs 6)
  let bodyLen := natAt bs 7
  if bodyLen ≤ 248 ∧ natAt bs 8 ≤ 6 then
    let items ← items? bodyLen rawItems
    some { defined := true, dest := dest, kind := byteAt bs 3 ||| 0x80, seqRule := seqRule,
           body := (bs.drop 9).take bodyLen, items := items, late := late, stale := stale, uses := 0 }
  else none

/-- An item as Table 11-11 carries it. -/
def Item.bytes : Item → List Byte
  | .copy target source len => [0, byteOf target, byteOf source, byteOf len]
  | .slot target s => [1, byteOf target, byteOf s.val]
  | .stamp target => [2, byteOf target]
  | .uses target => [3, byteOf target]

/-- The destination rule and address bytes; the address of TO_SENDER is reported 0x0000 (R173). -/
def DestRule.bytes : DestRule → List Byte
  | .toSender => [0, 0, 0]
  | .fixed a => 1 :: be16 a

/-- A template as Table 11-11 carries it. -/
def Template.bytes (t : Template) : List Byte :=
  t.dest.bytes ++ [t.kind, t.seqRule.code, t.late.code, t.stale.code, byteOf t.body.length,
    byteOf t.items.length] ++ t.body ++ t.items.flatMap Item.bytes

/-! ### Other request bodies -/

/-- The settings QUEUE_SETUP carries after its queue byte (Table 11-14), under the checks of R77. -/
def queueSettings? (bs : List Byte) : Option QueueSettings := do
  let enabled ← yesNo? (byteAt bs 0)
  let policy ← Overflow.ofByte? (byteAt bs 5)
  let wakeOnFill ← yesNo? (byteAt bs 7)
  if 1 ≤ natAt bs 1 ∧ natAt bs 1 ≤ 64 ∧ natAt bs 2 ≤ 192 ∧ natAt bs 6 ≤ 64 then
    some { enabled := enabled, depth := natAt bs 1, cells := natAt bs 2, age := (halfAt bs 3).toNat,
           policy := policy, fill := natAt bs 6, wakeOnFill := wakeOnFill }
  else none

/-- The settings in the order of QUEUE_SETUP (Table 11-15, QUEUE_STATUS). -/
def QueueSettings.bytes (q : QueueSettings) : List Byte :=
  [yesNo q.enabled, byteOf q.depth, byteOf q.cells] ++ be16 (BitVec.ofNat 16 q.age) ++
  [q.policy.code, byteOf q.fill, yesNo q.wakeOnFill]

/-- `n` addresses of two bytes each. -/
def addresses : Nat → List Byte → List Half
  | 0, _ => []
  | n + 1, bs => halfAt bs 0 :: addresses n (bs.drop 2)

end Sys2Proof.Machine
end

