-- ==== Sys2Proof/Machine/Flags.lean ====
section
/-! DEFINITION. The signals and flags computed from the rest of the state: ATTN (R151), WAKE (R164), the
flag byte of a record (Table 11-12), and the saturating counters (paragraph 0.7). -/

namespace Sys2Proof.Machine

/-- A counter counts `n` more and stops at 0xFFFFFFFF (paragraph 0.7, Counters). -/
def bumpBy (c : Word) (n : Nat) : Word :=
  if c.toNat + n < 2 ^ 32 then BitVec.ofNat 32 (c.toNat + n) else 0xFFFFFFFF

/-- A counter counts one (paragraph 0.7, Counters). -/
def bump (c : Word) : Word := bumpBy c 1

/-- How many outbox entries are SENT (R146). -/
def Link.sentCount (l : Link) : Nat := l.outbox.countP (fun e => e.sent)

/-- Whether an UNSENT outbox entry exists. -/
def Link.hasUnsent (l : Link) : Bool := l.outbox.any (fun e => !e.sent)

/-- Outbox entries plus request-table entries, the sum that never exceeds 32 (R144). -/
def Link.occupancy (l : Link) : Nat := l.outbox.length + l.table.length

/-- The condition under which the link asserts ATTN (R151). -/
def State.attnCondition (s : State) : Bool :=
  (s.presence.state = .awake || s.presence.state = .dozeRequested) &&
  s.link.hasUnsent && decide (s.link.sentCount < 8)

/-- ATTN and WAKE follow in the same operation whatever changes what they depend on (R151, R164, R167). -/
def State.drivePins (s : State) : State :=
  { s with pins := { s.pins with attn := s.attnCondition, wake := decide (s.presence.state = .waking) } }

/-- The end of every command: the signals are driven, and the part goes on. -/
def done (s : State) : Host.Outcome State Fault Refusal := .next s.drivePins

/-- The flag byte of a record: bit 0 answered, bit 1 wake, bit 2 captured (Table 11-12). -/
def Record.flags (r : Record) : Byte :=
  yesNo r.answered ||| (yesNo r.wake <<< 1) ||| (yesNo r.captured <<< 2)

end Sys2Proof.Machine
end

