-- ==== Sys2Proof/Machine/Ops.lean ====
section
/-! DEFINITION. The operations the blocks share: time (R23), the cell pool (Section 2), wake causes (R163),
the outbox and the request table (R144 to R146), notices (R152 to R155), dispatch (R142, R143), and the
full reset (R159). -/

namespace Sys2Proof.Machine

/-! ### Lists -/

/-- The first member that meets `p` is changed by `f`. -/
def changeFirst {α : Type} (p : α → Bool) (f : α → α) : List α → List α
  | [] => []
  | a :: as => if p a then f a :: as else a :: changeFirst p f as

/-! ### Time (R23, R4) -/

/-- The width of `n` bit times on the line clock, which counts sixteenths of a bit time (log 3). -/
def bits (n : Nat) : Nat := 16 * n

/-- `dt` quarter microseconds pass: the timebase counts the whole microseconds, and the line clock runs in every
mode except STOPPED (R4, R23).  At every rate of Table 1-1 a quarter microsecond is a whole number of sixteenths
of a bit time, so no count is rounded. -/
def Line.elapse (l : Line) (dt : Nat) : Line :=
  if l.mode = .stopped then
    { l with
      timebase := l.timebase + BitVec.ofNat 32 ((l.fraction.toNat + dt) / 4)
      fraction := l.fraction + BitVec.ofNat 2 dt }
  else
    { l with
      timebase := l.timebase + BitVec.ofNat 32 ((l.fraction.toNat + dt) / 4)
      fraction := l.fraction + BitVec.ofNat 2 dt
      point := l.point + dt * l.rate.sixteenths }

/-- `dt` quarter microseconds pass; the timebase counts from the end of a reset, so not while RESET_N is low (R25). -/
def State.elapse (s : State) (dt : Nat) : State :=
  if s.pins.resetLow then s else { s with line := s.line.elapse dt }

/-- An age in milliseconds: the microseconds from the stamp to now, modulo 2^32, divided by 1000 (R23). -/
def ageMs (now stamp : Word) : Nat := (now - stamp).toNat / 1000

/-- Whether the line clock stands `n` bit times or more after `start`. -/
def Line.reached (l : Line) (start n : Nat) : Bool := decide (start + bits n ≤ l.point)

/-- The receiver hears in LISTENING and ACTIVE (R11). -/
def Line.hears (l : Line) : Bool := l.mode = .listening || l.mode = .active

/-- A stopping sequence is in progress: it waits for a jam to end (R21, R22). -/
def Line.stopping (l : Line) : Bool :=
  l.lineStop.isSome || (match l.lineSide with
    | some r => decide (r.phase = .stopping)
    | none => false)

/-- A stopping sequence or a line-side reset is in progress (R67, R125, R130). -/
def Line.stoppingOrReset (l : Line) : Bool := l.lineStop.isSome || l.lineSide.isSome

/-! ### The cell pool (Section 2) -/

/-- The held count of a holder (R26). -/
def Pool.held (p : Pool) : Holder → Nat
  | .receive => p.receive
  | .classify => p.classify
  | .queue q => p.queue[q]
  | .responder => p.responder
  | .send => p.send
  | .outbox => p.outbox

/-- Sets the held count of a holder. -/
def Pool.setHeld (p : Pool) (h : Holder) (n : Nat) : Pool :=
  match h with
  | .receive => { p with receive := n }
  | .classify => { p with classify := n }
  | .queue q => { p with queue := p.queue.set q n }
  | .responder => { p with responder := n }
  | .send => { p with send := n }
  | .outbox => { p with outbox := n }

/-- An ordinary claim succeeds when it leaves at least 16 less RESPONDER's cells free (R28). -/
def Pool.ordinaryOk (p : Pool) (c : Nat) : Bool :=
  decide (c ≤ p.free) && decide (16 - p.responder ≤ p.free - c)

/-- The send quota (R30). -/
def Pool.quotaOk (p : Pool) (c : Nat) : Bool := decide (p.send + c ≤ p.quota)

/-- The responder claim succeeds when the free count is at least the number of cells asked (R29). -/
def Pool.responderOk (p : Pool) (c : Nat) : Bool := decide (c ≤ p.free)

/-- A granted claim: cells leave FREE for the holder, and the low-water mark follows (R28, R34). -/
def Pool.claim (p : Pool) (h : Holder) (c : Nat) : Pool :=
  let q := p.setHeld h (p.held h + c)
  { q with free := p.free - c, lowWater := min p.lowWater (p.free - c) }

/-- A release: a chain's cells return to FREE; the low-water mark stands (R31).  A holder gives back no
more than it holds. -/
def Pool.release (p : Pool) (h : Holder) (c : Nat) : Pool :=
  let n := min c (p.held h)
  let q := p.setHeld h (p.held h - n)
  { q with free := p.free + n }

/-- A move: a chain passes from one holder to another, and the free count stays (R32). -/
def Pool.move (p : Pool) (a b : Holder) (c : Nat) : Pool :=
  let n := min c (p.held a)
  let q := p.setHeld a (p.held a - n)
  q.setHeld b (q.held b + n)

/-- The nine held counts and the free count together (R26). -/
def Pool.total (p : Pool) : Nat :=
  p.free + p.receive + p.classify + (p.queue[0] + p.queue[1] + p.queue[2] + p.queue[3]) +
  p.responder + p.send + p.outbox

/-- A granted claim on the state's pool. -/
def State.claim (s : State) (h : Holder) (c : Nat) : State := { s with pool := s.pool.claim h c }

/-- A release on the state's pool. -/
def State.release (s : State) (h : Holder) (c : Nat) : State := { s with pool := s.pool.release h c }

/-- A move on the state's pool. -/
def State.moveCells (s : State) (a b : Holder) (c : Nat) : State :=
  { s with pool := s.pool.move a b c }

/-! ### Wake causes (R163) -/

/-- Whether the mask admits a cause; VERDICT and HOST have no enable (Table 10-2, R163). -/
def WakeMask.admits (m : WakeMask) : Cause → Bool
  | .verdict => true
  | .fill _ => m.fill
  | .slot _ => m.slot
  | .lineFault => m.lineFault
  | .outboxHigh => m.outboxHigh
  | .host => true

/-- A given cause is discarded, joins the set, or joins it and starts WAKING (R163, R164). -/
def Presence.give (p : Presence) (c : Cause) : Presence :=
  if p.mask.admits c then
    match p.state with
    | .awake => p
    | .dozeRequested | .waking => { p with causes := p.causes ||| c.set }
    | .dozing => { p with causes := p.causes ||| c.set, state := .waking }
  else p

/-- A block gives a wake cause to the presence controller. -/
def State.give (s : State) (c : Cause) : State := { s with presence := s.presence.give c }

/-! ### The outbox (R146, R155) -/

/-- A message is appended at the tail, UNSENT, with the next sequence number (R146); an append that brings
the entries to the high mark gives OUTBOX_HIGH (R155). -/
def State.append (s : State) (m : Message) : State :=
  let t : State :=
    { s with link :=
        { s.link with
          outbox := s.link.outbox ++ [⟨s.link.nextSeq, false, m⟩]
          nextSeq := s.link.nextSeq + 1 } }
  if t.link.outbox.length = s.presence.highMark then t.give .outboxHigh else t

/-! ### Notices (R152 to R154) -/

/-- The kind and subject of a notice (R152). -/
def Notice.id : Notice → NoticeId
  | .ready _ => .ready
  | .lineState _ _ => .lineState
  | .queueReady q _ _ => .queueReady q
  | .queueFill q _ _ => .queueFill q
  | .slotUpdate s _ _ _ _ _ => .slotUpdate s
  | .wakeCause _ _ _ => .wakeCause
  | .linkReject _ _ _ => .linkReject

/-- The sum of two merged counts, saturating at 0xFFFF (R152, R153, R166). -/
def addMerged (a b : Half) : Half :=
  if a.toNat + b.toNat < 2 ^ 16 then a + b else 0xFFFF

/-- The older body takes the newer one (R152, R153, R166): LINK_REJECT and WAKE_CAUSE add their merged
counts, WAKE_CAUSE takes the union of the sets, and every other kind takes the new body whole. -/
def Notice.merge (old new : Notice) : Notice :=
  match old, new with
  | .wakeCause c m _, .wakeCause c' m' t' => .wakeCause (c ||| c') (addMerged m m') t'
  | .linkReject _ _ m, .linkReject r' g' m' => .linkReject r' g' (addMerged m m')
  | _, n => n

/-- Whether an outbox entry is an UNSENT notice of a kind and subject. -/
def OutEntry.isUnsentNotice (i : NoticeId) (e : OutEntry) : Bool :=
  match e.msg with
  | .notice n => !e.sent && n.id = i
  | .reply _ _ _ _ => false

/-- An outbox entry whose notice takes a newer body. -/
def OutEntry.mergeNotice (new : Notice) (e : OutEntry) : OutEntry :=
  match e.msg with
  | .notice n => { e with msg := .notice (n.merge new) }
  | .reply _ _ _ _ => e

/-- A block posts a notice: it updates an UNSENT notice or a pending member of its kind and subject, is
appended, or joins the pending notice set (R152). -/
def State.post (s : State) (n : Notice) : State :=
  if s.link.outbox.any (OutEntry.isUnsentNotice n.id) then
    { s with link := { s.link with
        outbox := changeFirst (OutEntry.isUnsentNotice n.id) (OutEntry.mergeNotice n) s.link.outbox } }
  else if s.link.notices.any (fun m => m.id = n.id) then
    { s with link := { s.link with
        notices := changeFirst (fun m => m.id = n.id) (fun m => m.merge n) s.link.notices } }
  else if s.link.occupancy < 32 then s.append (.notice n)
  else { s with link := { s.link with notices := s.link.notices ++ [n] } }

/-- The given members of the pending notice set, oldest first, move to the outbox while there is room. -/
def State.moveNotices (s : State) : List Notice → State
  | [] => s
  | n :: ns =>
    if s.link.occupancy < 32 then
      State.moveNotices
        (State.append { s with link := { s.link with notices := ns } } (.notice n)) ns
    else s

/-- When there is room, the oldest members of the pending notice set are appended to the outbox (R154). -/
def State.drainNotices (s : State) : State := s.moveNotices s.link.notices

/-! ### The request table and completion (R144, R145) -/

/-- Whether a request-table entry holds a tag (R142, check 4). -/
def Link.holdsTag (l : Link) (tag : Byte) : Bool := l.table.any (fun e => e.tag == tag)

/-- A request completes: its reply is appended in the place its table entry reserves, and the entry is
released (R145).  Without a table entry there is no place and no reply. -/
def State.complete (s : State) (k : ReqKind) (tag : Byte) (inline chain : List Byte) : State :=
  if s.link.holdsTag tag then
    let t := s.append (.reply k.replyCode tag inline chain)
    { t with link := { t.link with table := t.link.table.eraseP (fun e => e.tag == tag) } }
  else s

/-- A request completes with a status and no further content (R174). -/
def State.refuse (s : State) (k : ReqKind) (tag : Byte) (st : Status) : State :=
  s.complete k tag [st.code] []

/-- A request completes DONE with the given content after the status byte and has the given effect.  A body
of more than 48 bytes is claimed for first; where the claim is refused, the reply is NO_CELL and the
request is not carried out (R145). -/
def State.answer (s : State) (k : ReqKind) (tag : Byte) (content : List Byte)
    (effect : State → State) : State :=
  let body := Status.done.code :: content
  if body.length ≤ 48 then (effect s).complete k tag body []
  else if s.pool.ordinaryOk (cellsFor body.length) then
    (effect (s.claim .outbox (cellsFor body.length))).complete k tag [] body
  else s.refuse k tag .noCell

/-! ### Dispatch (R142, R143) -/

/-- A dispatch refusal: its reply is appended while the sum is below 32, and otherwise dropped and counted
(R143). -/
def State.refuseDispatch (s : State) (replyKind tag : Byte) (body : List Byte) : State :=
  if s.link.occupancy < 32 then s.append (.reply replyKind tag body [])
  else { s with link := { s.link with counters :=
    { s.link.counters with refusalsDropped := bump s.link.counters.refusalsDropped } } }

/-- The status of the first check of R142 that fails, for a message whose kind is the request kind `k`. -/
def State.dispatchStatus (s : State) (k : ReqKind) (tag : Byte) (body : List Byte) : Option Status :=
  if tag = 0xFF then some .badField
  else if !k.lengthOk body.length then some .badLength
  else if s.link.holdsTag tag then some .duplicateTag
  else if 8 ≤ s.link.table.length then some .tableFull
  else if 32 ≤ s.link.occupancy then some .tableFull
  else none

/-- The buffer becomes EMPTY. -/
def State.emptyBuffer (s : State) : State := { s with link := { s.link with buffer := .empty } }

/-- A request takes its request-table entry (R142, R144). -/
def State.enterTable (s : State) (k : ReqKind) (tag : Byte) : State :=
  { s with link := { s.link with table := s.link.table ++ [⟨tag, k⟩] } }

/-- Dispatch of a HELD message of kind `k`: the buffer is emptied, the checks of R142 are made, and a
message that passes takes a table entry and is handed to its block (`act` with the tag and the body).
Where no message of that kind is HELD there is nothing to dispatch. -/
def State.dispatch (s : State) (k : ReqKind) (act : Byte → List Byte → State → State) : State :=
  match s.link.buffer with
  | .held kind tag body =>
    if kind = k.code then
      match s.emptyBuffer.dispatchStatus k tag body with
      | some st => s.emptyBuffer.refuseDispatch k.replyCode tag [st.code]
      | none => act tag body (s.emptyBuffer.enterTable k tag)
    else s
  | _ => s

/-! ### The full reset (R159) -/

/-- Every block takes its full-reset state; the commands that wait and the level of RESET_N stand. -/
def State.clearAll (s : State) : State :=
  { State.cleared with pins := { State.cleared.pins with resetLow := s.pins.resetLow },
                       pending := s.pending }

/-- A full reset that completes: every block is reset, and READY is appended as sequence number 1 (R159). -/
def State.fullReset (s : State) (cause : ResetCause) : State :=
  s.clearAll.append (.notice (.ready cause))

end Sys2Proof.Machine
end

