-- ==== Sys2Proof/Machine/Bodies.lean ====
section
/-! DEFINITION. The bodies the part sends: notices (Table 11-13), the outgoing message (Table 11-5), the
counter blocks and the contents of the DONE replies (Tables 11-11, 11-12, 11-15). -/

namespace Sys2Proof.Machine

/-- A notice's body (Table 11-13). -/
def Notice.body : Notice → List Byte
  | .ready cause =>
    cause.code :: (be16 Config.familyCode ++ be16 Config.partCode ++ [Config.revision])
  | .lineState mode resume => [mode.code, resumeCode resume]
  | .queueReady q records cells => [byteOf q.val, byteOf records, byteOf cells]
  | .queueFill q records cells => [byteOf q.val, byteOf records, byteOf cells]
  | .slotUpdate s updates data entry src stamp =>
    [byteOf s.val] ++ be16 updates ++ [byteOf data.length, byteOf entry.val] ++ be16 src ++
    be32 stamp ++ data
  | .wakeCause causes merged time => be24 causes ++ be16 merged ++ be32 time
  | .linkReject reason tag merged => [reason.code, tag] ++ be16 merged

/-- Notice kind codes (Table 11-7). -/
def Notice.code : Notice → Byte
  | .ready _ => 0xF8
  | .lineState _ _ => 0xF9
  | .queueReady _ _ _ => 0xFA
  | .queueFill _ _ _ => 0xFB
  | .slotUpdate _ _ _ _ _ _ => 0xFC
  | .wakeCause _ _ _ => 0xFD
  | .linkReject _ _ _ => 0xFE

/-- The kind code of a message. -/
def Message.kind : Message → Byte
  | .notice n => n.code
  | .reply k _ _ _ => k

/-- The tag of a message, 0xFF for a notice (Table 11-5). -/
def Message.tag : Message → Byte
  | .notice _ => 0xFF
  | .reply _ t _ _ => t

/-- The whole body of a message, the inline part first. -/
def Message.body : Message → List Byte
  | .notice n => n.body
  | .reply _ _ inline chain => inline ++ chain

/-- The cells of the chain a message carries, 0 where it carries none (R26). -/
def Message.cells : Message → Nat
  | .notice _ => 0
  | .reply _ _ _ chain => cellsFor chain.length

/-- The bytes the check covers: sequence number, kind, tag, body length, body (R149, Table 11-5). -/
def OutEntry.checked (e : OutEntry) : List Byte :=
  [e.seq, e.msg.kind, e.msg.tag] ++ be16 (BitVec.ofNat 16 e.msg.body.length) ++ e.msg.body

/-- The outgoing message from the marker on (R149). -/
def OutEntry.bytes (e : OutEntry) : List Byte := 0x01 :: (e.checked ++ be16 (crc e.checked))

/-- The line counters in the order of R24. -/
def LineCounters.bytes (c : LineCounters) : List Byte :=
  [c.good, c.fcsError, c.malformed, c.fragment, c.noCell, c.collisions, c.stuckEvents].flatMap be32

/-- The classifier counters in the order of R73. -/
def ClassifierCounters.bytes (c : ClassifierCounters) : List Byte :=
  [c.absorbed, c.overrun, c.captureShort, c.captureExcess, c.suppressed].flatMap be32

/-- A queue's counters in the order of Table 5-2. -/
def QueueCounters.bytes (c : QueueCounters) : List Byte :=
  [c.accepted, c.taken, c.removed, c.expired, c.disabledDrop, c.overflowNew, c.overflowOld].flatMap be32

/-- The responder counters in the order of R121. -/
def ResponderCounters.bytes (c : ResponderCounters) : List Byte :=
  [c.sent, c.lateSent, c.lateDropped, c.replyFailed, c.stopDiscarded, c.answerOverflow, c.copyShort,
   c.slotSuppressed].flatMap be32

/-- The link counters in the order of Table 9-2. -/
def LinkCounters.bytes (c : LinkCounters) : List Byte :=
  [c.puts, c.gets, c.badExchange, c.busyReplies, c.rejectShort, c.rejectTooLong, c.rejectCheck,
   c.rejectBadAck, c.refusalsDropped, c.resends].flatMap be32

/-- The present generation, two bytes. -/
def Sieve.generationBytes (s : Sieve) : List Byte := be16 s.generation

/-- IDENTIFY (R156, Table 11-15). -/
def State.identifyContent (s : State) : List Byte :=
  be16 Config.familyCode ++ be16 Config.partCode ++ [Config.revision] ++
  Config.capacities.flatMap (fun n => be16 (BitVec.ofNat 16 n)) ++
  [byteOf s.link.table.length, byteOf (s.link.outbox.length - s.link.sentCount),
   byteOf s.link.sentCount, byteOf s.link.notices.length, s.link.nextSeq, s.link.lastRemoved] ++
  s.link.counters.bytes

/-- LINE_STATUS (R24, Table 11-15). -/
def Line.statusContent (l : Line) : List Byte :=
  [l.mode.code, resumeCode l.resume, l.rate.code, l.receiver.code, l.transmitter.code, l.slot.code,
   yesNo l.stopping, byteOf l.own.length, byteOf l.group.length] ++
  l.own.flatMap be16 ++ l.group.flatMap be16

/-- POOL_STATUS (R35, Table 11-15). -/
def Pool.statusContent (p : Pool) : List Byte :=
  [p.free, p.receive, p.classify, p.queue[0], p.queue[1], p.queue[2], p.queue[3], p.responder, p.send,
   p.outbox, p.lowWater, p.quota].map byteOf

/-- SIEVE_GET (R46, Table 11-15). -/
def Sieve.getContent (s : Sieve) (bank : Byte) (index : Fin 32) (e : Entry) : List Byte :=
  [bank, byteOf index.val, yesNo e.inUse] ++ be16 s.generation ++ [yesNo s.commit.isSome] ++ e.bytes

/-- CLASSIFY_STATUS (R73, Table 11-15). -/
def State.classifyContent (s : State) : List Byte :=
  [yesNo s.classifier.eval.isSome] ++
  be16 (match s.classifier.eval with
    | some e => e.member.id
    | none => 0) ++
  [byteOf s.classifier.queue.length] ++ be16 s.classifier.frameId ++ be16 s.sieve.generation ++
  [yesNo s.sieve.commit.isSome] ++ s.classifier.counters.bytes

/-- A record's 18 fixed bytes (Table 11-12), with the record count given. -/
def Record.bytes (r : Record) (q : Fin 4) (count : Nat) (now : Word) : List Byte :=
  [byteOf q.val, byteOf count] ++ be16 r.id ++ be32 r.stamp ++ be16 r.generation ++
  [orNoneByte r.matched, r.flags, byteOf r.frame.length, byteOf r.frame.cells] ++
  be32 (BitVec.ofNat 32 (ageMs now r.stamp))

/-- QUEUE_STATUS (R90, Table 11-15); the age is 0xFFFFFFFF when the queue is empty (R174). -/
def State.queueContent (s : State) (q : Fin 4) : List Byte :=
  [byteOf q.val] ++ s.queues[q].settings.bytes ++
  [byteOf s.queues[q].records.length, byteOf s.pool.queue[q]] ++
  be32 (match s.queues[q].records with
    | [] => 0xFFFFFFFF
    | r :: _ => BitVec.ofNat 32 (ageMs s.line.timebase r.stamp)) ++
  s.queues[q].counters.bytes

/-- Slot origins (Table 11-10), with the entry index, 0xFF when LOCAL, and the SRC, 0x0000 when LOCAL. -/
def Origin.bytes : Origin → List Byte
  | .loc => [0, 0xFF, 0, 0]
  | .line entry src => [1, byteOf entry.val] ++ be16 src

/-- The content fields of a slot (Table 11-12, offsets 9 to 21 and the data). -/
def SlotContent.bytes (c : SlotContent) (now : Word) : List Byte :=
  [byteOf c.data.length] ++ c.origin.bytes ++ be32 c.stamp ++
  be32 (BitVec.ofNat 32 (ageMs now c.stamp)) ++ c.data

/-- The value a slot holds, whether HELD or STALE. -/
def SlotState.content? : SlotState → Option SlotContent
  | .empty => none
  | .held c => some c
  | .stale c => some c

/-- SLOT_READ (R101, Table 11-12). -/
def Slot.bytes (s : Slot) (n : Fin 16) (now : Word) : List Byte :=
  [byteOf n.val, s.state.code, yesNo s.unread] ++ be16 s.updates ++
  [yesNo s.watch, yesNo s.wakeOnUpdate] ++ be16 (BitVec.ofNat 16 s.limit) ++
  (match s.state.content? with
   | none => []
   | some c => c.bytes now)

/-- TEMPLATE_GET (R109, Table 11-15). -/
def Template.getContent (t : Template) (n : Fin 16) : List Byte :=
  [byteOf n.val, yesNo t.defined] ++ be16 t.uses ++ (if t.defined then t.bytes else [])

/-- A reply entry in RESPONDER_STATUS (Table 11-15). -/
def ReplyEntry.statusBytes (e : ReplyEntry) : List Byte :=
  [byteOf e.template.val, if e.window.isSome then 0 else 1, e.state.code, byteOf e.attempts,
   byteOf e.frame.length]

/-- RESPONDER_STATUS (R121, Table 11-15). -/
def State.responderContent (s : State) : List Byte :=
  [byteOf s.responder.queue.length] ++ s.responder.queue.flatMap ReplyEntry.statusBytes ++
  [byteOf s.pool.responder, s.responder.seqCounter] ++ s.responder.counters.bytes

/-- The back-off still to run, 0 when the entry is not in BACKOFF (Table 11-15): the whole bit times, one begun
counted as whole (log 31). -/
def TxState.remaining (t : TxState) (now : Nat) : Nat :=
  match t with
  | .backoff runsOut => (runsOut - now + 15) / 16
  | _ => 0

/-- A send entry in SEND_STATUS (Table 11-15). -/
def SendEntry.statusBytes (e : SendEntry) (now : Nat) : List Byte :=
  [e.tag, e.state.code, byteOf e.attempts] ++ be16 e.frame.dst ++ [byteOf e.frame.length] ++
  be16 (BitVec.ofNat 16 (e.state.remaining now))

/-- The frame the transmitter carries: none, a send entry with its tag, or a reply (Table 11-10). -/
def Transmitter.carriedBytes (t : Transmitter) : List Byte :=
  match t.grant? with
  | none => [0, 0xFF]
  | some g =>
    match g.source with
    | .send tag => [1, tag]
    | .reply => [2, 0xFF]

/-- SEND_STATUS (R129, Table 11-15). -/
def State.sendContent (s : State) : List Byte :=
  [byteOf s.sender.queue.length] ++
  s.sender.queue.flatMap (fun e => e.statusBytes s.line.point) ++
  [byteOf s.pool.send, byteOf s.sender.pass, s.line.transmitter.code] ++ s.line.transmitter.carriedBytes

/-- PRESENCE_SETUP (R168, Table 11-15): the state, the new mask and high mark, the outbox entries, and the
wake cause set before any clearing. -/
def State.presenceContent (s : State) (mask : WakeMask) (high : Nat) : List Byte :=
  [s.presence.state.code, yesNo mask.fill, yesNo mask.slot, yesNo mask.lineFault,
   yesNo mask.outboxHigh, byteOf high, byteOf s.link.outbox.length] ++ be24 s.presence.causes

end Sys2Proof.Machine
end

