-- ==== Sys2Proof/Machine/Exchange.lean ====
section
/-! DEFINITION. The exchanges on the SPI port (R138 to R141, R147 to R149), the host's return (R162, R165), the
link's own requests (R142, R156, R157) and the resets of the part (R159). -/

namespace Sys2Proof.Machine

/-! ### Shared operations -/

/-- Sets the link counters. -/
def State.setLinkCounters (s : State) (c : LinkCounters) : State :=
  { s with link := { s.link with counters := c } }

/-- Sets what the next byte of the select period means. -/
def State.setExchange (s : State) (e : Exchange) : State :=
  { s with link := { s.link with exchange := e } }

/-- The part shifts out further bytes in this select period. -/
def State.shiftOut (s : State) (bs : List Byte) : State :=
  { s with pins := { s.pins with sdo := s.pins.sdo ++ bs } }

/-- A new select period begins: nothing has been shifted out in it. -/
def State.newSelect (s : State) : State :=
  { s with link := { s.link with exchange := .none }, pins := { s.pins with sdo := [] } }

/-- The count of a rejection in its own counter (R141). -/
def LinkCounters.reject (c : LinkCounters) : RejectReason → LinkCounters
  | .short => { c with rejectShort := bump c.rejectShort }
  | .tooLong => { c with rejectTooLong := bump c.rejectTooLong }
  | .check => { c with rejectCheck := bump c.rejectCheck }
  | .badAck => { c with rejectBadAck := bump c.rejectBadAck }

/-- A rejection is counted and posted as LINK_REJECT with a merged count of 1 (R141, R153). -/
def State.reject (s : State) (r : RejectReason) (tag : Byte) : State :=
  (s.setLinkCounters (s.link.counters.reject r)).post (.linkReject r tag 1)

/-- A message in the inbound buffer is rejected: the buffer becomes EMPTY and the rest of the select period is
ignored (R140). -/
def State.rejectMessage (s : State) (r : RejectReason) (tag : Byte) : State :=
  State.reject { s with link := { s.link with buffer := .empty, exchange := .none } } r tag

/-- The tag byte as received, or 0xFF when it had not arrived (R141). -/
def receivedTag (bs : List Byte) : Byte := if 2 ≤ bs.length then byteAt bs 1 else 0xFF

/-- The select period ends while the buffer is FILLING: the message is SHORT (R140). -/
def State.endSelect (s : State) : State :=
  match s.link.buffer with
  | .filling bs => s.rejectMessage .short (receivedTag bs)
  | _ => s

/-- The declared body length of a message whose first four bytes have arrived (R140). -/
def declared (bs : List Byte) : Nat := (halfAt bs 2).toNat

/-- The bytes of a request message are judged as far as they have arrived (R140). -/
def State.judgeMessage (s : State) (bs : List Byte) : State :=
  if bs.length < 4 then { s with link := { s.link with buffer := .filling bs } }
  else if 320 < declared bs then s.rejectMessage .tooLong (byteAt bs 1)
  else if bs.length < 6 + declared bs then { s with link := { s.link with buffer := .filling bs } }
  else if crc (bs.take (4 + declared bs)) = halfAt bs (4 + declared bs) then
    { s with link := { s.link with
        buffer := .held (byteAt bs 0) (byteAt bs 1) ((bs.drop 4).take (declared bs))
        exchange := .none } }
  else s.rejectMessage .check (byteAt bs 1)

/-- What the part shifts out while `new` bytes of a message arrive, `got` of it having arrived before: 0x00 in
each byte position from 2 on.  The message's first byte stands in position 1, in which the link status, shifted
out at the exchange code, stands (R139, log 26). -/
def messageFill (got new : Nat) : List Byte := List.replicate (if got = 0 then new - 1 else new) 0x00

/-- The host shifts in further bytes of a request message (R140).  They count only while the buffer is
FILLING in the PUT that began it. -/
def State.receiveMessage (s : State) (new : List Byte) : State :=
  match s.link.buffer, s.link.exchange with
  | .filling bs, .put => (s.judgeMessage (bs ++ new)).shiftOut (messageFill bs.length new.length)
  | _, _ => s

/-! ### The host's return (R162, R165) -/

/-- An exchange in DOZING or WAKING returns presence to AWAKE, posts WAKE_CAUSE with the set and empties the
set (R165); HOST joins the set in DOZING. -/
def State.hostReturns (s : State) : State :=
  let causes :=
    if s.presence.state = .dozing then s.presence.causes ||| Cause.host.set else s.presence.causes
  let t : State := { s with presence := { s.presence with state := .awake } }
  let u := t.post (.wakeCause causes 1 s.line.timebase)
  { u with presence := { u.presence with causes := 0 } }

/-- The exchange code of a PUT is reported to the presence controller (R162, R165). -/
def State.reportPut (s : State) : State :=
  match s.presence.state with
  | .awake => s
  | .dozeRequested => { s with presence := { s.presence with state := .awake, dozeReply := none } }
  | .dozing | .waking => s.hostReturns

/-- The exchange code of a GET is reported to the presence controller (R162, R165). -/
def State.reportGet (s : State) : State :=
  match s.presence.state with
  | .awake | .dozeRequested => s
  | .dozing | .waking => s.hostReturns

/-! ### Exchange codes -/

/-- The exchange code 0x5A (R138, R139): PUTS is counted and reported; the part answers LINK_READY and the
buffer becomes FILLING, or LINK_BUSY when the buffer is HELD.  A message still FILLING was left by a select
period that has ended. -/
def execPut (dt : Nat) (s : State) : Host.Outcome State Fault Refusal :=
  let t := s.elapse dt
  if t.pins.resetLow then done t
  else
    let u := t.endSelect.newSelect
    let v := (u.setLinkCounters { u.link.counters with puts := bump u.link.counters.puts }).reportPut
    match v.link.buffer with
    | .held _ _ _ =>
      done ((v.setLinkCounters
        { v.link.counters with busyReplies := bump v.link.counters.busyReplies }).shiftOut [0x00, 0x02])
    | _ =>
      done (State.shiftOut
        { v with link := { v.link with buffer := .filling [], exchange := .put } } [0x00, 0x01])

/-- The exchange code 0xA5 (R138): GETS is counted and reported. -/
def execGet (dt : Nat) (s : State) : Host.Outcome State Fault Refusal :=
  let t := s.elapse dt
  if t.pins.resetLow then done t
  else
    let u := t.endSelect.newSelect
    let v := (u.setLinkCounters { u.link.counters with gets := bump u.link.counters.gets }).reportGet
    done ((v.setExchange .getAck).shiftOut [0x00])

/-- Any other exchange code (R138): BAD_EXCHANGE is counted, and the rest of the select period is ignored. -/
def execBadExchange (dt : Nat) (s : State) : Host.Outcome State Fault Refusal :=
  let t := s.elapse dt
  if t.pins.resetLow then done t
  else
    let u := t.endSelect.newSelect
    done ((u.setLinkCounters
      { u.link.counters with badExchange := bump u.link.counters.badExchange }).shiftOut [0x00])

/-! ### The message of a PUT -/

/-- MESSAGE_HELD: the bytes up to the second check byte arrive (R140). -/
def execMessageHeld (bytes : List Byte) (s : State) : Host.Outcome State Fault Refusal :=
  done (s.receiveMessage bytes)

/-- REJECT_TOO_LONG: the bytes up to the second body-length byte arrive (R140). -/
def execRejectTooLong (bytes : List Byte) (s : State) : Host.Outcome State Fault Refusal :=
  done (s.receiveMessage bytes)

/-- REJECT_SHORT: the bytes arrive, and the select period ends (R140). -/
def execRejectShort (bytes : List Byte) (s : State) : Host.Outcome State Fault Refusal :=
  done (s.receiveMessage bytes).endSelect

/-! ### The steps of a GET -/

/-- The presence controller is told which entries an ACK removed (R162): the removal of the doze reply leads to
DOZING, or to WAKING when the cause set holds any cause. -/
def Presence.acknowledge (p : Presence) (removed : List OutEntry) : Presence :=
  match p.dozeReply with
  | none => p
  | some d =>
    if p.state = .dozeRequested ∧ removed.any (fun e => e.seq == d) = true then
      { p with dozeReply := none, state := if p.causes = 0 then .dozing else .waking }
    else p

/-- An ACK removes the first `n` entries (R147): their chains are released, the last removed sequence number
becomes the ACK value, the removals are reported, and pending notices move (R154). -/
def State.removeAcked (s : State) (n : Nat) (ack : Byte) : State :=
  let removed := s.link.outbox.take n
  let t : State :=
    { s with
      link := { s.link with outbox := s.link.outbox.drop n, lastRemoved := ack }
      presence := s.presence.acknowledge removed }
  (t.release .outbox ((removed.map (fun e => e.msg.cells)).sum)).drainNotices

/-- The ACK step (R147). -/
def State.ackStep (s : State) (ack : Byte) : State :=
  match s.link.outbox.findIdx? (fun e => e.sent && e.seq == ack) with
  | some i => s.removeAcked (i + 1) ack
  | none => if ack = s.link.lastRemoved then s else s.reject .badAck ack

/-- GET_ACK: the ACK byte, position 1 of a GET (R147). -/
def execGetAck (ack : Byte) (s : State) : Host.Outcome State Fault Refusal :=
  if s.link.exchange = .getAck then
    done (((s.ackStep ack).setExchange .getFlags).shiftOut [0x00])
  else done s

/-- The last member that meets `p` is changed by `f`. -/
def changeLast {α : Type} (p : α → Bool) (f : α → α) (as : List α) : List α :=
  (changeFirst p f as.reverse).reverse

/-- Step 1 of R152 for a RESEND: a pending member whose kind and subject stands in the outbox, all of it now
UNSENT, is merged into the newest such notice and leaves the set. -/
def absorbPending (outbox : List OutEntry) : List Notice → List OutEntry × List Notice
  | [] => (outbox, [])
  | n :: ns =>
    if outbox.any (OutEntry.isUnsentNotice n.id) then
      absorbPending (changeLast (OutEntry.isUnsentNotice n.id) (OutEntry.mergeNotice n) outbox) ns
    else
      let r := absorbPending outbox ns
      (r.1, n :: r.2)

/-- What step 2 of R152 has made so far: the entries kept, how many notices were removed, and the number of the
doze reply. -/
structure Merging where
  kept : List OutEntry
  removed : Nat
  doze : Option Byte
deriving DecidableEq, Repr

/-- Step 2 of R152 for one entry: a notice whose kind and subject is already kept is merged into it and
removed; any other entry is kept, its number lower by the notices removed ahead of it. -/
def Merging.take (doze : Option Byte) (m : Merging) (e : OutEntry) : Merging :=
  let dup := match e.msg with
    | .notice n => m.kept.any (OutEntry.isUnsentNotice n.id)
    | .reply _ _ _ _ => false
  if dup then
    match e.msg with
    | .notice n =>
      { m with kept := changeFirst (OutEntry.isUnsentNotice n.id) (OutEntry.mergeNotice n) m.kept,
               removed := m.removed + 1 }
    | .reply _ _ _ _ => m
  else
    let seq := e.seq - BitVec.ofNat 8 m.removed
    { kept := m.kept ++ [{ e with seq := seq }]
      removed := m.removed
      doze := if doze = some e.seq then some seq else m.doze }

/-- RESEND (R148): every SENT entry becomes UNSENT, RESENDS is counted, and notices are merged (R152). -/
def State.resend (s : State) : State :=
  let unsent := s.link.outbox.map (fun e => { e with sent := false })
  let a := absorbPending unsent s.link.notices
  let m := a.1.foldl (Merging.take s.presence.dozeReply) ⟨[], 0, s.presence.dozeReply⟩
  State.drainNotices
    { s with
      link := { s.link with
        outbox := m.kept
        notices := a.2
        nextSeq := s.link.nextSeq - BitVec.ofNat 8 m.removed
        counters := { s.link.counters with resends := bump s.link.counters.resends } }
      presence := { s.presence with dozeReply := m.doze } }

/-- RESEND: the FLAGS byte, position 2 of a GET; bits 1 to 7 are ignored (R148). -/
def execResend (flags : Byte) (s : State) : Host.Outcome State Fault Refusal :=
  if s.link.exchange = .getFlags then
    let t := if flags.getLsbD 0 then s.resend else s
    done ((t.setExchange .getMarker).shiftOut [0x00])
  else done s

/-- The sending step (R149): the oldest UNSENT entry is shifted out and becomes SENT, or EMPTY or HOLD is. -/
def State.sendingStep (s : State) : State :=
  if 8 ≤ s.link.sentCount then s.shiftOut [0x02]
  else
    match s.link.outbox.find? (fun e => !e.sent) with
    | none => s.shiftOut [0x00]
    | some e =>
      State.shiftOut
        { s with link := { s.link with
            outbox := changeFirst (fun e => !e.sent) (fun e => { e with sent := true }) s.link.outbox } }
        e.bytes

/-- GET_SENDING_STEP: position 3 of a GET (R149).  A GET that has had no RESEND row before it carried a FLAGS
byte with RESEND clear. -/
def execGetSendingStep (s : State) : Host.Outcome State Fault Refusal :=
  match s.link.exchange with
  | .getFlags => done ((s.shiftOut [0x00]).sendingStep.setExchange .none)
  | .getMarker => done (s.sendingStep.setExchange .none)
  | _ => done s

/-! ### The link's own requests -/

/-- UNKNOWN_KIND_REQUEST: dispatch of a HELD message whose kind is not a request kind (R142, R143). -/
def execUnknownKindRequest (s : State) : Host.Outcome State Fault Refusal :=
  match s.link.buffer with
  | .held kind tag _ =>
    if isRequestKind kind then done s
    else
      done (s.emptyBuffer.refuseDispatch 0x80 tag
        [if tag = 0xFF then Status.badField.code else Status.unknownKind.code, kind])
  | _ => done s

/-- IDENTIFY (R156). -/
def execIdentify (s : State) : Host.Outcome State Fault Refusal :=
  done (s.dispatch .identify fun tag body t =>
    match yesNo? (byteAt body 0) with
    | none => t.refuse .identify tag .badField
    | some clear =>
      t.answer .identify tag t.identifyContent
        (fun u => if clear then u.setLinkCounters ⟨0, 0, 0, 0, 0, 0, 0, 0, 0, 0⟩ else u))

/-- ECHO (R157). -/
def execEcho (s : State) : Host.Outcome State Fault Refusal :=
  done (s.dispatch .echo fun tag body t => t.answer .echo tag body id)

/-- TIME_READ (R157). -/
def execTimeRead (s : State) : Host.Outcome State Fault Refusal :=
  done (s.dispatch .timeRead fun tag _ t => t.answer .timeRead tag (be32 t.line.timebase) id)

/-! ### The resets of the part -/

/-- POWER_UP: a full reset of every block with cause POWER (R159).  Where RESET_N is held low the reset
completes when it returns high. -/
def execPowerUp (s : State) : Host.Outcome State Fault Refusal :=
  if s.pins.resetLow then done s.clearAll else done (s.fullReset .power)

/-- RESET_N_ASSERT: RESET_N held low begins a full reset, and the part takes no exchange (R159). -/
def execResetNAssert (s : State) : Host.Outcome State Fault Refusal :=
  done (State.clearAll { s with pins := { s.pins with resetLow := true } })

/-- RESET_N_RELEASE: RESET_N returns high, and the full reset completes with cause PIN (R159). -/
def execResetNRelease (s : State) : Host.Outcome State Fault Refusal :=
  if s.pins.resetLow then
    done (State.fullReset { s with pins := { s.pins with resetLow := false } } .pin)
  else done s

end Sys2Proof.Machine
end

