-- ==== Sys2Proof/Machine/Queues.lean ====
section
/-! DEFINITION. The delivery queues: arrival (R78 to R82), expiry (R83, R84), removal (R85) and the queue
requests (R77, R86 to R90). -/

namespace Sys2Proof.Machine

/-! ### Shared operations -/

/-- Replaces delivery queue `q`. -/
def State.setQueue (s : State) (q : Fin 4) (d : DeliveryQueue) : State :=
  { s with queues := s.queues.set q d }

/-- Sets the counters of delivery queue `q`. -/
def State.setQueueCounters (s : State) (q : Fin 4) (c : QueueCounters) : State :=
  s.setQueue q { s.queues[q] with counters := c }

/-- The cells of a list of records together. -/
def cellsOf (rs : List Record) : Nat := (rs.map (fun r => r.frame.cells)).sum

/-- The records `kept` stay in queue `q`; the records `removed` leave it and their chains are released (R85). -/
def State.removeRecords (s : State) (q : Fin 4) (kept removed : List Record) : State :=
  (s.setQueue q { s.queues[q] with records := kept }).release (.queue q) (cellsOf removed)

/-- A record's age passes an age limit: the limit is not 0 and the age in milliseconds is above it (R83). -/
def Record.agedOut (r : Record) (limit : Nat) (now : Word) : Bool :=
  decide (limit ≠ 0) && decide (limit < ageMs now r.stamp)

/-! ### Arrival (R78 to R82) -/

/-- A record of `c` cells fits queue `q` (R79). -/
def State.fits (s : State) (q : Fin 4) (c : Nat) : Bool :=
  decide (s.queues[q].records.length + 1 ≤ s.queues[q].settings.depth) &&
  decide (s.pool.queue[q] + c ≤ s.queues[q].settings.cells)

/-- DROP_OLDEST removes head records, each counted in OVERFLOW_OLD, until a record of `c` cells fits (R80).
The list is the queue's records. -/
def State.dropToFit (q : Fin 4) (c : Nat) : List Record → State → State
  | [], s => s
  | r :: rs, s =>
    if s.fits q c then s
    else
      let t := s.removeRecords q rs [r]
      State.dropToFit q c rs (t.setQueueCounters q
        { t.queues[q].counters with overflowOld := bump t.queues[q].counters.overflowOld })

/-- A refused record is counted, and the classifier releases its chain (R78, R79). -/
def State.refuseRecord (s : State) (q : Fin 4) (r : Record) (counters : QueueCounters) : State :=
  (s.setQueueCounters q counters).release .classify r.frame.cells

/-- A record is accepted: it joins the tail, its chain moves from CLASSIFY, and it is counted (R81). -/
def State.acceptRecord (s : State) (q : Fin 4) (r : Record) : State :=
  (s.setQueue q { s.queues[q] with
      records := s.queues[q].records ++ [r]
      counters := { s.queues[q].counters with accepted := bump s.queues[q].counters.accepted } }).moveCells
    .classify (.queue q) r.frame.cells

/-- What an accepted arrival posts and gives, `before` being the record count before the arrival began
(R81, R82). -/
def State.announce (s : State) (q : Fin 4) (before : Nat) : State :=
  let records := s.queues[q].records.length
  let t := if before = 0 then s.post (.queueReady q records s.pool.queue[q]) else s
  let fill := s.queues[q].settings.fill
  if fill ≠ 0 ∧ before < fill ∧ fill ≤ records then
    let u := t.post (.queueFill q records s.pool.queue[q])
    if s.queues[q].settings.wakeOnFill then u.give (.fill q) else u
  else t

/-- The classifier offers a record to queue `q` (R78). -/
def State.arrive (s : State) (q : Fin 4) (r : Record) : State :=
  let d := s.queues[q]
  if !d.settings.enabled then
    s.refuseRecord q r { d.counters with disabledDrop := bump d.counters.disabledDrop }
  else if r.agedOut d.settings.age s.line.timebase then
    s.refuseRecord q r { d.counters with expired := bump d.counters.expired }
  else if s.fits q r.frame.cells then
    (s.acceptRecord q r).announce q d.records.length
  else if d.settings.policy = .dropOldest ∧ r.frame.cells ≤ d.settings.cells then
    ((State.dropToFit q r.frame.cells d.records s).acceptRecord q r).announce q d.records.length
  else
    s.refuseRecord q r { d.counters with overflowNew := bump d.counters.overflowNew }

/-! ### Expiry -/

/-- The records of queue `q` that meet `p` expire: each is counted in EXPIRED and its chain released. -/
def State.expire (s : State) (q : Fin 4) (p : Record → Bool) : State :=
  let out := s.queues[q].records.filter p
  let t := s.removeRecords q (s.queues[q].records.filter (fun r => !p r)) out
  t.setQueueCounters q
    { t.queues[q].counters with expired := bumpBy t.queues[q].counters.expired out.length }

/-- EXPIRY (R83): the record with the given frame id leaves queue `q` when its age has passed the limit,
wherever it stands. -/
def execExpiry (dt : Nat) (q : Fin 4) (frameId : Half) (s : State) :
    Host.Outcome State Fault Refusal :=
  let t := s.elapse dt
  done (t.expire q (fun r => decide (r.id = frameId) &&
    r.agedOut t.queues[q].settings.age t.line.timebase))

/-! ### The requests -/

/-- QUEUE_SETUP (R77, R84): the seven settings are replaced whole; records whose age already passes the new
limit expire before the reply. -/
def execQueueSetup (s : State) : Host.Outcome State Fault Refusal :=
  done (s.dispatch .queueSetup fun tag body t =>
    match queue? (byteAt body 0), queueSettings? (body.drop 1) with
    | some q, some set =>
      let u := t.setQueue q { t.queues[q] with settings := set }
      (u.expire q (fun r => r.agedOut set.age u.line.timebase)).answer .queueSetup tag [] id
    | _, _ => t.refuse .queueSetup tag .badField)

/-- QUEUE_STATUS (R90). -/
def execQueueStatus (s : State) : Host.Outcome State Fault Refusal :=
  done (s.dispatch .queueStatus fun tag body t =>
    match queue? (byteAt body 0), yesNo? (byteAt body 1) with
    | some q, some clear =>
      t.answer .queueStatus tag (t.queueContent q)
        (fun u => if clear then u.setQueueCounters q ⟨0, 0, 0, 0, 0, 0, 0⟩ else u)
    | _, _ => t.refuse .queueStatus tag .badField)

/-- FRAME_PEEK (R86). -/
def execFramePeek (s : State) : Host.Outcome State Fault Refusal :=
  done (s.dispatch .framePeek fun tag body t =>
    match queue? (byteAt body 0) with
    | none => t.refuse .framePeek tag .badField
    | some q =>
      match t.queues[q].records with
      | [] => t.complete .framePeek tag [Status.empty.code, byteOf q.val, 0] []
      | r :: _ =>
        t.answer .framePeek tag (r.bytes q t.queues[q].records.length t.line.timebase) id)

/-- FRAME_TAKE (R87): the head record leaves the queue counted in TAKEN, its chain moves to OUTBOX, and the
reply carries the record inline and the stored frame in the chain. -/
def execFrameTake (s : State) : Host.Outcome State Fault Refusal :=
  done (s.dispatch .frameTake fun tag body t =>
    match queue? (byteAt body 0) with
    | none => t.refuse .frameTake tag .badField
    | some q =>
      match t.queues[q].records with
      | [] => t.complete .frameTake tag [Status.empty.code, byteOf q.val, 0] []
      | r :: rest =>
        let u := (t.setQueue q { t.queues[q] with
            records := rest
            counters := { t.queues[q].counters with taken := bump t.queues[q].counters.taken } }).moveCells
          (.queue q) .outbox r.frame.cells
        u.complete .frameTake tag
          (Status.done.code :: r.bytes q rest.length t.line.timebase) r.frame.bytes)

/-- The first `n` records leave queue `q`, each counted in REMOVED, and their chains are released (R88, R89). -/
def State.discard (s : State) (q : Fin 4) (n : Nat) : State :=
  let out := s.queues[q].records.take n
  let t := s.removeRecords q (s.queues[q].records.drop n) out
  t.setQueueCounters q
    { t.queues[q].counters with removed := bumpBy t.queues[q].counters.removed out.length }

/-- FRAME_DISCARD (R88). -/
def execFrameDiscard (s : State) : Host.Outcome State Fault Refusal :=
  done (s.dispatch .frameDiscard fun tag body t =>
    match queue? (byteAt body 0) with
    | none => t.refuse .frameDiscard tag .badField
    | some q =>
      let n := natAt body 1
      if 1 ≤ n ∧ n ≤ 64 then
        let have_ := t.queues[q].records.length
        (t.discard q n).answer .frameDiscard tag [byteOf (min n have_), byteOf (have_ - n)] id
      else t.refuse .frameDiscard tag .badField)

/-- QUEUE_FLUSH (R89). -/
def execQueueFlush (s : State) : Host.Outcome State Fault Refusal :=
  done (s.dispatch .queueFlush fun tag body t =>
    match queue? (byteAt body 0) with
    | none => t.refuse .queueFlush tag .badField
    | some q =>
      let have_ := t.queues[q].records.length
      (t.discard q have_).answer .queueFlush tag [byteOf have_] id)

/-- The emptying of queue `q` by a line-side reset, counted in no counter (R94). -/
def State.emptyQueue (s : State) (q : Fin 4) : State :=
  s.removeRecords q [] s.queues[q].records

end Sys2Proof.Machine
end

