-- ==== Sys2Proof/Machine/Sieve.lean ====
section
/-! DEFINITION. The sieve table: the application of a commit (R50 to R53) and the sieve requests (Section 3). -/

namespace Sys2Proof.Machine

/-! ### The application of a commit -/

/-- Two entries are equal when both are UNUSED, or both IN_USE with every field equal (R53). -/
def Entry.same (a b : Entry) : Bool := (!a.inUse && !b.inUse) || (a.inUse && b.inUse && decide (a = b))

/-- The first IN_USE entry of STAGED whose answer-with names an UNDEFINED template, with that template
(R51). -/
def Bank.failing (b : Bank) (templates : Vector Template 16) : Option (Fin 32 × Fin 16) :=
  (List.finRange 32).findSome? fun i =>
    if b.entries[i].inUse then
      match b.entries[i].answer with
      | some t => if templates[t].defined then none else some (i, t)
      | none => none
    else none

/-- How many entry indices differ between two banks (R53). -/
def Bank.differing (a b : Bank) : Nat :=
  (List.finRange 32).countP fun i => !(a.entries[i].same b.entries[i])

/-- A pending commit is applied (R50): STAGED is validated (R51), and then ACTIVE stands (R52) or takes STAGED
(R53). -/
def State.applyCommit (s : State) : State :=
  match s.sieve.commit with
  | none => s
  | some tag =>
    match s.sieve.staged.failing s.responder.templates with
    | some (i, t) =>
      State.complete { s with sieve := { s.sieve with commit := none } } .sieveCommit tag
        ([Status.invalid.code, byteOf i.val, 0, byteOf t.val] ++ be16 s.sieve.generation) []
    | none =>
      let zeroDefault := decide (s.sieve.staged.dflt ≠ s.sieve.active.dflt)
      State.complete
        { s with
          sieve := { s.sieve with
            active := s.sieve.staged, generation := s.sieve.generation + 1, commit := none }
          classifier := { s.classifier with
            hits := Vector.ofFn fun i =>
              if s.sieve.staged.entries[i].same s.sieve.active.entries[i] then s.classifier.hits[i] else 0
            defaultHits := if zeroDefault then 0 else s.classifier.defaultHits } }
        .sieveCommit tag
        ([Status.done.code] ++ be16 (s.sieve.generation + 1) ++
          [byteOf (s.sieve.staged.differing s.sieve.active), yesNo zeroDefault]) []

/-! ### The requests -/

/-- Sets the STAGED bank. -/
def State.setStaged (s : State) (b : Bank) : State := { s with sieve := { s.sieve with staged := b } }

/-- An edit of STAGED whose body has passed its checks: BUSY while a commit is pending, otherwise made and
answered DONE (R44). -/
def State.edit (s : State) (k : ReqKind) (tag : Byte) (b : Bank) (content : List Byte) : State :=
  if s.sieve.commit.isSome then s.refuse k tag .busy
  else s.answer k tag content (fun t => t.setStaged b)

/-- SIEVE_PUT (R45). -/
def execSievePut (s : State) : Host.Outcome State Fault Refusal :=
  done (s.dispatch .sievePut fun tag body t =>
    if body.length ≠ 1 + entryLength (body.drop 1) then t.refuse .sievePut tag .badLength
    else
      match index? (byteAt body 0), entry? (body.drop 1) with
      | some i, some e =>
        t.edit .sievePut tag { t.sieve.staged with entries := t.sieve.staged.entries.set i e } []
      | _, _ => t.refuse .sievePut tag .badField)

/-- The bank a bank code names (Table 11-10). -/
def Sieve.bank? (s : Sieve) (b : Byte) : Option Bank :=
  if b = 0 then some s.active else if b = 1 then some s.staged else none

/-- SIEVE_GET (R46). -/
def execSieveGet (s : State) : Host.Outcome State Fault Refusal :=
  done (s.dispatch .sieveGet fun tag body t =>
    match t.sieve.bank? (byteAt body 0), index? (byteAt body 1) with
    | some b, some i => t.answer .sieveGet tag (t.sieve.getContent (byteAt body 0) i b.entries[i]) id
    | _, _ => t.refuse .sieveGet tag .badField)

/-- SIEVE_CLEAR (R47): one STAGED entry, or with 0xFF all of them, becomes UNUSED with the empty content. -/
def execSieveClear (s : State) : Host.Outcome State Fault Refusal :=
  done (s.dispatch .sieveClear fun tag body t =>
    match orNone? index? (byteAt body 0) with
    | some (some i) =>
      t.edit .sieveClear tag
        { t.sieve.staged with entries := t.sieve.staged.entries.set i Entry.empty } []
    | some none =>
      t.edit .sieveClear tag { t.sieve.staged with entries := Vector.replicate 32 Entry.empty } []
    | none => t.refuse .sieveClear tag .badField)

/-- SIEVE_COPY (R48): STAGED takes ACTIVE and its default verdict; the reply carries the generation. -/
def execSieveCopy (s : State) : Host.Outcome State Fault Refusal :=
  done (s.dispatch .sieveCopy fun tag _ t =>
    t.edit .sieveCopy tag t.sieve.active (be16 t.sieve.generation))

/-- SIEVE_DEFAULT (R49). -/
def execSieveDefault (s : State) : Host.Outcome State Fault Refusal :=
  done (s.dispatch .sieveDefault fun tag body t =>
    match orNone? queue? (byteAt body 0), yesNo? (byteAt body 1) with
    | some d, some w => t.edit .sieveDefault tag { t.sieve.staged with dflt := ⟨d, w⟩ } []
    | _, _ => t.refuse .sieveDefault tag .badField)

/-- SIEVE_COMMIT (R50): BUSY while a commit is pending; otherwise the flag is set with the tag, and the commit
is applied in the same operation when the classifier is IDLE. -/
def execSieveCommit (s : State) : Host.Outcome State Fault Refusal :=
  done (s.dispatch .sieveCommit fun tag _ t =>
    if t.sieve.commit.isSome then t.refuse .sieveCommit tag .busy
    else
      let u : State := { t with sieve := { t.sieve with commit := some tag } }
      if u.classifier.eval.isNone then u.applyCommit else u)

end Sys2Proof.Machine
end

