-- ==== Sys2Proof/Machine/Transmit.lean ====
section
/-! DEFINITION. The transmitter, the reply slot's close, the reply queue's outcomes and the line arbiter
(paragraphs 1.4 and 1.5, R115 to R119, R127, R130 to R133), the line-clock and transmitter events of the
table, and the send requests (R125 to R129). -/

namespace Sys2Proof.Machine

/-! ### Shared operations -/

/-- Whether an entry's state is ON_LINE. -/
def TxState.isOnLine (t : TxState) : Bool := t = .onLine

/-- Whether an entry's state is WAITING or QUEUED. -/
def TxState.isWaiting (t : TxState) : Bool := t = .waiting

/-- The transmitter waits in GAP_WAIT. -/
def Transmitter.inGapWait : Transmitter → Bool
  | .gapWait _ => true
  | _ => false

/-- The transmitter drives the line: SENDING or JAMMING. -/
def Transmitter.drives : Transmitter → Bool
  | .sending _ _ _ => true
  | .jamming _ _ => true
  | _ => false

/-- Sets the transmitter's state. -/
def State.setTransmitter (s : State) (t : Transmitter) : State :=
  { s with line := { s.line with transmitter := t } }

/-- Sets the reply queue. -/
def State.setReplies (s : State) (q : List ReplyEntry) : State :=
  { s with responder := { s.responder with queue := q } }

/-- Sets the send queue. -/
def State.setSends (s : State) (q : List SendEntry) : State :=
  { s with sender := { s.sender with queue := q } }

/-- Sets the responder counters. -/
def State.setReplyCounters (s : State) (c : ResponderCounters) : State :=
  { s with responder := { s.responder with counters := c } }

/-- Sets the line counters. -/
def State.setLineCounters (s : State) (c : LineCounters) : State :=
  { s with line := { s.line with counters := c } }

/-- The levels of one byte on the line, true for dominant: a start bit, the data bits least significant first,
a 0 dominant, and a recessive stop bit (R1). -/
def byteLevels (b : Byte) : List Bool :=
  [true, !b.getLsbD 0, !b.getLsbD 1, !b.getLsbD 2, !b.getLsbD 3, !b.getLsbD 4, !b.getLsbD 5,
   !b.getLsbD 6, !b.getLsbD 7, false]

/-- The levels of bytes sent back to back (R1, R7). -/
def lineLevels (bs : List Byte) : List Bool := bs.flatMap byteLevels

/-- Whether the part drives the line dominant at the present point: in SENDING the bit of the frame that the bit
times since its start have reached, the whole of a jam, and nothing in IDLE and GAP_WAIT (R1, R6, R7, R8). -/
def Line.drivesDominant (l : Line) : Bool :=
  match l.transmitter with
  | .idle => false
  | .gapWait _ => false
  | .sending _ start bytes => (lineLevels bytes).getD ((l.point - start) / bits 1) false
  | .jamming _ _ => true

/-- A grant in GAP_WAIT lapses or is withdrawn: the transmitter returns to IDLE and the entry is handed back
NOT_STARTED, its attempts unchanged (R6, R116, R133). -/
def State.notStarted (s : State) : State :=
  match s.line.transmitter with
  | .gapWait g =>
    match g.source with
    | .send tag =>
      (s.setTransmitter .idle).setSends
        (changeFirst (fun e => e.tag == tag && e.state.isOnLine) (fun e => { e with state := .waiting })
          s.sender.queue)
    | .reply =>
      (s.setTransmitter .idle).setReplies
        (changeFirst (fun e => e.state.isOnLine) (fun e => { e with state := .waiting })
          s.responder.queue)
  | _ => s

/-- The first reply entry that meets `p` is removed and its chain released (R31, R116). -/
def State.dropReply (s : State) (p : ReplyEntry → Bool) : State :=
  match s.responder.queue.find? p with
  | none => s
  | some e => (s.setReplies (s.responder.queue.eraseP p)).release .responder e.frame.cells

/-- Whether a closing report for the slot opened at `fe` acts on an entry: it answers that frame and stands
in WAITING, or ON_LINE with its grant still in GAP_WAIT (R117). -/
def ReplyEntry.closedBy (fe : Nat) (gapWait : Bool) (e : ReplyEntry) : Bool :=
  e.window == some fe && (e.state.isWaiting || (e.state.isOnLine && gapWait))

/-- The first reply entry that meets `p` is LATE and is dealt with by its late policy (R117): dropped and
counted, or counted and made CONTEND. -/
def State.lateReply (s : State) (p : ReplyEntry → Bool) (late : LatePolicy) : State :=
  match late with
  | .drop =>
    let t := s.dropReply p
    t.setReplyCounters { t.responder.counters with lateDropped := bump t.responder.counters.lateDropped }
  | .send =>
    let t := s.setReplies (changeFirst p (fun e => { e with window := none }) s.responder.queue)
    t.setReplyCounters { t.responder.counters with lateSent := bump t.responder.counters.lateSent }

/-- The line clock reports the close of an OWN_SLOT (R117).  The responder acts first; a grant in GAP_WAIT is
then handed back NOT_STARTED. -/
def State.closingReport (s : State) (fe : Nat) : State :=
  match s.responder.queue.find? (ReplyEntry.closedBy fe s.line.transmitter.inGapWait) with
  | none => s
  | some e =>
    let t := s.lateReply (ReplyEntry.closedBy fe s.line.transmitter.inGapWait) e.late
    if e.state.isOnLine then t.notStarted else t

/-- An open reply slot closes other than by the part's own reply (R5): it becomes NONE, and the close of an
OWN_SLOT is reported. -/
def State.closeSlot (s : State) : State :=
  match s.line.slot with
  | .none => s
  | .own fe => State.closingReport { s with line := { s.line with slot := .none } } fe
  | .other _ => { s with line := { s.line with slot := .none } }

/-! ### The arbiter (R130 to R132) -/

/-- The reply queue's head: the IN_WINDOW entry when one is WAITING, otherwise the oldest CONTEND entry in
WAITING (R115). -/
def replyHead (q : List ReplyEntry) : Option ReplyEntry :=
  match q.find? (fun e => e.window.isSome && e.state.isWaiting) with
  | some e => some e
  | none => q.find? (fun e => e.state.isWaiting)

/-- The send candidate: the oldest QUEUED entry (R130). -/
def sendCandidate (q : List SendEntry) : Option SendEntry := q.find? (fun e => e.state.isWaiting)

/-- The reply queue's head is granted the transmitter (R131). -/
def State.grantReply (s : State) (e : ReplyEntry) : State :=
  (s.setTransmitter (.gapWait ⟨.reply, e.attempts + 1, e.window⟩)).setReplies
    (changeFirst (fun x => x.window.isSome == e.window.isSome && x.state.isWaiting)
      (fun x => { x with state := .onLine }) s.responder.queue)

/-- The send candidate is granted the transmitter, and the pass count returns to 0 (R131). -/
def State.grantSend (s : State) (e : SendEntry) : State :=
  { s.setTransmitter (.gapWait ⟨.send e.tag, e.attempts + 1, none⟩) with
    sender :=
      { queue := changeFirst (fun x => x.state.isWaiting) (fun x => { x with state := .onLine })
          s.sender.queue
        pass := 0 } }

/-- The arbiter's choice for an IDLE transmitter (R131). -/
def State.choose (s : State) : State :=
  match replyHead s.responder.queue, sendCandidate s.sender.queue with
  | some r, some e =>
    if r.window.isSome then s.grantReply r
    else if s.sender.pass < 4 then
      State.grantReply { s with sender := { s.sender with pass := s.sender.pass + 1 } } r
    else s.grantSend e
  | some r, none => s.grantReply r
  | none, some e => s.grantSend e
  | none, none => s

/-- The arbiter may grant: the mode is ACTIVE and no stopping sequence or line-side reset runs (R130). -/
def Line.mayGrant (l : Line) : Bool := l.mode = .active && !l.stoppingOrReset

/-- Whether the reply queue's head is an IN_WINDOW entry. -/
def windowHead (q : List ReplyEntry) : Bool :=
  match replyHead q with
  | some e => e.window.isSome
  | none => false

/-- The arbiter acts on the queues as they stand: it chooses for an IDLE transmitter, and withdraws a CONTEND
grant in GAP_WAIT in favour of an IN_WINDOW head (R131, R132). -/
def State.arbitrate (s : State) : State :=
  if s.line.mayGrant then
    match s.line.transmitter with
    | .idle => s.choose
    | .gapWait g =>
      if g.slotEnd.isNone && windowHead s.responder.queue then s.notStarted.choose else s
    | _ => s
  else s

/-! ### Outcomes (R116, R118, R127, R133) -/

/-- A send entry reaches its final outcome (R127): it leaves the queue, its chain is released, its FRAME_SEND
completes, and the pass count returns to 0 when the queue is empty. -/
def State.completeSend (s : State) (e : SendEntry) (st : Status) (content : List Byte) : State :=
  let q := s.sender.queue.eraseP (fun x => x.tag == e.tag)
  let t : State := { s with sender := { queue := q, pass := if q = [] then 0 else s.sender.pass } }
  (t.release .send e.frame.cells).complete .frameSend e.tag (st.code :: content) []

/-- How an attempt ends (R7, R8, R10); COLLIDED carries the point at which its back-off has run. -/
inductive AttemptEnd where
  | sent
  | collided (runsOut : Nat)
  | exhausted
  | stopped
deriving DecidableEq, Repr

/-- The state a COLLIDED entry takes: BACKOFF until its back-off has run, and WAITING or QUEUED at once where a
back-off of 0 has run already at `now`, so that the choice made at the jam's end considers it (R9, R133, log
35). -/
def backoffState (now runsOut : Nat) : TxState := if runsOut ≤ now then .waiting else .backoff runsOut

/-- The outcome of a send entry's attempt (R133). -/
def State.handSend (s : State) (tag : Byte) (o : AttemptEnd) : State :=
  match s.sender.queue.find? (fun e => e.tag == tag && e.state.isOnLine) with
  | none => s
  | some e =>
    match o with
    | .sent => s.completeSend e .done (byteOf (e.attempts + 1) :: be32 s.line.timebase)
    | .exhausted => s.completeSend e .failed [8]
    | .collided t =>
      s.setSends (changeFirst (fun x => x.tag == tag && x.state.isOnLine)
        (fun x => { x with attempts := x.attempts + 1, state := backoffState s.line.point t })
        s.sender.queue)
    | .stopped =>
      s.setSends (changeFirst (fun x => x.tag == tag && x.state.isOnLine)
        (fun x => { x with attempts := x.attempts + 1, state := .waiting }) s.sender.queue)

/-- The outcome of a reply's attempt (R116, R118). -/
def State.handReply (s : State) (o : AttemptEnd) : State :=
  match s.responder.queue.find? (fun e => e.state.isOnLine) with
  | none => s
  | some e =>
    match o with
    | .sent =>
      let t := s.dropReply (fun e => e.state.isOnLine)
      t.setReplyCounters { t.responder.counters with sent := bump t.responder.counters.sent }
    | .exhausted =>
      let t := s.dropReply (fun e => e.state.isOnLine)
      t.setReplyCounters { t.responder.counters with replyFailed := bump t.responder.counters.replyFailed }
    | .collided r =>
      if e.window.isSome && e.late = .drop then s.lateReply (fun e => e.state.isOnLine) .drop
      else
        let t := if e.window.isSome then s.lateReply (fun e => e.state.isOnLine) .send else s
        t.setReplies (changeFirst (fun x => x.state.isOnLine)
          (fun x => { x with attempts := x.attempts + 1, state := backoffState s.line.point r })
          t.responder.queue)
    | .stopped =>
      s.setReplies (changeFirst (fun x => x.state.isOnLine)
        (fun x => { x with attempts := x.attempts + 1, state := .waiting }) s.responder.queue)

/-- The transmitter hands an attempt's outcome to the arbiter, which passes a reply's to the responder
(R133). -/
def State.hand (s : State) (src : Carried) (o : AttemptEnd) : State :=
  match src with
  | .send tag => s.handSend tag o
  | .reply => s.handReply o

/-- The back-off after collided attempt `n`, in bit times: k times 32, k the low m bits of the draw, m the
smaller of n and 5 (R9). -/
def backoffTime (n : Nat) (draw : BitVec 5) : Nat := 32 * (draw.toNat % 2 ^ min n 5)

/-- The outcome of a collided attempt: EXHAUSTED after the eighth, otherwise COLLIDED with a back-off that
runs from `now` (R8, R9). -/
def collisionEnd (n now : Nat) (draw : BitVec 5) : AttemptEnd :=
  if n < 8 then .collided (now + bits (backoffTime n draw)) else .exhausted

/-- The frame a grant carries, read from its chain with its holder (R6). -/
def State.grantedFrame (s : State) (g : Grant) : Option Frame :=
  match g.source with
  | .send tag =>
    (s.sender.queue.find? (fun e => e.tag == tag && e.state.isOnLine)).map (fun e => e.frame)
  | .reply => (s.responder.queue.find? (fun e => e.state.isOnLine)).map (fun e => e.frame)

/-- An attempt begins: the transmitter leaves GAP_WAIT for SENDING and drives the line frame (R6, R7). -/
def State.startSending (s : State) (g : Grant) : State :=
  match s.grantedFrame g with
  | none => s
  | some f =>
    { s with line := { s.line with
        transmitter := .sending g s.line.point f.lineBytes, lastActivity := s.line.point } }

/-- The bit times of the gap of a class (R4). -/
def GapClass.bits : GapClass → Nat
  | .short => 24
  | .long => 64

/-- No reception is under way: the receiver is IDLE or follows the part's own frame. -/
def Receiver.quiet : Receiver → Bool
  | .idle => true
  | .following => true
  | _ => false

/-- The gap of the present class has passed (R4). -/
def Line.gapHasPassed (l : Line) : Bool :=
  l.receiver.quiet && l.reached l.lastActivity l.gap.bits

/-- What a complete frame's end does on the line clock (R4, R5): the point of last activity, the gap class,
and the reply slot the frame opens. -/
def Line.frameEnded (l : Line) (f : Frame) (received : Bool) : Line :=
  if f.opensSlot then
    { l with
      lastActivity := l.point, gap := .long
      slot := if received && l.own.contains f.dst then .own l.point else .other l.point }
  else { l with lastActivity := l.point, gap := .short }

/-- Activity that is no good frame (R4): the point of last activity moves and the class is LONG. -/
def Line.otherActivity (l : Line) (at_ : Nat) : Line := { l with lastActivity := at_, gap := .long }

/-! ### Line-clock and transmitter events -/

/-- FOREIGN_ACTIVITY: a dominant bit that the part did not drive (R4, R5).  It resets the gap wait, and the
recessive count of FAULTED (R16); an open reply slot closes and is reported. -/
def execForeignActivity (dt : Nat) (s : State) : Host.Outcome State Fault Refusal :=
  let t := s.elapse dt
  if t.line.mode = .stopped then done t
  else done (State.closeSlot { t with line := t.line.otherActivity t.line.point }).arbitrate

/-- WINDOW_CLOSE: frame end + 48 bit times pass with no activity since the frame end (R5, R117). -/
def execWindowClose (dt : Nat) (s : State) : Host.Outcome State Fault Refusal :=
  let t := s.elapse dt
  match t.line.slot with
  | .none => done t
  | .own fe => if t.line.reached fe 48 then done t.closeSlot.arbitrate else done t
  | .other fe => if t.line.reached fe 48 then done t.closeSlot.arbitrate else done t

/-- GAP_PASSED: the gap of the present class has passed, and a CONTEND frame in GAP_WAIT begins its attempt
(R4, R6).  A slot whose close is due has closed by then. -/
def execGapPassed (dt : Nat) (s : State) : Host.Outcome State Fault Refusal :=
  let t := s.elapse dt
  match t.line.transmitter with
  | .gapWait g =>
    if g.slotEnd.isNone && decide (t.line.mode = .active) && t.line.gapHasPassed then
      done (t.closeSlot.startSending g)
    else done t
  | _ => done t

/-- TURNAROUND: a SLOT frame begins its attempt at frame end + 12 bit times, or at once if that point has
passed, while its OWN_SLOT is open and no later than frame end + 48; the slot is consumed (R5, R6). -/
def execTurnaround (dt : Nat) (s : State) : Host.Outcome State Fault Refusal :=
  let t := s.elapse dt
  match t.line.transmitter with
  | .gapWait g =>
    match g.slotEnd with
    | some fe =>
      if t.line.mode = .active ∧ t.line.slot = .own fe ∧ t.line.reached fe 12 = true
          ∧ t.line.point ≤ fe + bits 48 then
        done (State.startSending { t with line := { t.line with slot := .none } } g)
      else done t
    | none => done t
  | _ => done t

/-- ATTEMPT_SENT: the stop bit of the second FCS byte, 10 bit times a byte after the start (R1, R7).  The
line clock acts on the part's own frame end, the receiver's outcome is OWN, and the outcome is SENT. -/
def execAttemptSent (dt : Nat) (s : State) : Host.Outcome State Fault Refusal :=
  let t := s.elapse dt
  match t.line.transmitter with
  | .sending g start line =>
    if t.line.reached start (10 * line.length) then
      match t.grantedFrame g with
      | some f =>
        let l := t.line.frameEnded f false
        let u : State :=
          { t with line := { l with
              transmitter := .idle
              receiver := if l.receiver = .following then .idle else l.receiver } }
        done (u.hand g.source .sent).arbitrate
      | none => done t
    else done t
  | _ => done t

/-- COLLISION: a bit read back at the wrong level stops the frame, counts COLLISIONS and begins the jam
(R8). -/
def execCollision (dt : Nat) (s : State) : Host.Outcome State Fault Refusal :=
  let t := s.elapse dt
  match t.line.transmitter with
  | .sending g _ _ =>
    done { t with line := { t.line with
      transmitter := .jamming g t.line.point
      counters := { t.line.counters with collisions := bump t.line.counters.collisions } } }
  | _ => done t

/-- Whether an entry's back-off has run at a point of the line clock. -/
def TxState.backoffRun (t : TxState) (now : Nat) : Bool :=
  match t with
  | .backoff runsOut => decide (runsOut ≤ now)
  | _ => false

/-- BACKOFF_END: an entry's back-off has run, and it becomes QUEUED or WAITING (R133). -/
def execBackoffEnd (dt : Nat) (owner : BackoffOwner) (s : State) : Host.Outcome State Fault Refusal :=
  let t := s.elapse dt
  match owner with
  | .send tag =>
    done (t.setSends (changeFirst (fun e => e.tag == tag && e.state.backoffRun t.line.point)
      (fun e => { e with state := .waiting }) t.sender.queue)).arbitrate
  | .reply place =>
    match t.responder.queue[place]? with
    | some e =>
      if e.state.backoffRun t.line.point then
        done (t.setReplies (t.responder.queue.set place { e with state := .waiting })).arbitrate
      else done t
    | none => done t

/-! ### The send requests -/

/-- The frame a FRAME_SEND body gives, with its SRC (R126, Table 11-14). -/
def sendFrame (body : List Byte) (src : Half) : Frame :=
  { dst := halfAt body 1, src := src, kind := byteAt body 3, seq := byteAt body 4, payload := body.drop 6 }

/-- The checks of R125, in order: the frame to send, or the status of the first check that fails. -/
def State.judgeSend (s : State) (body : List Byte) : Except Status Frame :=
  if body.length ≠ 6 + natAt body 5 then .error .badLength
  else if 248 < natAt body 5 ∨ 3 < natAt body 0 then .error .badField
  else if s.line.mode = .stopped ∨ s.line.mode = .listening ∨ s.line.stoppingOrReset = true then
    .error .lineState
  else if halfAt body 1 = 0 then .error .invalid
  else
    match s.line.own[natAt body 0]? with
    | none => .error .invalid
    | some src =>
      if s.pool.ordinaryOk (sendFrame body src).cells && s.pool.quotaOk (sendFrame body src).cells then
        .ok (sendFrame body src)
      else .error .noCell

/-- FRAME_SEND (R125, R126): a frame that passes its checks joins the send queue, QUEUED, and the request
keeps its table entry; otherwise the request completes with the status of the check. -/
def execFrameSend (s : State) : Host.Outcome State Fault Refusal :=
  done (s.dispatch .frameSend fun tag body t =>
    match t.judgeSend body with
    | .error st => t.refuse .frameSend tag st
    | .ok f =>
      State.arbitrate
        ((t.claim .send f.cells).setSends (t.sender.queue ++ [⟨tag, f, 0, .waiting⟩])))

/-- SEND_CANCEL (R128): a QUEUED or BACKOFF entry is removed and its FRAME_SEND completes CANCELLED ahead of
the DONE reply; an ON_LINE entry gives TOO_LATE, and no entry NOT_FOUND. -/
def execSendCancel (s : State) : Host.Outcome State Fault Refusal :=
  done (s.dispatch .sendCancel fun tag body t =>
    match t.sender.queue.find? (fun e => e.tag == byteAt body 0) with
    | none => t.refuse .sendCancel tag .notFound
    | some e =>
      if e.state.isOnLine then t.refuse .sendCancel tag .tooLate
      else (t.completeSend e .cancelled [byteOf e.attempts]).refuse .sendCancel tag .done)

/-- SEND_STATUS (R129). -/
def execSendStatus (s : State) : Host.Outcome State Fault Refusal :=
  done (s.dispatch .sendStatus fun tag _ t => t.answer .sendStatus tag t.sendContent id)

end Sys2Proof.Machine
end

