-- ==== Sys2Proof/Machine/Stopping.lean ====
section
/-! DEFINITION. The stopping sequence (R22, R135, R136, R119) and the line-side reset (R158, R74, R94). -/

namespace Sys2Proof.Machine

/-! ### The line mode -/

/-- The line mode and the resume mode change; a change of mode posts LINE_STATE (R17). -/
def State.changeMode (s : State) (mode : LineMode) (resume : Option HearMode) : State :=
  let t : State := { s with line := { s.line with mode := mode, resume := resume } }
  if s.line.mode = mode then t else t.post (.lineState mode resume)

/-- A frame under reception is abandoned: its cells return to FREE and no counter changes (R13). -/
def State.abandonReception (s : State) : State :=
  State.release { s with line := { s.line with receiver := .idle } } .receive s.pool.receive

/-! ### Steps 3 to 6 -/

/-- Every entry of the given list, the send queue, completes ABORTED, from the head to the tail (R136). -/
def State.abortSends (s : State) : List SendEntry → State
  | [] => s
  | e :: es => State.abortSends (s.completeSend e .aborted [byteOf e.attempts]) es

/-- The reply queue is emptied, each entry counted in STOP_DISCARDED and its chain released (R119). -/
def State.discardReplies (s : State) : State :=
  let q := s.responder.queue
  let t := (s.setReplies []).release .responder ((q.map (fun e => e.frame.cells)).sum)
  t.setReplyCounters { t.responder.counters with
    stopDiscarded := bumpBy t.responder.counters.stopDiscarded q.length }

/-- Step 5 (R22): the reply slot closes with its report, the mode becomes STOPPED, the resume mode is cleared
and the receiver is held in IDLE. -/
def State.enterStopped (s : State) : State :=
  let t := s.closeSlot
  State.changeMode { t with line := { t.line with receiver := .idle } } .stopped none

/-- Step 6 (R22): the LINE_STOP that waits, if any, completes DONE. -/
def State.completeLineStop (s : State) : State :=
  match s.line.lineStop with
  | none => s
  | some tag =>
    State.refuse { s with line := { s.line with lineStop := none } } .lineStop tag .done

/-! ### The line-side reset -/

/-- The classification queue is emptied: its frames' chains are released and nothing is counted (R74). -/
def State.emptyClassification (s : State) : State :=
  State.release { s with classifier := { s.classifier with queue := [] } } .classify
    ((s.classifier.queue.map (fun w => w.frame.cells)).sum)

/-- The line-side reset from the point at which no frame is under evaluation (R74, R94, R158): a pending commit
is applied, the classification queue and the delivery queues are emptied, and RESET replies DONE. -/
def State.finishLineSide (s : State) (tag : Byte) : State :=
  let t := s.applyCommit.emptyClassification
  let u := (((t.emptyQueue 0).emptyQueue 1).emptyQueue 2).emptyQueue 3
  State.refuse { u with line := { u.line with lineSide := none } } .reset tag .done

/-- A line-side reset in its classifier phase finishes as soon as the classifier is IDLE (R74). -/
def State.continueLineSide (s : State) : State :=
  match s.line.lineSide with
  | none => s
  | some r =>
    if r.phase = .classifier ∧ s.classifier.eval = none then s.finishLineSide r.tag else s

/-- The stopping sequence's end hands a line-side reset on to the classifier (R74). -/
def State.toClassifier (s : State) : State :=
  State.continueLineSide
    { s with line := { s.line with
        lineSide := s.line.lineSide.map (fun r => { r with phase := .classifier }) } }

/-! ### The sequence -/

/-- Steps 2 to 6 of the stopping sequence (R22), and the line-side reset's own steps where one runs (R158). -/
def State.finishStopping (s : State) : State :=
  let t := s.abandonReception
  let u := (t.abortSends t.sender.queue).discardReplies
  u.enterStopped.completeLineStop.toClassifier

/-- Step 1 (R22, R135): a frame in SENDING is jammed off with no COLLISIONS, a grant in GAP_WAIT is withdrawn,
and the next step waits until the transmitter is IDLE. -/
def State.beginStopping (s : State) : State :=
  match s.line.transmitter with
  | .sending g _ _ => s.setTransmitter (.jamming g s.line.point)
  | .jamming _ _ => s
  | .gapWait _ => s.notStarted.finishStopping
  | .idle => s.finishStopping

/-! ### The requests -/

/-- LINE_STOP (R21). -/
def execLineStop (s : State) : Host.Outcome State Fault Refusal :=
  done (s.dispatch .lineStop fun tag _ t =>
    if t.line.stoppingOrReset then t.refuse .lineStop tag .busy
    else if t.line.mode = .stopped then t.answer .lineStop tag [] id
    else State.beginStopping { t with line := { t.line with lineStop := some tag } })

/-- Scope LINE_SIDE of RESET for a request that holds its table entry (R158): BUSY while another line-side
reset runs; it shares the sequence of a LINE_STOP that is in progress, and otherwise begins one. -/
def State.resetLineSide (s : State) (tag : Byte) : State :=
  if s.line.lineSide.isSome then s.refuse .reset tag .busy
  else
    let t : State := { s with line := { s.line with lineSide := some ⟨tag, .stopping⟩ } }
    if s.line.lineStop.isSome then t else t.beginStopping

/-- RESET_PART: RESET with scope PART causes a full reset at its dispatch, with no reply (R158).  A HELD RESET
whose scope is LINE_SIDE is left for RESET_LINE_SIDE. -/
def execResetPart (s : State) : Host.Outcome State Fault Refusal :=
  match s.link.buffer with
  | .held _ _ [1] => done s
  | _ =>
    done (s.dispatch .reset fun tag body t =>
      if byteAt body 0 = 0 then t.fullReset .request else t.refuse .reset tag .badField)

/-- RESET_LINE_SIDE: RESET with scope LINE_SIDE (R158).  A HELD RESET whose scope is PART is left for
RESET_PART. -/
def execResetLineSide (s : State) : Host.Outcome State Fault Refusal :=
  match s.link.buffer with
  | .held _ _ [0] => done s
  | _ =>
    done (s.dispatch .reset fun tag body t =>
      if byteAt body 0 = 1 then t.resetLineSide tag else t.refuse .reset tag .badField)

end Sys2Proof.Machine
end

