-- ==== Sys2Proof/Machine/LineModes.lean ====
section
/-! DEFINITION. The line requests (R18 to R20, R24), the end of a jam (R8, R10), the stuck line and the
cleared fault (R15, R16), and the pool requests (R35, R36). -/

namespace Sys2Proof.Machine

/-! ### The line requests -/

/-- LINE_SETUP (R18). -/
def execLineSetup (s : State) : Host.Outcome State Fault Refusal :=
  done (s.dispatch .lineSetup fun tag body t =>
    match BitRate.ofByte? (byteAt body 0) with
    | none => t.refuse .lineSetup tag .badField
    | some r =>
      if t.line.mode ≠ .stopped then t.refuse .lineSetup tag .lineState
      else t.answer .lineSetup tag [] (fun u => { u with line := { u.line with rate := r } }))

/-- Whether two address lists may be kept (R20, check 3). -/
def listsValid (own group : List Half) : Bool :=
  own.all isStation && group.all isGroup && decide own.Nodup && decide group.Nodup

/-- Whether an empty own list is refused: the mode is ACTIVE, or FAULTED with the resume mode ACTIVE (R20). -/
def Line.needsOwn (l : Line) : Bool :=
  decide (l.mode = .active) || (decide (l.mode = .faulted) && decide (l.resume = some .active))

/-- ADDRESS_SET (R20): both lists are replaced whole. -/
def execAddressSet (s : State) : Host.Outcome State Fault Refusal :=
  done (s.dispatch .addressSet fun tag body t =>
    let own := addresses (natAt body 0) (body.drop 2)
    let group := addresses (natAt body 1) (body.drop (2 + 2 * natAt body 0))
    if 4 < natAt body 0 ∨ 8 < natAt body 1 then t.refuse .addressSet tag .badField
    else if body.length ≠ 2 + 2 * natAt body 0 + 2 * natAt body 1 then
      t.refuse .addressSet tag .badLength
    else if listsValid own group = false then t.refuse .addressSet tag .invalid
    else if own = [] ∧ t.line.needsOwn = true then t.refuse .addressSet tag .lineState
    else
      t.answer .addressSet tag []
        (fun u => { u with line := { u.line with own := own, group := group } }))

/-- What an accepted LINE_START does (R19, R11, R4). -/
def State.startLine (s : State) (m : HearMode) : State :=
  match s.line.mode with
  | .stopped =>
    (State.changeMode
      { s with line := { s.line with
          receiver := .discarding, gap := .long, lastActivity := s.line.point, stuckCount := 0 } } m.mode none).arbitrate
  | .faulted => { s with line := { s.line with resume := some m } }
  | .listening => (s.changeMode m.mode none).arbitrate
  | .active =>
    match m with
    | .active => s
    | .listening => s.notStarted.changeMode .listening none

/-- LINE_START (R19).  The DONE reply stands ahead of the LINE_STATE notice. -/
def execLineStart (s : State) : Host.Outcome State Fault Refusal :=
  done (s.dispatch .lineStart fun tag body t =>
    match HearMode.ofByte? (byteAt body 0) with
    | none => t.refuse .lineStart tag .badField
    | some m =>
      if t.line.stoppingOrReset then t.refuse .lineStart tag .busy
      else if m = .active ∧ t.line.own = [] then t.refuse .lineStart tag .invalid
      else if m = .listening ∧ t.line.mode = .active ∧ t.line.transmitter.drives = true then
        t.refuse .lineStart tag .busy
      else (t.answer .lineStart tag [] id).startLine m)

/-- LINE_STATUS (R24). -/
def execLineStatus (s : State) : Host.Outcome State Fault Refusal :=
  done (s.dispatch .lineStatus fun tag _ t => t.answer .lineStatus tag t.line.statusContent id)

/-- LINE_COUNTERS (R24). -/
def execLineCounters (s : State) : Host.Outcome State Fault Refusal :=
  done (s.dispatch .lineCounters fun tag body t =>
    match yesNo? (byteAt body 0) with
    | none => t.refuse .lineCounters tag .badField
    | some clear =>
      t.answer .lineCounters tag t.line.counters.bytes
        (fun u => if clear then u.setLineCounters ⟨0, 0, 0, 0, 0, 0, 0⟩ else u))

/-! ### The pool requests -/

/-- POOL_STATUS (R35): the account is reported, and the low-water mark restarts at the free count. -/
def execPoolStatus (s : State) : Host.Outcome State Fault Refusal :=
  done (s.dispatch .poolStatus fun tag _ t =>
    t.answer .poolStatus tag t.pool.statusContent
      (fun u => { u with pool := { u.pool with lowWater := u.pool.free } }))

/-- POOL_SETUP (R36): the send quota. -/
def execPoolSetup (s : State) : Host.Outcome State Fault Refusal :=
  done (s.dispatch .poolSetup fun tag body t =>
    if 64 < natAt body 0 then t.refuse .poolSetup tag .badField
    else
      t.answer .poolSetup tag []
        (fun u => { u with pool := { u.pool with quota := natAt body 0 } }))

/-! ### The end of a jam -/

/-- JAM_END: the transmitter has driven the line dominant for 8 bit times (R8).  Otherwise than in a stopping
sequence the outcome is COLLIDED or EXHAUSTED, and the arbiter chooses with the entry in the state the outcome
leaves it, WAITING or QUEUED where the back-off drawn is 0 (R9, log 35).  In a stopping sequence the outcome is
STOPPED and steps 2 to 6 follow in this same operation (R10, R21, R22), so that no SEND_CANCEL is taken between
the outcome and step 3 (R135, log 36). -/
def execJamEnd (dt : Nat) (draw : BitVec 5) (s : State) : Host.Outcome State Fault Refusal :=
  let t := s.elapse dt
  match t.line.transmitter with
  | .jamming g start =>
    if t.line.reached start 8 then
      let u : State := { t with line :=
        { t.line.otherActivity t.line.point with transmitter := .idle } }
      if u.line.stopping then done (u.hand g.source .stopped).finishStopping
      else done (u.hand g.source (collisionEnd g.attempt u.line.point draw)).arbitrate
    else done t
  | _ => done t

/-! ### The stuck line -/

/-- The transmitter ends any attempt or grant at the detection of a stuck line (R10). -/
def State.endAttemptStuck (s : State) (draw : BitVec 5) : State :=
  match s.line.transmitter with
  | .sending g _ _ =>
    State.hand
      { s with line := { s.line with
          transmitter := .idle
          counters := { s.line.counters with collisions := bump s.line.counters.collisions } } }
      g.source (collisionEnd g.attempt s.line.point draw)
  | .jamming g _ =>
    (s.setTransmitter .idle).hand g.source
      (if s.line.stopping then .stopped else collisionEnd g.attempt s.line.point draw)
  | .gapWait _ => s.notStarted
  | .idle => s

/-- The mode a stuck line finds, recorded as the resume mode (R15). -/
def LineMode.asResume (m : LineMode) : HearMode := if m = .active then .active else .listening

/-- The run is activity, counted in STUCK_EVENTS and in the stuck-line count (R15). -/
def Line.stuck (l : Line) (run : Nat) : Line :=
  { l.otherActivity l.point with
    stuckCount := run
    counters := { l.counters with stuckEvents := bump l.counters.stuckEvents } }

/-- STUCK_LINE: a dominant run exceeds 40 bit times in LISTENING or ACTIVE (R15, R10).  A stopping sequence
that waited for a jam goes on (R22). -/
def execStuckLine (dt run : Nat) (draw : BitVec 5) (s : State) : Host.Outcome State Fault Refusal :=
  let t := s.elapse dt
  if t.line.hears = true ∧ 40 < run then
    let c := State.closeSlot { t with line := t.line.stuck run }
    let f := ((c.abandonReception.endAttemptStuck draw).changeMode .faulted
      (some t.line.mode.asResume)).give .lineFault
    done (if f.line.stopping then f.finishStopping else f)
  else done t

/-- FAULT_CLEARED: 256 recessive bit times in FAULTED (R16). -/
def execFaultCleared (dt : Nat) (s : State) : Host.Outcome State Fault Refusal :=
  let t := s.elapse dt
  match t.line.mode, t.line.resume with
  | .faulted, some m =>
    if t.line.reached t.line.lastActivity 256 then
      done (State.changeMode
        { t with line := { t.line with receiver := .idle, gap := .long, stuckCount := 0 } }
        m.mode none).arbitrate
    else done t
  | _, _ => done t

end Sys2Proof.Machine
end

