-- ==== Sys2Proof/Machine/PresenceRequests.lean ====
section
/-! DEFINITION. The presence controller's requests (R161, R168). -/

namespace Sys2Proof.Machine

/-- SLEEP (R161): DONE with the wake cause set as it stands, and DOZE_REQUESTED with the sequence number the
reply receives as the doze reply. -/
def execSleep (s : State) : Host.Outcome State Fault Refusal :=
  done (s.dispatch .sleep fun tag _ t =>
    let seq := t.link.nextSeq
    let u := t.complete .sleep tag (Status.done.code :: be24 t.presence.causes) []
    { u with presence := { u.presence with state := .dozeRequested, dozeReply := some seq } })

/-- The mask and the high mark of PRESENCE_SETUP with its clear option, or `none` for BAD_FIELD (R168). -/
def presenceSetup? (body : List Byte) : Option (WakeMask × Nat × Bool) := do
  let fill ← yesNo? (byteAt body 0)
  let slot ← yesNo? (byteAt body 1)
  let fault ← yesNo? (byteAt body 2)
  let high ← yesNo? (byteAt body 3)
  let clear ← yesNo? (byteAt body 5)
  if 8 ≤ natAt body 4 ∧ natAt body 4 ≤ 31 then some (⟨fill, slot, fault, high⟩, natAt body 4, clear)
  else none

/-- PRESENCE_SETUP (R168): the reply's append is judged against the new high mark. -/
def execPresenceSetup (s : State) : Host.Outcome State Fault Refusal :=
  done (s.dispatch .presenceSetup fun tag body t =>
    match presenceSetup? body with
    | none => t.refuse .presenceSetup tag .badField
    | some (mask, high, clear) =>
      t.answer .presenceSetup tag (t.presenceContent mask high)
        (fun u => { u with presence := { u.presence with
          mask := mask, highMark := high
          causes := if clear then 0 else u.presence.causes } }))

end Sys2Proof.Machine
end

