-- ==== Sys2Proof/Machine/Responder.lean ====
section
/-! DEFINITION. The responder: the build (R111 to R114), and the template requests and RESPONDER_STATUS
(R107 to R110, R121). -/

namespace Sys2Proof.Machine

/-! ### The build -/

/-- A COPY item reaches past the received payload (R111, cause 2). -/
def Item.copyShort (len : Nat) : Item → Bool
  | .copy _ source n => decide (len < source + n)
  | _ => false

/-- A SLOT item names a slot that is EMPTY, or one that is STALE under STALE_SUPPRESS (R111, cause 3). -/
def Item.slotSuppressed (slots : Vector Slot 16) (policy : StalePolicy) : Item → Bool
  | .slot _ n =>
    match slots[n].state with
    | .empty => true
    | .stale _ => decide (policy = .suppress)
    | .held _ => false
  | _ => false

/-- Bytes written at a target offset over what stood there. -/
def splice (target : Nat) (new body : List Byte) : List Byte :=
  body.take target ++ new ++ body.drop (target + new.length)

/-- The bytes an item writes: `payload` is the received payload and `uses` the use count including this reply
(Table 7-2, R114). -/
def Item.written (slots : Vector Slot 16) (payload : List Byte) (now : Word) (uses : Half) :
    Item → List Byte
  | .copy _ source n => (payload.drop source).take n
  | .slot _ n =>
    match slots[n].state.content? with
    | none => []
    | some c => c.data
  | .stamp _ => be32 now
  | .uses _ => be16 uses

/-- The target offset of an item. -/
def Item.target : Item → Nat
  | .copy t _ _ => t
  | .slot t _ => t
  | .stamp t => t
  | .uses t => t

/-- The reply's payload: the body with the items applied in list order (R114). -/
def replyPayload (slots : Vector Slot 16) (payload : List Byte) (now : Word) (uses : Half)
    (body : List Byte) (items : List Item) : List Byte :=
  items.foldl (fun b i => splice i.target (i.written slots payload now uses) b) body

/-- The reply's stored frame (R113).  The own list is not empty at a build. -/
def State.replyFrame (s : State) (t : Template) (f : Frame) : Frame :=
  { dst := match t.dest with
      | .toSender => f.src
      | .fixed a => a
    src := if s.line.own.contains f.dst then f.dst else s.line.own.headD 0
    kind := t.kind ||| 0x80
    seq := match t.seqRule with
      | .echo => f.seq
      | .count => s.responder.seqCounter
    payload := replyPayload s.slots f.payload s.line.timebase (t.uses + 1) t.body t.items }

/-- A build places its entry (R113, R115): the responder claim is granted, the use count and the reply
sequence counter rise by one, and the entry joins the tail in WAITING.  By the law of R29 the claim is
always granted; a state in which it could not be is never reached, and nothing is placed there. -/
def State.placeReply (s : State) (n : Fin 16) (f : Frame) (window : Option Nat) : State × Bool :=
  let t := s.responder.templates[n]
  let reply := s.replyFrame t f
  if s.pool.responderOk reply.cells then
    let u := s.claim .responder reply.cells
    ({ u with responder := { u.responder with
        templates := u.responder.templates.set n { t with uses := t.uses + 1 }
        queue := u.responder.queue ++ [⟨reply, n, t.late, window, 0, .waiting⟩]
        seqCounter := u.responder.seqCounter + 1 } }, true)
  else (s, false)

/-- The build (R111, R112) for template `n`, the received frame and its frame end point; the flag says whether
an entry was placed. -/
def State.build (s : State) (n : Fin 16) (f : Frame) (frameEnd : Nat) : State × Bool :=
  let t := s.responder.templates[n]
  let c := s.responder.counters
  if 4 ≤ s.responder.queue.length then
    (s.setReplyCounters { c with answerOverflow := bump c.answerOverflow }, false)
  else if t.items.any (Item.copyShort f.payload.length) then
    (s.setReplyCounters { c with copyShort := bump c.copyShort }, false)
  else if t.items.any (Item.slotSuppressed s.slots t.stale) then
    (s.setReplyCounters { c with slotSuppressed := bump c.slotSuppressed }, false)
  else if f.opensSlot && s.line.own.contains f.dst then
    if s.line.slot = .own frameEnd then s.placeReply n f (some frameEnd)
    else
      match t.late with
      | .drop => (s.setReplyCounters { c with lateDropped := bump c.lateDropped }, false)
      | .send =>
        (s.setReplyCounters { c with lateSent := bump c.lateSent }).placeReply n f none
  else s.placeReply n f none

/-! ### The requests -/

/-- Replaces template `n`. -/
def State.setTemplate (s : State) (n : Fin 16) (t : Template) : State :=
  { s with responder := { s.responder with templates := s.responder.templates.set n t } }

/-- TEMPLATE_PUT (R107, R108). -/
def execTemplatePut (s : State) : Host.Outcome State Fault Refusal :=
  done (s.dispatch .templatePut fun tag body t =>
    match templateItems (body.drop 1) with
    | none => t.refuse .templatePut tag .badLength
    | some raw =>
      match sixteen? (byteAt body 0), template? (body.drop 1) raw with
      | some n, some new => t.answer .templatePut tag [] (fun u => u.setTemplate n new)
      | _, _ => t.refuse .templatePut tag .badField)

/-- TEMPLATE_GET (R109). -/
def execTemplateGet (s : State) : Host.Outcome State Fault Refusal :=
  done (s.dispatch .templateGet fun tag body t =>
    match sixteen? (byteAt body 0) with
    | none => t.refuse .templateGet tag .badField
    | some n => t.answer .templateGet tag (t.responder.templates[n].getContent n) id)

/-- Whether an IN_USE entry of a bank names a template in its answer-with (R55). -/
def Bank.names (b : Bank) (n : Fin 16) : Bool :=
  b.entries.toList.any (fun e => e.inUse && e.answer == some n)

/-- TEMPLATE_CLEAR (R110, R55). -/
def execTemplateClear (s : State) : Host.Outcome State Fault Refusal :=
  done (s.dispatch .templateClear fun tag body t =>
    match sixteen? (byteAt body 0) with
    | none => t.refuse .templateClear tag .badField
    | some n =>
      if t.sieve.active.names n then t.refuse .templateClear tag .inUse
      else t.answer .templateClear tag [] (fun u => u.setTemplate n Template.empty))

/-- RESPONDER_STATUS (R121). -/
def execResponderStatus (s : State) : Host.Outcome State Fault Refusal :=
  done (s.dispatch .responderStatus fun tag body t =>
    match yesNo? (byteAt body 0) with
    | none => t.refuse .responderStatus tag .badField
    | some clear =>
      t.answer .responderStatus tag t.responderContent
        (fun u => if clear then u.setReplyCounters ⟨0, 0, 0, 0, 0, 0, 0, 0⟩ else u))

end Sys2Proof.Machine
end

