-- ==== Sys2Proof/Machine/Slots.lean ====
section
/-! DEFINITION. The capture slots: writes (R96, R97), staleness (R99, R100) and the slot requests (R101 to
R104). -/

namespace Sys2Proof.Machine

/-! ### Shared operations -/

/-- Replaces slot `n`. -/
def State.setSlot (s : State) (n : Fin 16) (v : Slot) : State := { s with slots := s.slots.set n v }

/-- A write acts on a slot, whatever its state (R96). -/
def Slot.write (v : Slot) (data : List Byte) (origin : Origin) (now : Word) : Slot :=
  { v with state := .held ⟨data, origin, now⟩, updates := v.updates + 1, unread := true }

/-- A LINE write of slot `n` (R96), and what the slot block hands on after it (R97). -/
def State.lineWrite (s : State) (n : Fin 16) (data : List Byte) (entry : Fin 32) (src : Half) :
    State :=
  let v := s.slots[n].write data (.line entry src) s.line.timebase
  let t := s.setSlot n v
  let u := if v.watch then t.post (.slotUpdate n v.updates data entry src s.line.timebase) else t
  if v.wakeOnUpdate then u.give (.slot n) else u

/-- A slot's staleness against the limit it has: a HELD slot whose age passes a limit that is not 0 becomes
STALE, and nothing else changes (R99). -/
def Slot.judgeAge (v : Slot) (now : Word) : Slot :=
  match v.state with
  | .held c => if v.limit ≠ 0 ∧ v.limit < ageMs now c.stamp then { v with state := .stale c } else v
  | _ => v

/-- A slot made EMPTY keeps its update count and its settings (R103). -/
def Slot.clear (v : Slot) : Slot := { v with state := .empty, unread := false }

/-! ### The event -/

/-- SLOT_STALE (R99): the slot's age passes its freshness limit. -/
def execSlotStale (dt : Nat) (slot : Fin 16) (s : State) : Host.Outcome State Fault Refusal :=
  let t := s.elapse dt
  done (t.setSlot slot (t.slots[slot].judgeAge t.line.timebase))

/-! ### The requests -/

/-- SLOT_READ (R101): the whole record, and the unread flag is cleared. -/
def execSlotRead (s : State) : Host.Outcome State Fault Refusal :=
  done (s.dispatch .slotRead fun tag body t =>
    match sixteen? (byteAt body 0) with
    | none => t.refuse .slotRead tag .badField
    | some n =>
      t.answer .slotRead tag (t.slots[n].bytes n t.line.timebase)
        (fun u => u.setSlot n { u.slots[n] with unread := false }))

/-- SLOT_WRITE (R102): a LOCAL write, which posts no notice and gives no wake cause (R97). -/
def execSlotWrite (s : State) : Host.Outcome State Fault Refusal :=
  done (s.dispatch .slotWrite fun tag body t =>
    match sixteen? (byteAt body 0) with
    | none => t.refuse .slotWrite tag .badField
    | some n =>
      if natAt body 1 < 1 ∨ 16 < natAt body 1 then t.refuse .slotWrite tag .badField
      else if body.length ≠ 2 + natAt body 1 then t.refuse .slotWrite tag .badLength
      else
        t.answer .slotWrite tag (byteOf n.val :: be16 (t.slots[n].updates + 1))
          (fun u => u.setSlot n (u.slots[n].write (body.drop 2) .loc u.line.timebase)))

/-- SLOT_CLEAR (R103): one slot, or with 0xFF all of them, becomes EMPTY. -/
def execSlotClear (s : State) : Host.Outcome State Fault Refusal :=
  done (s.dispatch .slotClear fun tag body t =>
    match orNone? sixteen? (byteAt body 0) with
    | some (some n) =>
      t.answer .slotClear tag [] (fun u => u.setSlot n u.slots[n].clear)
    | some none =>
      t.answer .slotClear tag [] (fun u => { u with slots := u.slots.map Slot.clear })
    | none => t.refuse .slotClear tag .badField)

/-- SLOT_SETUP (R104): the three settings are replaced whole, and the new limit acts at once (R100). -/
def execSlotSetup (s : State) : Host.Outcome State Fault Refusal :=
  done (s.dispatch .slotSetup fun tag body t =>
    match sixteen? (byteAt body 0), yesNo? (byteAt body 1), yesNo? (byteAt body 2) with
    | some n, some watch, some wake =>
      t.answer .slotSetup tag []
        (fun u => u.setSlot n (Slot.judgeAge
          { u.slots[n] with watch := watch, wakeOnUpdate := wake, limit := (halfAt body 3).toNat }
          u.line.timebase))
    | _, _, _ => t.refuse .slotSetup tag .badField)

end Sys2Proof.Machine
end

