-- ==== Sys2Proof/Machine/Classify.lean ====
section
/-! DEFINITION. The classifier: frame ids and the classification queue (R59, R60), the evaluation (R61 to
R65), the four stages (R66 to R69), and the classifier requests (R71 to R73). -/

namespace Sys2Proof.Machine

/-! ### Frame ids and the classification queue -/

/-- The frame id after another: 65535 is followed by 1, and 0 is never used (R60). -/
def idAfter (i : Half) : Half := if i = 0xFFFF then 1 else i + 1

/-- Whether a waiting frame, the frame under evaluation or a queued record holds a frame id (R60). -/
def State.holdsId (s : State) (i : Half) : Bool :=
  s.classifier.queue.any (fun w => w.id == i) ||
  (match s.classifier.eval with
   | some e => e.member.id == i
   | none => false) ||
  s.queues.toList.any (fun d => d.records.any (fun r => r.id == i))

/-- The first id after `i` that nothing holds (R60).  At most 261 ids are held at one time, so 262 tries
always reach a free one. -/
def State.freeId (s : State) : Nat → Half → Half
  | 0, i => i
  | n + 1, i => if s.holdsId (idAfter i) then State.freeId s n (idAfter i) else idAfter i

/-- The next frame id (R60). -/
def State.nextFrameId (s : State) : Half := s.freeId 262 s.classifier.frameId

/-- Sets the classifier's counters. -/
def State.setClassifierCounters (s : State) (c : ClassifierCounters) : State :=
  { s with classifier := { s.classifier with counters := c } }

/-- The receiver passes a GOOD frame to the classifier (R59): it joins the tail with the next frame id and its
chain moves to CLASSIFY, or it is refused, counted, and its chain released. -/
def State.enqueue (s : State) (f : Frame) (stamp : Word) (frameEnd : Nat) : State :=
  if s.classifier.queue.length < 4 then
    State.moveCells
      { s with classifier := { s.classifier with
          queue := s.classifier.queue ++ [⟨f, s.nextFrameId, stamp, frameEnd⟩]
          frameId := s.nextFrameId } }
      .receive .classify f.cells
  else
    (s.setClassifierCounters { s.classifier.counters with
      overrun := bump s.classifier.counters.overrun }).release .receive f.cells

/-! ### The evaluation -/

/-- Whether a line-side reset keeps the classifier from beginning an evaluation (R74). -/
def Line.holdsClassifier (l : Line) : Bool :=
  match l.lineSide with
  | some r => decide (r.phase = .classifier)
  | none => false

/-- An evaluation begins when the classifier is IDLE and a frame waits (R61): a pending commit is applied
first, the head frame leaves the queue, and the generation and the lists are fixed. -/
def State.startEvaluation (s : State) : State :=
  if s.classifier.eval.isSome || s.line.holdsClassifier then s
  else
    match s.classifier.queue with
    | [] => s
    | w :: ws =>
      let t := s.applyCommit
      { t with classifier := { t.classifier with
          queue := ws
          eval := some ⟨w, t.sieve.generation, t.line.own, t.line.group⟩ } }

/-- The address class test (R62). -/
def AddrClass.admits (c : AddrClass) (own group : List Half) (dst : Half) : Bool :=
  match c with
  | .own => own.contains dst
  | .group => group.contains dst
  | .all => dst == 0xFFFF
  | .addressed => own.contains dst || group.contains dst || dst == 0xFFFF
  | .others => !(own.contains dst || group.contains dst || dst == 0xFFFF)
  | .every => true

/-- The source window test (R62). -/
def inWindow (w : Option (Half × Half)) (src : Half) : Bool :=
  match w with
  | none => true
  | some (low, high) => decide (low.toNat ≤ src.toNat) && decide (src.toNat ≤ high.toNat)

/-- The field a term reads, high byte first (R63). -/
def Term.field (t : Term) (payload : List Byte) : Word :=
  match t.width with
  | .one => (byteAt payload t.offset).setWidth 32
  | .two => (halfAt payload t.offset).setWidth 32
  | .four => wordAt payload t.offset

/-- A masked field against the operand (R63). -/
def TermOp.judge (op : TermOp) (v operand : Word) : Bool :=
  match op with
  | .eq => v == operand
  | .ne => v != operand
  | .lt => decide (v.toNat < operand.toNat)
  | .ge => decide (operand.toNat ≤ v.toNat)
  | .allSet => (v &&& operand) == operand
  | .anySet => (v &&& operand) != 0

/-- A term against the payload: false when its field is not wholly present (R63). -/
def Term.holds (t : Term) (payload : List Byte) : Bool :=
  decide (t.offset + t.width.bytes ≤ payload.length) &&
  t.op.judge (t.field payload &&& t.mask) t.operand

/-- Whether an entry matches a frame (R62, R63); an UNUSED entry never matches. -/
def Entry.matches (e : Entry) (own group : List Half) (f : Frame) : Bool :=
  e.inUse && e.cls.admits own group f.dst &&
  ((f.kind &&& e.kindMask) == (e.kindValue &&& e.kindMask)) && inWindow e.window f.src &&
  e.terms.all (fun t => t.holds f.payload)

/-- The scan of the indices given, in order: the matching entries up to and with the first terminal one
(R64). -/
def Bank.scan (b : Bank) (own group : List Half) (f : Frame) : List (Fin 32) → List (Fin 32 × Entry)
  | [] => []
  | i :: is =>
    if b.entries[i].matches own group f then
      if b.entries[i].continue_ then (i, b.entries[i]) :: Bank.scan b own group f is
      else [(i, b.entries[i])]
    else Bank.scan b own group f is

/-- A frame's verdict (R65).  `matched` is the entry that supplied deliver-to, `none` for DEFAULT. -/
structure Verdict where
  deliver : Option (Fin 4)
  matched : Option (Fin 32)
  answer : Option (Fin 16)
  captures : List (Fin 32 × Capture)
  excess : Nat
  wake : Bool
  absorbed : Bool
deriving DecidableEq, Repr

/-- All the captures that matching entries name, in index order, each with its entry. -/
def capturesOf (ms : List (Fin 32 × Entry)) : List (Fin 32 × Capture) :=
  ms.filterMap (fun m => m.2.capture.map (fun c => (m.1, c)))

/-- The verdict of a list of matching entries under a default verdict (R65). -/
def verdictOf (ms : List (Fin 32 × Entry)) (d : DefaultVerdict) : Verdict :=
  if ms = [] then
    { deliver := d.deliver, matched := none, answer := none, captures := [], excess := 0,
      wake := d.wake, absorbed := false }
  else
    let deliver := ms.findSome? (fun m => m.2.deliver)
    let answer := ms.findSome? (fun m => m.2.answer)
    { deliver := deliver
      matched := (ms.find? (fun m => m.2.deliver.isSome)).map (fun m => m.1)
      answer := answer
      captures := (capturesOf ms).take 4
      excess := (capturesOf ms).length - 4
      wake := ms.any (fun m => m.2.wake)
      absorbed := deliver.isNone && answer.isNone }

/-! ### The counts of a scan's end -/

/-- The hit counters, the default hit counter, ABSORBED and CAPTURE_EXCESS at the end of a scan (R64, R65). -/
def State.countScan (s : State) (ms : List (Fin 32 × Entry)) (v : Verdict) : State :=
  { s with classifier := { s.classifier with
      hits := ms.foldl (fun h m => h.set m.1 (bump h[m.1])) s.classifier.hits
      defaultHits := if ms = [] then bump s.classifier.defaultHits else s.classifier.defaultHits
      counters := { s.classifier.counters with
        absorbed := bumpBy s.classifier.counters.absorbed (if v.absorbed then 1 else 0)
        captureExcess := bumpBy s.classifier.counters.captureExcess v.excess } } }

/-! ### The four stages -/

/-- Stage 1: the captures, in order; the flag says whether one was written (R66). -/
def State.captureStage (s : State) (f : Frame) : List (Fin 32 × Capture) → State × Bool
  | [] => (s, false)
  | (i, c) :: cs =>
    if c.offset + c.length ≤ f.payload.length then
      ((State.captureStage
        (s.lineWrite c.slot ((f.payload.drop c.offset).take c.length) i f.src) f cs).1, true)
    else
      State.captureStage
        (s.setClassifierCounters { s.classifier.counters with
          captureShort := bump s.classifier.counters.captureShort }) f cs

/-- Stage 2: the answer, asked for while the mode is ACTIVE and no stopping sequence or line-side reset runs;
otherwise counted in ANSWER_SUPPRESSED (R67).  The flag is the answered flag. -/
def State.answerStage (s : State) (answer : Option (Fin 16)) (w : Waiting) : State × Bool :=
  match answer with
  | none => (s, false)
  | some n =>
    if s.line.mode = .active ∧ s.line.stoppingOrReset = false then s.build n w.frame w.frameEnd
    else
      (s.setClassifierCounters { s.classifier.counters with
        suppressed := bump s.classifier.counters.suppressed }, false)

/-- Stage 3: the record is offered to its queue, or the chain is released (R68). -/
def State.deliverStage (s : State) (v : Verdict) (e : Evaluation) (answered captured : Bool) : State :=
  match v.deliver with
  | none => s.release .classify e.member.frame.cells
  | some q =>
    s.arrive q { frame := e.member.frame, id := e.member.id, stamp := e.member.stamp,
                 generation := e.generation, matched := v.matched, answered := answered,
                 wake := v.wake, captured := captured }

/-- The four stages of a verdict, in order (R66 to R69). -/
def State.carryOut (s : State) (v : Verdict) (e : Evaluation) : State :=
  let c := s.captureStage e.member.frame v.captures
  let a := c.1.answerStage v.answer e.member
  let d := a.1.deliverStage v e a.2 c.2
  if v.wake then d.give .verdict else d

/-- The end of the evaluation (R69, R50): the classifier enters IDLE, and a pending commit is applied. -/
def State.endEvaluation (s : State) : State :=
  State.applyCommit { s with classifier := { s.classifier with eval := none } }

/-! ### The events -/

/-- EVALUATION_START (R61). -/
def execEvaluationStart (dt : Nat) (s : State) : Host.Outcome State Fault Refusal :=
  done (s.elapse dt).startEvaluation

/-- SCAN_END (R64 to R69): the verdict is formed, counted and carried out, and the classifier returns to IDLE;
a pending commit is applied, and a line-side reset that waits for it goes on. -/
def execScanEnd (dt : Nat) (s : State) : Host.Outcome State Fault Refusal :=
  let t := s.elapse dt
  match t.classifier.eval with
  | none => done t
  | some e =>
    let ms := t.sieve.active.scan e.own e.group e.member.frame (List.finRange 32)
    let v := verdictOf ms t.sieve.active.dflt
    done ((t.countScan ms v).carryOut v e).endEvaluation.continueLineSide.arbitrate

/-! ### The requests -/

/-- The range of indices HITS_READ reads (R71): first index, count and option, or `none` for BAD_FIELD. -/
def hitsReadRange? (body : List Byte) : Option (Nat × Nat × Bool) :=
  match yesNo? (byteAt body 2) with
  | none => none
  | some o =>
    if natAt body 0 ≤ 31 ∧ natAt body 1 ≤ 8 ∧ natAt body 0 + natAt body 1 ≤ 32
        ∧ 1 ≤ natAt body 1 + o.toNat ∧ natAt body 1 + o.toNat ≤ 8 then
      some (natAt body 0, natAt body 1, o)
    else none

/-- HITS_READ (R71). -/
def execHitsRead (s : State) : Host.Outcome State Fault Refusal :=
  done (s.dispatch .hitsRead fun tag body t =>
    match hitsReadRange? body with
    | none => t.refuse .hitsRead tag .badField
    | some (first, count, o) =>
      t.answer .hitsRead tag
        (be16 t.sieve.generation ++ [byteOf first, byteOf count] ++
          ((t.classifier.hits.toList.drop first).take count).flatMap be32 ++
          (if o then be32 t.classifier.defaultHits else [])) id)

/-- The range of indices HITS_CLEAR clears (R72). -/
def hitsClearRange? (body : List Byte) : Option (Nat × Nat × Bool) :=
  match yesNo? (byteAt body 2) with
  | none => none
  | some o =>
    if natAt body 0 ≤ 31 ∧ natAt body 1 ≤ 32 ∧ natAt body 0 + natAt body 1 ≤ 32
        ∧ (natAt body 1 ≠ 0 ∨ o = true) then
      some (natAt body 0, natAt body 1, o)
    else none

/-- The hit counters of `count` indices from `first` are set to 0, and with the option the default's (R72). -/
def State.clearHits (s : State) (first count : Nat) (o : Bool) : State :=
  { s with classifier := { s.classifier with
      hits := Vector.ofFn fun i =>
        if first ≤ i.val ∧ i.val < first + count then 0 else s.classifier.hits[i]
      defaultHits := if o then 0 else s.classifier.defaultHits } }

/-- HITS_CLEAR (R72). -/
def execHitsClear (s : State) : Host.Outcome State Fault Refusal :=
  done (s.dispatch .hitsClear fun tag body t =>
    match hitsClearRange? body with
    | none => t.refuse .hitsClear tag .badField
    | some (first, count, o) => t.answer .hitsClear tag [] (fun u => u.clearHits first count o))

/-- CLASSIFY_STATUS (R73). -/
def execClassifyStatus (s : State) : Host.Outcome State Fault Refusal :=
  done (s.dispatch .classifyStatus fun tag body t =>
    match yesNo? (byteAt body 0) with
    | none => t.refuse .classifyStatus tag .badField
    | some clear =>
      t.answer .classifyStatus tag t.classifyContent
        (fun u => if clear then u.setClassifierCounters ⟨0, 0, 0, 0, 0⟩ else u))

end Sys2Proof.Machine
end

