-- ==== Sys2Proof/Machine/Receive.lean ====
section
/-! DEFINITION. The receiver (paragraph 1.6, R3, R11 to R14): its bytes and claims, and the reception events of
the table. -/

namespace Sys2Proof.Machine

/-! ### Shared operations -/

/-- Sets the receiver. -/
def State.setReceiver (s : State) (r : Receiver) : State :=
  { s with line := { s.line with receiver := r } }

/-- The receiver drops its frame and follows the activity (R12, R13): the cells return to FREE, and the given
counters stand. -/
def State.dropFrame (s : State) (after : Receiver) (c : LineCounters) : State :=
  ((s.setReceiver after).setLineCounters c).release .receive s.pool.receive

/-- The line clock takes a point of last activity, with the class LONG (R4). -/
def State.setLineGap (s : State) (p : Nat) : State := { s with line := s.line.otherActivity p }

/-- The stored frame of the bytes placed so far is complete: 7 + LEN bytes (R12). -/
def storedComplete (bs : List Byte) : Bool := decide (7 ≤ bs.length) && decide (7 + natAt bs 6 ≤ bs.length)

/-- A byte that is about to be placed has no room in the cells claimed: bytes 1, 65, 129 and 193 (R12). -/
def needsCell (bs : List Byte) : Bool := bs.length % 64 == 0

/-- A frame's bytes, the newest the last, show a bad SRC or a bad LEN at that byte (R3). -/
def foundMalformed (bs : List Byte) : Bool :=
  (bs.length == 4 && !isStation (halfAt bs 2)) || (bs.length == 7 && decide (248 < natAt bs 6))

/-- A stored-frame byte arrives in IN_FRAME (R12, R3, R13). -/
def State.receiveByte (s : State) (b : Byte) : State :=
  match s.line.receiver with
  | .receiving bs =>
    if storedComplete bs then s
    else if needsCell bs && !s.pool.ordinaryOk 1 then
      s.dropFrame .discarding { s.line.counters with noCell := bump s.line.counters.noCell }
    else
      let t := if needsCell bs then s.claim .receive 1 else s
      if foundMalformed (bs ++ [b]) then
        t.dropFrame .discarding { t.line.counters with malformed := bump t.line.counters.malformed }
      else t.setReceiver (.receiving (bs ++ [b]))
  | _ => s

/-- Stored-frame bytes arrive one after another in IN_FRAME: they are activity (R4), and each is placed. -/
def State.receiveBytes (s : State) (bs : List Byte) : State :=
  match s.line.receiver with
  | .receiving _ => bs.foldl State.receiveByte (s.setLineGap s.line.point)
  | _ => s

/-! ### The events -/

/-- FRAME_START: a start delimiter received in IDLE (R11).  While the transmitter is SENDING it is the part's
own, and the receiver follows it; otherwise it is foreign activity (R5). -/
def execFrameStart (dt : Nat) (s : State) : Host.Outcome State Fault Refusal :=
  let t := s.elapse dt
  if t.line.hears = true ∧ t.line.receiver = .idle then
    match t.line.transmitter with
    | .sending _ _ _ => done (t.setReceiver .following)
    | _ =>
      done (State.closeSlot
        { t with line := { t.line.otherActivity t.line.point with receiver := .receiving [] } }).arbitrate
  else done t

/-- RECEIVE_CLAIM: stored-frame bytes arrive, and a cell is claimed at bytes 1, 65, 129 and 193; a refused
claim ends the frame NO_CELL (R12, R13). -/
def execReceiveClaim (dt : Nat) (bytes : List Byte) (s : State) : Host.Outcome State Fault Refusal :=
  done ((s.elapse dt).receiveBytes bytes)

/-- MALFORMED: the bytes that arrive end with the second SRC byte or the LEN byte of a malformed frame (R3). -/
def execMalformed (dt : Nat) (bytes : List Byte) (s : State) : Host.Outcome State Fault Refusal :=
  done ((s.elapse dt).receiveBytes bytes)

/-- FRAGMENT (R11, R13). -/
def execFragment (dt : Nat) (cause : FragmentCause) (s : State) : Host.Outcome State Fault Refusal :=
  let t := s.elapse dt
  let c := { t.line.counters with fragment := bump t.line.counters.fragment }
  match cause, t.line.receiver with
  | .firstByte, .idle =>
    if t.line.hears then
      done (State.closeSlot
        { t with line := { t.line.otherActivity t.line.point with
            receiver := .discarding, counters := c } }).arbitrate
    else done t
  | .framingFault, .receiving _ =>
    done ((t.dropFrame .discarding c).setLineGap t.line.point)
  | .prematureIdle, .receiving _ =>
    done ((t.dropFrame .idle c).setLineGap (max t.line.lastActivity (t.line.point - bits 4)))
  | _, _ => done t

/-- ACTIVITY_END: more than 4 recessive bit times after a stop bit (R11).  A DISCARDING receiver returns to
IDLE, and so does one that follows the part's own frame when the transmitter no longer drives it. -/
def execActivityEnd (dt : Nat) (s : State) : Host.Outcome State Fault Refusal :=
  let t := s.elapse dt
  let ends := t.line.receiver = .discarding ∨
    (t.line.receiver = .following ∧ t.line.transmitter.drives = false)
  if ends then
    done { t with line :=
      { t.line.otherActivity (max t.line.lastActivity (t.line.point - bits 4)) with
        receiver := .idle, stuckCount := 0 } }
  else done t

/-- A frame whose FCS is equal is GOOD (R14): it is counted, the line clock acts on its end, and it is passed
to the classifier, which begins its evaluation at once when it was IDLE with an empty queue (R59). -/
def State.goodFrame (s : State) (f : Frame) : State :=
  let l := s.line.frameEnded f true
  let t := State.enqueue
    { s with line := { l with
        receiver := .idle, counters := { l.counters with good := bump l.counters.good } } }
    f s.line.timebase s.line.point
  if s.classifier.queue = [] then t.startEvaluation else t

/-- FRAME_END: the last stored-frame bytes and the two FCS bytes arrive (R14). -/
def execFrameEnd (dt : Nat) (bytes : List Byte) (fcs : Half) (s : State) :
    Host.Outcome State Fault Refusal :=
  let t := (s.elapse dt).receiveBytes bytes
  match t.line.receiver with
  | .receiving bs =>
    if storedComplete bs then
      if crc bs = fcs then done (t.goodFrame (Frame.ofBytes bs))
      else
        done ((t.dropFrame .idle
          { t.line.counters with fcsError := bump t.line.counters.fcsError }).setLineGap t.line.point)
    else done t
  | _ => done t

end Sys2Proof.Machine
end

