-- ==== Sys2Proof/Machine/Dispatch.lean ====
section
/-! DEFINITION. One arm per command: each calls the meaning of its command. -/

namespace Sys2Proof.Machine

/-- The effect of a command on everything but the queue of waiting commands. -/
def exec (i : Instr) (s : State) : Host.Outcome State Fault Refusal :=
  match i with
  | .powerUp => Sys2Proof.Machine.execPowerUp s
  | .resetNAssert => Sys2Proof.Machine.execResetNAssert s
  | .resetNRelease => Sys2Proof.Machine.execResetNRelease s
  | .put dt => Sys2Proof.Machine.execPut dt s
  | .get dt => Sys2Proof.Machine.execGet dt s
  | .badExchange dt => Sys2Proof.Machine.execBadExchange dt s
  | .messageHeld bytes => Sys2Proof.Machine.execMessageHeld bytes s
  | .rejectTooLong bytes => Sys2Proof.Machine.execRejectTooLong bytes s
  | .rejectShort bytes => Sys2Proof.Machine.execRejectShort bytes s
  | .getAck ack => Sys2Proof.Machine.execGetAck ack s
  | .resend flags => Sys2Proof.Machine.execResend flags s
  | .getSendingStep => Sys2Proof.Machine.execGetSendingStep s
  | .unknownKindRequest => Sys2Proof.Machine.execUnknownKindRequest s
  | .identify => Sys2Proof.Machine.execIdentify s
  | .echo => Sys2Proof.Machine.execEcho s
  | .timeRead => Sys2Proof.Machine.execTimeRead s
  | .resetPart => Sys2Proof.Machine.execResetPart s
  | .resetLineSide => Sys2Proof.Machine.execResetLineSide s
  | .lineSetup => Sys2Proof.Machine.execLineSetup s
  | .addressSet => Sys2Proof.Machine.execAddressSet s
  | .lineStart => Sys2Proof.Machine.execLineStart s
  | .lineStop => Sys2Proof.Machine.execLineStop s
  | .lineStatus => Sys2Proof.Machine.execLineStatus s
  | .lineCounters => Sys2Proof.Machine.execLineCounters s
  | .poolStatus => Sys2Proof.Machine.execPoolStatus s
  | .poolSetup => Sys2Proof.Machine.execPoolSetup s
  | .sievePut => Sys2Proof.Machine.execSievePut s
  | .sieveGet => Sys2Proof.Machine.execSieveGet s
  | .sieveClear => Sys2Proof.Machine.execSieveClear s
  | .sieveCopy => Sys2Proof.Machine.execSieveCopy s
  | .sieveDefault => Sys2Proof.Machine.execSieveDefault s
  | .sieveCommit => Sys2Proof.Machine.execSieveCommit s
  | .hitsRead => Sys2Proof.Machine.execHitsRead s
  | .hitsClear => Sys2Proof.Machine.execHitsClear s
  | .classifyStatus => Sys2Proof.Machine.execClassifyStatus s
  | .queueSetup => Sys2Proof.Machine.execQueueSetup s
  | .queueStatus => Sys2Proof.Machine.execQueueStatus s
  | .framePeek => Sys2Proof.Machine.execFramePeek s
  | .frameTake => Sys2Proof.Machine.execFrameTake s
  | .frameDiscard => Sys2Proof.Machine.execFrameDiscard s
  | .queueFlush => Sys2Proof.Machine.execQueueFlush s
  | .slotRead => Sys2Proof.Machine.execSlotRead s
  | .slotWrite => Sys2Proof.Machine.execSlotWrite s
  | .slotClear => Sys2Proof.Machine.execSlotClear s
  | .slotSetup => Sys2Proof.Machine.execSlotSetup s
  | .templatePut => Sys2Proof.Machine.execTemplatePut s
  | .templateGet => Sys2Proof.Machine.execTemplateGet s
  | .templateClear => Sys2Proof.Machine.execTemplateClear s
  | .responderStatus => Sys2Proof.Machine.execResponderStatus s
  | .frameSend => Sys2Proof.Machine.execFrameSend s
  | .sendCancel => Sys2Proof.Machine.execSendCancel s
  | .sendStatus => Sys2Proof.Machine.execSendStatus s
  | .sleep => Sys2Proof.Machine.execSleep s
  | .presenceSetup => Sys2Proof.Machine.execPresenceSetup s
  | .frameStart dt => Sys2Proof.Machine.execFrameStart dt s
  | .receiveClaim dt bytes => Sys2Proof.Machine.execReceiveClaim dt bytes s
  | .malformed dt bytes => Sys2Proof.Machine.execMalformed dt bytes s
  | .fragment dt cause => Sys2Proof.Machine.execFragment dt cause s
  | .activityEnd dt => Sys2Proof.Machine.execActivityEnd dt s
  | .frameEnd dt bytes fcs => Sys2Proof.Machine.execFrameEnd dt bytes fcs s
  | .foreignActivity dt => Sys2Proof.Machine.execForeignActivity dt s
  | .windowClose dt => Sys2Proof.Machine.execWindowClose dt s
  | .gapPassed dt => Sys2Proof.Machine.execGapPassed dt s
  | .turnaround dt => Sys2Proof.Machine.execTurnaround dt s
  | .attemptSent dt => Sys2Proof.Machine.execAttemptSent dt s
  | .collision dt => Sys2Proof.Machine.execCollision dt s
  | .jamEnd dt draw => Sys2Proof.Machine.execJamEnd dt draw s
  | .backoffEnd dt owner => Sys2Proof.Machine.execBackoffEnd dt owner s
  | .stuckLine dt run draw => Sys2Proof.Machine.execStuckLine dt run draw s
  | .faultCleared dt => Sys2Proof.Machine.execFaultCleared dt s
  | .evaluationStart dt => Sys2Proof.Machine.execEvaluationStart dt s
  | .scanEnd dt => Sys2Proof.Machine.execScanEnd dt s
  | .expiry dt queue frameId => Sys2Proof.Machine.execExpiry dt queue frameId s
  | .slotStale dt slot => Sys2Proof.Machine.execSlotStale dt slot s

end Sys2Proof.Machine
end

