-- ==== Sys2Proof/Safety.lean ====
section
/-! DEFINITION. The laws of the device, as statements about one state.  Each names the rule that gives it; the
obligations say that every step keeps them. -/

namespace Sys2Proof.Machine

/-! ### What the statements speak of -/

/-- A message of kind `k` with a tag and a body stands HELD, and it passes the six checks of R142. -/
def Accepted (s : State) (k : ReqKind) (tag : Byte) (body : List Byte) : Prop :=
  s.link.buffer = .held k.code tag body ∧ tag ≠ 0xFF ∧ k.lengthOk body.length = true ∧
  s.link.holdsTag tag = false ∧ s.link.table.length < 8 ∧ s.link.occupancy < 32

/-- The inbound buffer is EMPTY and the reply to a request stands at the tail of the outbox; nothing else of
the part is changed, the request table among it (R145, R146, R155). -/
def State.withReply (s : State) (k : ReqKind) (tag : Byte) (inline chain : List Byte) : State :=
  s.emptyBuffer.append (.reply k.replyCode tag inline chain)

/-- The reply DONE with its content after the effect `e`: inline up to 48 bytes; of more, in an OUTBOX chain
that the pool grants, or NO_CELL in its place and no effect (R145). -/
def State.answered (s : State) (k : ReqKind) (tag : Byte) (content : List Byte) (e : State → State) :
    State :=
  if content.length + 1 ≤ 48 then (e s).withReply k tag (0x00 :: content) []
  else if s.pool.ordinaryOk (cellsFor (content.length + 1)) then
    (e (s.claim .outbox (cellsFor (content.length + 1)))).withReply k tag [] (0x00 :: content)
  else s.withReply k tag [0x08] []

/-- Messages as the outbox takes them one after another: UNSENT, with the next sequence numbers (R146). -/
def State.numbered (s : State) (ms : List Message) : List OutEntry :=
  ms.mapIdx (fun i m => ⟨s.link.nextSeq + BitVec.ofNat 8 i, false, m⟩)

/-- A LINE_STATE posting would be appended: fewer than `n` places are taken, and no LINE_STATE stands UNSENT in
the outbox or in the pending set (R152). -/
def State.appendsLineState (s : State) (n : Nat) : Prop :=
  s.link.outbox.length + s.link.table.length < n ∧
  (∀ e ∈ s.link.outbox, e.sent = false → ∀ k, e.msg = .notice k → k.id ≠ .lineState) ∧
  (∀ k ∈ s.link.notices, k.id ≠ .lineState)

/-- The FRAME_SEND replies ABORTED of the send queue, from head to tail, each with the attempts made (R136); the
attempt of the entry that `jammed` marks is counted too (R135). -/
def State.abortedReplies (s : State) (jammed : SendEntry → Bool) : List Message :=
  s.sender.queue.map
    (fun e => .reply 0xE0 e.tag [0x0E, byteOf (e.attempts + (if jammed e then 1 else 0))] [])

/-- The pool after steps 2 to 4 of a stopping sequence (R22, R31): the frame under reception, the send queue and
the reply queue have given their cells back. -/
def State.stoppedPool (s : State) : Pool :=
  ((s.pool.release .receive s.pool.receive).release .send
    ((s.sender.queue.map (fun e => e.frame.cells)).sum)).release .responder
    ((s.responder.queue.map (fun e => e.frame.cells)).sum)

/-- The pool after a line-side reset (R74, R94): the waiting frames and the records of the four queues have given
their cells back too. -/
def State.emptiedPool (s : State) : Pool :=
  ((((s.stoppedPool.release .classify ((s.classifier.queue.map (fun w => w.frame.cells)).sum)).release
    (.queue 0) (cellsOf s.queues[0].records)).release
    (.queue 1) (cellsOf s.queues[1].records)).release
    (.queue 2) (cellsOf s.queues[2].records)).release
    (.queue 3) (cellsOf s.queues[3].records)

/-- The rows that dispatch a request, each with the request's kind. -/
def requestRow (k : ReqKind) (body : List Byte) : Instr :=
  match k with
  | .identify => .identify | .echo => .echo | .timeRead => .timeRead
  | .reset => if body = [1] then .resetLineSide else .resetPart
  | .lineSetup => .lineSetup | .addressSet => .addressSet | .lineStart => .lineStart
  | .lineStop => .lineStop | .lineStatus => .lineStatus | .lineCounters => .lineCounters
  | .poolStatus => .poolStatus | .poolSetup => .poolSetup | .sievePut => .sievePut
  | .sieveGet => .sieveGet | .sieveClear => .sieveClear | .sieveCopy => .sieveCopy
  | .sieveDefault => .sieveDefault | .sieveCommit => .sieveCommit | .hitsRead => .hitsRead
  | .hitsClear => .hitsClear | .classifyStatus => .classifyStatus | .queueSetup => .queueSetup
  | .queueStatus => .queueStatus | .framePeek => .framePeek | .frameTake => .frameTake
  | .frameDiscard => .frameDiscard | .queueFlush => .queueFlush | .slotRead => .slotRead
  | .slotWrite => .slotWrite | .slotClear => .slotClear | .slotSetup => .slotSetup
  | .templatePut => .templatePut | .templateGet => .templateGet | .templateClear => .templateClear
  | .responderStatus => .responderStatus | .frameSend => .frameSend | .sendCancel => .sendCancel
  | .sendStatus => .sendStatus | .sleep => .sleep | .presenceSetup => .presenceSetup

/-- The ranges a substitution item keeps against the body's length (R107). -/
def Item.InRange (bodyLength : Nat) : Item → Prop
  | .copy target source length =>
    1 ≤ length ∧ length ≤ 16 ∧ source ≤ 247 ∧ source + length ≤ 248 ∧ target + length ≤ bodyLength
  | .slot target _ => target + 16 ≤ bodyLength
  | .stamp target => target + 4 ≤ bodyLength
  | .uses target => target + 2 ≤ bodyLength

/-! ### The cell pool -/

/-- The free count and the nine held counts sum to 192 (R26). -/
def PoolLaw (s : State) : Prop := s.pool.total = 192

/-- The free count is never less than 16 less the cells RESPONDER holds (R29). -/
def ReserveLaw (s : State) : Prop := 16 ≤ s.pool.free + s.pool.responder

/-- The cells of the frame under reception (R12). -/
def Receiver.cells : Receiver → Nat
  | .receiving bs => cellsFor bs.length
  | _ => 0

/-- The cells of the waiting frames and of the frame under evaluation. -/
def Classifier.cells (c : Classifier) : Nat :=
  (c.queue.map (fun w => w.frame.cells)).sum +
  (match c.eval with
   | some e => e.member.frame.cells
   | none => 0)

/-- Every holder's count is the cells of what it holds (R26, R27), and the receiver holds a frame only while it
hears (R13). -/
def HoldersLaw (s : State) : Prop :=
  s.pool.receive = s.line.receiver.cells ∧
  s.pool.classify = s.classifier.cells ∧
  (∀ q : Fin 4, s.pool.queue[q] = cellsOf s.queues[q].records) ∧
  s.pool.responder = (s.responder.queue.map (fun e => e.frame.cells)).sum ∧
  s.pool.send = (s.sender.queue.map (fun e => e.frame.cells)).sum ∧
  s.pool.outbox = (s.link.outbox.map (fun e => e.msg.cells)).sum ∧
  (s.line.hears = false → s.line.receiver = .idle)

/-! ### The message link -/

/-- Outbox entries and request-table entries never exceed 32 together, the table holds at most 8, and no two of
its tags are equal (R144). -/
def TableLaw (s : State) : Prop :=
  s.link.occupancy ≤ 32 ∧ s.link.table.length ≤ 8 ∧ (s.link.table.map (fun e => e.tag)).Nodup

/-- At most 8 outbox entries are SENT, and every SENT entry is older than every UNSENT one (R146). -/
def SentLaw (s : State) : Prop :=
  s.link.sentCount ≤ 8 ∧
  s.link.outbox.Pairwise (fun older newer => newer.sent = true → older.sent = true)

/-- The sequence numbers in the outbox run on without a gap from the last removed one (R146). -/
def SequenceLaw (s : State) : Prop :=
  s.link.outbox.map (fun e => e.seq) =
    (List.range s.link.outbox.length).map (fun i => s.link.lastRemoved + 1 + BitVec.ofNat 8 i) ∧
  s.link.nextSeq = s.link.lastRemoved + 1 + BitVec.ofNat 8 s.link.outbox.length

/-- The kinds and subjects of the UNSENT notices of the outbox. -/
def Link.unsentIds (l : Link) : List NoticeId :=
  l.outbox.filterMap (fun e => match e.msg with
    | .notice n => if e.sent then none else some n.id
    | .reply _ _ _ _ => none)

/-- For each kind and subject at most one UNSENT notice, never one that is also a member of the pending set,
and no two members of the set alike (R152, R154). -/
def NoticeLaw (s : State) : Prop :=
  (s.link.unsentIds ++ s.link.notices.map Notice.id).Nodup

/-- Every deferred request still open holds its table entry (R145), and every send queue entry has exactly one
table entry of kind FRAME_SEND with its tag (R124). -/
def DeferredLaw (s : State) : Prop :=
  (s.link.table.map (fun e => e.tag)).Nodup ∧
  (s.sender.queue.map (fun e => e.tag)).Nodup ∧
  (∀ tag, (⟨tag, .frameSend⟩ : TableEntry) ∈ s.link.table ↔ tag ∈ s.sender.queue.map (fun e => e.tag)) ∧
  (∀ tag, (⟨tag, .sieveCommit⟩ : TableEntry) ∈ s.link.table ↔ s.sieve.commit = some tag) ∧
  (∀ tag, (⟨tag, .lineStop⟩ : TableEntry) ∈ s.link.table ↔ s.line.lineStop = some tag) ∧
  (∀ tag, (⟨tag, .reset⟩ : TableEntry) ∈ s.link.table ↔ s.line.lineSide.map (fun r => r.tag) = some tag)

/-! ### Presence and the signals -/

/-- ATTN is asserted exactly under its three conditions, and WAKE exactly while presence is WAKING (R151,
R164). -/
def PinLaw (s : State) : Prop :=
  s.pins.attn = s.attnCondition ∧ s.pins.wake = decide (s.presence.state = .waking)

/-- A message that is FILLING or HELD finds presence AWAKE (R161, NOTE); a doze reply is outstanding exactly in
DOZE_REQUESTED (R160); the cause set is empty in DOZING and holds a cause in WAKING (R165). -/
def PresenceLaw (s : State) : Prop :=
  (s.link.buffer ≠ .empty → s.presence.state = .awake) ∧
  (s.presence.dozeReply.isSome = true ↔ s.presence.state = .dozeRequested) ∧
  (s.presence.state = .dozing → s.presence.causes = 0) ∧
  (s.presence.state = .waking → s.presence.causes ≠ 0)

/-! ### The line -/

/-- The transmitter drives the line, or waits to, only in ACTIVE (R130). -/
def DriveLaw (s : State) : Prop := s.line.transmitter ≠ .idle → s.line.mode = .active

/-- What a mode leaves: outside LISTENING and ACTIVE the receiver is held in IDLE and no reply slot is open
(R5, R11); a resume mode stands exactly in FAULTED (R15, R17); and in ACTIVE, or with ACTIVE to resume, the own
list is not empty (R19, R20). -/
def ModeLaw (s : State) : Prop :=
  (s.line.transmitter ≠ .idle → s.line.mode = .active) ∧
  (s.line.hears = false → s.line.receiver = .idle ∧ s.line.slot = .none) ∧
  (s.line.resume.isSome = true ↔ s.line.mode = .faulted) ∧
  (s.line.mode = .active ∨ s.line.resume = some .active → s.line.own ≠ [])

/-- In STOPPED the send queue and the reply queue are empty (R134, R119). -/
def StoppedLaw (s : State) : Prop :=
  s.line.mode = .stopped → s.sender.queue = [] ∧ s.responder.queue = []

/-- The pass count is at most 4, and 0 while the send queue is empty (R131). -/
def PassLaw (s : State) : Prop :=
  s.sender.pass ≤ 4 ∧ (s.sender.queue = [] → s.sender.pass = 0)

/-- A grant and the entry it carries agree (R124, R130, R6).  No entry has made 8 attempts; with the transmitter
IDLE no entry is ON_LINE; and otherwise exactly one entry of the two queues is, the one the grant names, whose
attempt about to be made or under way is one more than those it has made, with its window as the wait kind. -/
def GrantLaw (s : State) : Prop :=
  (∀ e ∈ s.sender.queue, e.attempts < 8) ∧ (∀ e ∈ s.responder.queue, e.attempts < 8) ∧
  match s.line.transmitter.grant? with
  | none => (∀ e ∈ s.sender.queue, e.state ≠ .onLine) ∧ (∀ e ∈ s.responder.queue, e.state ≠ .onLine)
  | some ⟨.send tag, attempt, slotEnd⟩ =>
    (∀ e ∈ s.responder.queue, e.state ≠ .onLine) ∧
    ∃ a e b, s.sender.queue = a ++ e :: b ∧ (∀ x ∈ a ++ b, x.state ≠ .onLine) ∧ e.state = .onLine ∧
      e.tag = tag ∧ attempt = e.attempts + 1 ∧ slotEnd = none
  | some ⟨.reply, attempt, slotEnd⟩ =>
    (∀ e ∈ s.sender.queue, e.state ≠ .onLine) ∧
    ∃ a e b, s.responder.queue = a ++ e :: b ∧ (∀ x ∈ a ++ b, x.state ≠ .onLine) ∧ e.state = .onLine ∧
      attempt = e.attempts + 1 ∧ slotEnd = e.window

/-- The frame end points of the waiting frames and of the frame under evaluation. -/
def State.frameEnds (s : State) : List Nat :=
  s.classifier.queue.map (fun w => w.frameEnd) ++
  (match s.classifier.eval with
   | some e => [e.member.frameEnd]
   | none => [])

/-- At most one reply is IN_WINDOW (R112).  While it has not begun its attempt the reply slot is its own, and once
it has begun no OWN_SLOT is open; no slot is open while a frame is under reception or the part sends one, and
never both at once; and no frame that may yet be answered ended where the answered frame did. -/
def WindowLaw (s : State) : Prop :=
  s.responder.queue.countP (fun e => e.window.isSome) ≤ 1 ∧
  (∀ e ∈ s.responder.queue, ∀ fe, e.window = some fe → fe ∉ s.frameEnds ∧
    ((e.state = .waiting ∨ (e.state = .onLine ∧ s.line.transmitter.inGapWait = true)) ∧
        s.line.slot = .own fe ∨
      (e.state = .onLine ∧ s.line.transmitter.inGapWait = false ∧ ∀ p, s.line.slot ≠ .own p))) ∧
  (∀ bs, s.line.receiver = .receiving bs → s.line.slot = .none) ∧
  (∀ g start bytes, s.line.transmitter = .sending g start bytes →
    s.line.slot = .none ∧ ∀ bs, s.line.receiver ≠ .receiving bs) ∧
  s.frameEnds.Nodup

/-- The frame that ends next ends after every frame end point that is held, and not while the part drives the
line (R1, R2). -/
def FrameEndsInOrder (s : State) : Prop :=
  ∀ dt bytes fcs rest, s.pending = .frameEnd dt bytes fcs :: rest →
    s.line.transmitter.drives = false ∧
    (∀ fe ∈ s.frameEnds, fe < (s.elapse dt).line.point) ∧
    (∀ e ∈ s.responder.queue, ∀ fe, e.window = some fe → fe < (s.elapse dt).line.point)

/-! ### The classifier, the queues and the responder -/

/-- The classification queue and the reply queue hold at most 4 (R115). -/
def FourLaw (s : State) : Prop :=
  s.classifier.queue.length ≤ 4 ∧ s.responder.queue.length ≤ 4

/-- Every IN_USE entry of ACTIVE that answers names a DEFINED template (R51). -/
def TemplateLaw (s : State) : Prop :=
  ∀ (i : Fin 32) (t : Fin 16), s.sieve.active.entries[i].inUse = true →
    s.sieve.active.entries[i].answer = some t → s.responder.templates[t].defined = true

/-- Each delivery queue's depth limit is 1 to 64, and it holds at most 64 records (R76, R77). -/
def QueueLaw (s : State) : Prop :=
  ∀ q : Fin 4, 1 ≤ s.queues[q].settings.depth ∧ s.queues[q].settings.depth ≤ 64 ∧
    s.queues[q].records.length ≤ 64

/-- The frame ids held by waiting frames, by the frame under evaluation and by the records of the queues. -/
def State.frameIds (s : State) : List Half :=
  s.classifier.queue.map (fun w => w.id) ++
  (match s.classifier.eval with
   | some e => [e.member.id]
   | none => []) ++
  s.queues.toList.flatMap (fun d => d.records.map (fun r => r.id))

end Sys2Proof.Machine
end

