-- ==== Sys2Proof/WellFormed.lean ====
section
/-! DEFINITION. Which operands a command of the table can have: what the condition of its row says of the
operand itself.  A command whose operand is outside stays a command: its meaning finds that its condition
does not hold. -/

namespace Sys2Proof

open Machine

/-- The bytes of a whole request message: 4 bytes, a body of at most 320, and 2 check bytes (R140). -/
def wholeMessage (bs : List Byte) : Bool :=
  decide (4 ≤ bs.length) && decide ((halfAt bs 2).toNat ≤ 320) &&
  decide (bs.length = 6 + (halfAt bs 2).toNat)

/-- Four bytes that declare a body above 320 (R140). -/
def tooLongMessage (bs : List Byte) : Bool :=
  decide (bs.length = 4) && decide (320 < (halfAt bs 2).toNat)

/-- Bytes that end before the second check byte (R140). -/
def shortMessage (bs : List Byte) : Bool :=
  decide (bs.length < 4) ||
  (decide ((halfAt bs 2).toNat ≤ 320) && decide (bs.length < 6 + (halfAt bs 2).toNat))

/-- The check of a command's operands. -/
def Instr.wellFormed : Instr → Bool
  | .messageHeld bytes => wholeMessage bytes
  | .rejectTooLong bytes => tooLongMessage bytes
  | .rejectShort bytes => shortMessage bytes
  | .resend flags => flags.getLsbD 0
  | .receiveClaim _ bytes => decide (1 ≤ bytes.length) && decide (bytes.length ≤ 255)
  | .malformed _ bytes => decide (1 ≤ bytes.length) && decide (bytes.length ≤ 7)
  | .frameEnd _ bytes _ => decide (bytes.length ≤ 255)
  | .backoffEnd _ (.send tag) => tag ≠ 0xFF
  | .backoffEnd _ (.reply place) => decide (place < 4)
  | .stuckLine _ run _ => decide (40 < run)
  | .expiry _ _ frameId => frameId ≠ 0
  | .powerUp => true
  | .resetNAssert => true
  | .resetNRelease => true
  | .put _ => true
  | .get _ => true
  | .badExchange _ => true
  | .getAck _ => true
  | .getSendingStep => true
  | .unknownKindRequest => true
  | .identify => true
  | .echo => true
  | .timeRead => true
  | .resetPart => true
  | .resetLineSide => true
  | .lineSetup => true
  | .addressSet => true
  | .lineStart => true
  | .lineStop => true
  | .lineStatus => true
  | .lineCounters => true
  | .poolStatus => true
  | .poolSetup => true
  | .sievePut => true
  | .sieveGet => true
  | .sieveClear => true
  | .sieveCopy => true
  | .sieveDefault => true
  | .sieveCommit => true
  | .hitsRead => true
  | .hitsClear => true
  | .classifyStatus => true
  | .queueSetup => true
  | .queueStatus => true
  | .framePeek => true
  | .frameTake => true
  | .frameDiscard => true
  | .queueFlush => true
  | .slotRead => true
  | .slotWrite => true
  | .slotClear => true
  | .slotSetup => true
  | .templatePut => true
  | .templateGet => true
  | .templateClear => true
  | .responderStatus => true
  | .frameSend => true
  | .sendCancel => true
  | .sendStatus => true
  | .sleep => true
  | .presenceSetup => true
  | .frameStart _ => true
  | .fragment _ _ => true
  | .activityEnd _ => true
  | .foreignActivity _ => true
  | .windowClose _ => true
  | .gapPassed _ => true
  | .turnaround _ => true
  | .attemptSent _ => true
  | .collision _ => true
  | .jamEnd _ _ => true
  | .faultCleared _ => true
  | .evaluationStart _ => true
  | .scanEnd _ => true
  | .slotStale _ _ => true

end Sys2Proof
end

