-- ==== Sys2Proof/Certificates/Slice0/Obligations.lean ====
section
/-! DEFINITION. The statements about the part, for the provers. -/

section

open Sys2Proof Sys2Proof.Machine

/-! ### The step -/

/-- A step takes the command at the front of the queue and carries it out with the queue's rest. -/
def Obligations.StepTakesTheFront : Prop :=
  ∀ (c : Instr) (rest : List Instr) (s : State),
    step { s with pending := c :: rest } = exec c { s with pending := rest }

/-- On an empty queue one microsecond passes and nothing else happens: the timebase rises by one, and the line
clock counts that microsecond at its bit rate unless the mode is STOPPED. A command with a time counts the time
in quarter microseconds in the same way, at 1, 2, 4 or 8 sixteenths of a bit time each. That a step on an empty
queue is a microsecond, and the grain of a quarter, are the model's choices (log 5, log 3). -/
def Obligations.IdleStepIsOneMicrosecond : Prop :=
  ∀ s : State, s.pins.resetLow = false →
    (s.pending = [] →
      (s.line.mode = .stopped →
        step s = .next { s with line := { s.line with timebase := s.line.timebase + 1 } }) ∧
      (s.line.mode ≠ .stopped →
        step s = .next { s with line := { s.line with
          timebase := s.line.timebase + 1
          point := s.line.point + (match s.line.rate with
            | .r250 => 4
            | .r500 => 8
            | .r1000 => 16
            | .r2000 => 32) } })) ∧
    (∀ dt : Nat, s.elapse dt = { s with line := { s.line with
      timebase := s.line.timebase + BitVec.ofNat 32 ((s.line.fraction.toNat + dt) / 4)
      fraction := BitVec.ofNat 2 (s.line.fraction.toNat + dt)
      point := if s.line.mode = .stopped then s.line.point
        else s.line.point + dt * (match s.line.rate with
          | .r250 => 1
          | .r500 => 2
          | .r1000 => 4
          | .r2000 => 8) } })

/-- Every command ends in a next state: the queue of waiting commands is as it was, ATTN is asserted exactly
under its three conditions, and WAKE exactly while presence is WAKING. That a command whose condition does not
hold answers a next state too, and that the commands wait in a queue of their own, are the model's choices (log
8, log 1). -/
def Obligations.EveryCommandEndsWithItsSignals : Prop :=
  ∀ (c : Instr) (s : State), ∃ t, exec c s = .next t ∧ t.pending = s.pending ∧
    (t.pins.attn = true ↔
      (t.presence.state = .awake ∨ t.presence.state = .dozeRequested) ∧
      (∃ e ∈ t.link.outbox, e.sent = false) ∧
      (t.link.outbox.countP (fun e => e.sent)) < 8) ∧
    (t.pins.wake = true ↔ t.presence.state = .waking)

/-! ### Resets -/

/-- The state after reset has the values the spec gives for a full reset, and READY with cause POWER waits as
sequence number 1. -/
def Obligations.ResetStateIsTheSpecs : Prop :=
  (State.reset.line.mode = .stopped ∧ State.reset.line.resume = none ∧ State.reset.line.rate = .r250 ∧
    State.reset.line.own = [] ∧ State.reset.line.group = [] ∧ State.reset.line.receiver = .idle ∧
    State.reset.line.transmitter = .idle ∧ State.reset.line.slot = .none ∧ State.reset.line.gap = .long ∧
    State.reset.line.stuckCount = 0 ∧ State.reset.line.counters = ⟨0, 0, 0, 0, 0, 0, 0⟩ ∧
    State.reset.line.timebase = 0) ∧
  (State.reset.pool.free = 192 ∧ (∀ h, State.reset.pool.held h = 0) ∧ State.reset.pool.lowWater = 192 ∧
    State.reset.pool.quota = 32) ∧
  ((∀ i : Fin 32, State.reset.sieve.active.entries[i] = Entry.empty ∧
      State.reset.sieve.staged.entries[i] = Entry.empty) ∧
    State.reset.sieve.active.dflt = ⟨none, false⟩ ∧ State.reset.sieve.staged.dflt = ⟨none, false⟩ ∧
    State.reset.sieve.generation = 0 ∧ State.reset.sieve.commit = none) ∧
  (State.reset.classifier.queue = [] ∧ State.reset.classifier.eval = none ∧
    State.reset.classifier.frameId = 0 ∧ (∀ i : Fin 32, State.reset.classifier.hits[i] = 0) ∧
    State.reset.classifier.defaultHits = 0 ∧ State.reset.classifier.counters = ⟨0, 0, 0, 0, 0⟩) ∧
  (∀ q : Fin 4, State.reset.queues[q].records = [] ∧
    State.reset.queues[q].settings =
      ⟨true, 16, if q = 0 then 64 else 32, 0, .dropNewest, 0, false⟩ ∧
    State.reset.queues[q].counters = ⟨0, 0, 0, 0, 0, 0, 0⟩) ∧
  (∀ n : Fin 16, State.reset.slots[n] = ⟨.empty, 0, false, false, false, 0⟩) ∧
  ((∀ n : Fin 16, State.reset.responder.templates[n] = Template.empty) ∧
    State.reset.responder.queue = [] ∧ State.reset.responder.seqCounter = 0 ∧
    State.reset.responder.counters = ⟨0, 0, 0, 0, 0, 0, 0, 0⟩) ∧
  (State.reset.sender.queue = [] ∧ State.reset.sender.pass = 0) ∧
  (State.reset.link.buffer = .empty ∧ State.reset.link.table = [] ∧ State.reset.link.notices = [] ∧
    State.reset.link.outbox = [⟨1, false, .notice (.ready .power)⟩] ∧
    State.reset.link.nextSeq = 2 ∧ State.reset.link.lastRemoved = 0 ∧
    State.reset.link.counters = ⟨0, 0, 0, 0, 0, 0, 0, 0, 0, 0⟩) ∧
  (State.reset.presence = ⟨.awake, 0, none, ⟨true, true, true, true⟩, 24⟩) ∧
  (State.reset.pins.attn = true ∧ State.reset.pins.wake = false ∧ State.reset.pending = [])

/-- Power-up, the release of RESET_N and RESET with scope PART each leave the part as a full reset does, with
READY of their own cause as sequence number 1; the assertion of RESET_N, and a power-up while it is low, leave
it so with no READY, and while RESET_N is held low the part takes no exchange.  That a command other than the
release changes nothing while RESET_N is low is the model's reading (log 18). -/
def Obligations.FullResetsEndInReady : Prop :=
  ∀ s : State,
    (s.pins.resetLow = false →
      exec .powerUp s = .next { State.reset with pending := s.pending }) ∧
    (s.pins.resetLow = true →
      exec .powerUp s =
        .next { State.cleared with pins := ⟨true, false, false, []⟩, pending := s.pending }) ∧
    (exec .resetNAssert s =
      .next { State.cleared with pins := ⟨true, false, false, []⟩, pending := s.pending }) ∧
    (s.pins.resetLow = true →
      exec .resetNRelease s = .next { State.reset with
        link := { State.reset.link with outbox := [⟨1, false, .notice (.ready .pin)⟩] }
        pending := s.pending }) ∧
    (∀ tag, s.pins.resetLow = false → Accepted s .reset tag [0] →
      exec .resetPart s = .next { State.reset with
        link := { State.reset.link with outbox := [⟨1, false, .notice (.ready .request)⟩] }
        pending := s.pending }) ∧
    (s.pins.resetLow = true → ∀ dt,
      exec (.put dt) s = .next s.drivePins ∧ exec (.get dt) s = .next s.drivePins ∧
      exec (.badExchange dt) s = .next s.drivePins)

/-! ### Exchanges -/

/-- A PUT whose exchange code finds presence AWAKE or DOZE_REQUESTED counts PUTS and leaves presence AWAKE with
no doze reply and the cause set as it stands; an EMPTY buffer becomes FILLING and LINK_READY is shifted out, a
HELD one is untouched and LINK_BUSY is shifted out and counted. That the link status of position 1 is recorded
with the exchange code is the model's choice (log 26). -/
def Obligations.PutAnswersReadyOrBusy : Prop :=
  ∀ (dt : Nat) (s : State), s.pins.resetLow = false →
    (s.presence.state = .awake ∧ s.presence.dozeReply = none) ∨ s.presence.state = .dozeRequested →
    (s.link.buffer = .empty →
      exec (.put dt) s = .next (State.drivePins { s with
        line := s.line.elapse dt
        link := { s.link with
          buffer := .filling [], exchange := .put
          counters := { s.link.counters with puts := bump s.link.counters.puts } }
        presence := { s.presence with state := .awake, dozeReply := none }
        pins := { s.pins with sdo := [0x00, 0x01] } })) ∧
    (∀ kind tag body, s.link.buffer = .held kind tag body →
      exec (.put dt) s = .next (State.drivePins { s with
        line := s.line.elapse dt
        link := { s.link with
          exchange := .none
          counters := { s.link.counters with
            puts := bump s.link.counters.puts, busyReplies := bump s.link.counters.busyReplies } }
        presence := { s.presence with state := .awake, dozeReply := none }
        pins := { s.pins with sdo := [0x00, 0x02] } }))

/-- A GET whose exchange code finds presence AWAKE or DOZE_REQUESTED counts GETS and changes no presence; a
first byte that is no exchange code counts BAD_EXCHANGE and is not told to the presence controller.  A GET in
DOZING or WAKING returns presence to AWAKE, releases WAKE, posts WAKE_CAUSE with the set (HOST joining it in
DOZING), the merged count 1 and the timebase, and empties the set, and so does a PUT.  An exchange code that
finds a message still FILLING rejects it SHORT first, its select period having ended (log 19). -/
def Obligations.GetIsCountedAndReturnsTheHost : Prop :=
  (∀ (dt : Nat) (s : State), s.pins.resetLow = false → (∀ bs, s.link.buffer ≠ .filling bs) →
    (s.presence.state = .awake ∨ s.presence.state = .dozeRequested →
      exec (.get dt) s = .next (State.drivePins { s with
        line := s.line.elapse dt
        link := { s.link with
          exchange := .getAck
          counters := { s.link.counters with gets := bump s.link.counters.gets } }
        pins := { s.pins with sdo := [0x00] } })) ∧
    (exec (.badExchange dt) s = .next (State.drivePins { s with
        line := s.line.elapse dt
        link := { s.link with
          exchange := .none
          counters := { s.link.counters with badExchange := bump s.link.counters.badExchange } }
        pins := { s.pins with sdo := [0x00] } })) ∧
    (s.presence.state = .dozing ∨ s.presence.state = .waking →
    s.link.outbox.any (OutEntry.isUnsentNotice .wakeCause) = false →
    s.link.notices.any (fun m => m.id = .wakeCause) = false → s.link.occupancy < 32 →
    ∃ t, exec (.get dt) s = .next t ∧
      t.presence = { s.presence with state := .awake, causes := 0 } ∧ t.pins.wake = false ∧
      t.link.outbox = s.link.outbox ++ [⟨s.link.nextSeq, false, .notice (.wakeCause
        (if s.presence.state = .dozing then s.presence.causes ||| 0x800000 else s.presence.causes) 1
        (s.line.elapse dt).timebase)⟩] ∧
      t.link.counters = { s.link.counters with gets := bump s.link.counters.gets } ∧
      t.pool = s.pool ∧ t.queues = s.queues ∧ t.slots = s.slots) ∧
    (s.presence.state = .dozing ∨ s.presence.state = .waking → s.link.buffer = .empty →
      s.link.outbox.any (OutEntry.isUnsentNotice .wakeCause) = false →
      s.link.notices.any (fun m => m.id = .wakeCause) = false → s.link.occupancy < 32 →
      ∃ t, exec (.put dt) s = .next t ∧
        t.presence = { s.presence with state := .awake, causes := 0 } ∧ t.pins.wake = false ∧
        t.link.buffer = .filling [] ∧
        t.link.outbox = s.link.outbox ++ [⟨s.link.nextSeq, false, .notice (.wakeCause
          (if s.presence.state = .dozing then s.presence.causes ||| 0x800000 else s.presence.causes) 1
          (s.line.elapse dt).timebase)⟩] ∧
        t.link.counters = { s.link.counters with puts := bump s.link.counters.puts })) ∧
  (∀ (dt : Nat) (s : State) (bs : List Byte), s.pins.resetLow = false → s.link.buffer = .filling bs →
    ∃ t u v, exec (.get dt) s = .next t ∧ exec (.badExchange dt) s = .next u ∧
      exec (.put dt) s = .next v ∧ t.link.buffer = .empty ∧ u.link.buffer = .empty ∧
      v.link.buffer = .filling [] ∧
      t.link.counters = { s.link.counters with
        gets := bump s.link.counters.gets, rejectShort := bump s.link.counters.rejectShort } ∧
      u.link.counters = { s.link.counters with
        badExchange := bump s.link.counters.badExchange
        rejectShort := bump s.link.counters.rejectShort } ∧
      v.link.counters = { s.link.counters with
        puts := bump s.link.counters.puts, rejectShort := bump s.link.counters.rejectShort })

/-- A message that arrives whole is HELD when its check agrees, and is rejected CHECK when it does not. A
declared length above 320 rejects it TOO_LONG. A select period that ends before the second check byte rejects it
SHORT, with the tag byte 0xFF when that byte has not arrived. The part shifts out 0x00 from position 2 on, the
status standing in position 1. A posting updates the UNSENT notice of its kind and subject in place, else the
pending member, else is appended while outbox and table hold fewer than 32, else joins the pending set as its
newest member; a WAKE_CAUSE takes the union and the newer time, WAKE_CAUSE and LINK_REJECT the sum of the
counts, saturating, and every other kind the new body. That the status is recorded with the exchange code is the
model's choice (log 26). -/
def Obligations.PutMessageIsJudged : Prop :=
  ∀ s : State, s.link.buffer = .filling [] → s.link.exchange = .put →
    (∀ (kind tag : Byte) (body : List Byte) (check : Half), body.length ≤ 320 →
    (check = crc ([kind, tag] ++ be16 (BitVec.ofNat 16 body.length) ++ body) →
      exec (.messageHeld
          ([kind, tag] ++ be16 (BitVec.ofNat 16 body.length) ++ body ++ be16 check)) s =
        .next (State.drivePins { s with
          link := { s.link with buffer := .held kind tag body, exchange := .none }
          pins := { s.pins with sdo := s.pins.sdo ++ List.replicate (5 + body.length) 0 } })) ∧
    (check ≠ crc ([kind, tag] ++ be16 (BitVec.ofNat 16 body.length) ++ body) →
      exec (.messageHeld
          ([kind, tag] ++ be16 (BitVec.ofNat 16 body.length) ++ body ++ be16 check)) s =
        .next (State.drivePins (State.shiftOut (State.post
          { s with link := { s.link with
              buffer := .empty, exchange := .none
              counters := { s.link.counters with rejectCheck := bump s.link.counters.rejectCheck } } }
          (.linkReject .check tag 1)) (List.replicate (5 + body.length) 0))))) ∧
    (∀ (kind tag : Byte) (n : Half), 320 < n.toNat →
      exec (.rejectTooLong ([kind, tag] ++ be16 n)) s =
        .next (State.drivePins (State.shiftOut (State.post
          { s with link := { s.link with
              buffer := .empty, exchange := .none
              counters := { s.link.counters with
                rejectTooLong := bump s.link.counters.rejectTooLong } } }
          (.linkReject .tooLong tag 1)) [0, 0, 0]))) ∧
    (∀ bs : List Byte, shortMessage bs = true →
      ∃ t, exec (.rejectShort bs) s = .next t ∧ t.link.buffer = .empty ∧ t.link.exchange = .none ∧
        t.link.counters = { s.link.counters with rejectShort := bump s.link.counters.rejectShort } ∧
        t.link.table = s.link.table ∧ t.pool = s.pool ∧ t.line = s.line ∧
        (s.link.outbox = [] → s.link.notices = [] → s.link.table = [] →
          t.link.outbox = [⟨s.link.nextSeq, false, .notice (.linkReject .short
            (if 2 ≤ bs.length then bs.getD 1 0 else 0xFF) 1)⟩])) ∧
    (∀ (u : State) (n : Notice),
      (∀ (a c : List OutEntry) (e : OutEntry) (m : Notice), u.link.outbox = a ++ e :: c →
        (∀ x ∈ a, x.sent = false → ∀ k, x.msg = .notice k → k.id ≠ n.id) → e.sent = false →
        e.msg = .notice m → m.id = n.id →
        u.post n = { u with link := { u.link with
          outbox := a ++ { e with msg := .notice (m.merge n) } :: c } }) ∧
      ((∀ x ∈ u.link.outbox, x.sent = false → ∀ k, x.msg = .notice k → k.id ≠ n.id) →
        (∀ (a c : List Notice) (m : Notice), u.link.notices = a ++ m :: c → (∀ x ∈ a, x.id ≠ n.id) →
          m.id = n.id →
          u.post n = { u with link := { u.link with notices := a ++ m.merge n :: c } }) ∧
        ((∀ x ∈ u.link.notices, x.id ≠ n.id) →
          (u.link.outbox.length + u.link.table.length < 32 → u.post n = u.append (.notice n)) ∧
          (32 ≤ u.link.outbox.length + u.link.table.length →
            u.post n = { u with link := { u.link with notices := u.link.notices ++ [n] } })))) ∧
    (∀ c m t c' m' t', Notice.merge (.wakeCause c m t) (.wakeCause c' m' t') =
      .wakeCause (c ||| c') (BitVec.ofNat 16 (min 65535 (m.toNat + m'.toNat))) t') ∧
    (∀ r g m r' g' m', Notice.merge (.linkReject r g m) (.linkReject r' g' m') =
      .linkReject r' g' (BitVec.ofNat 16 (min 65535 (m.toNat + m'.toNat)))) ∧
    (∀ old new : Notice, old.id = new.id → new.id ≠ .wakeCause → new.id ≠ .linkReject →
      old.merge new = new)

/-- An ACK of a SENT entry removes it and every older entry and releases their chains, and while outbox and
table hold fewer than 32 the oldest members of the pending notice set are appended in the places it made; an ACK
of the last removed sequence number changes nothing; any other ACK is ignored, counted and posted as
LINK_REJECT. An append places the message at the tail, UNSENT, with the next sequence number, and one that
brings the entries to the high mark gives OUTBOX_HIGH. -/
def Obligations.AckRemovesOrIsIgnored : Prop :=
  ∀ (s : State) (ack : Byte), s.link.exchange = .getAck →
    (∀ (old rest : List OutEntry) (e : OutEntry), s.link.outbox = old ++ e :: rest →
      (∀ x ∈ old, x.seq ≠ ack) → e.sent = true → e.seq = ack → s.link.notices = [] →
      s.presence.state = .awake → s.presence.dozeReply = none →
      exec (.getAck ack) s = .next (State.drivePins { s with
        link := { s.link with outbox := rest, lastRemoved := ack, exchange := .getFlags }
        pool := s.pool.release .outbox (((old ++ [e]).map (fun x => x.msg.cells)).sum)
        pins := { s.pins with sdo := s.pins.sdo ++ [0x00] } })) ∧
    ((∀ x ∈ s.link.outbox, x.sent = true → x.seq ≠ ack) → ack = s.link.lastRemoved →
      exec (.getAck ack) s = .next (State.drivePins { s with
        link := { s.link with exchange := .getFlags }
        pins := { s.pins with sdo := s.pins.sdo ++ [0x00] } })) ∧
    ((∀ x ∈ s.link.outbox, x.sent = true → x.seq ≠ ack) → ack ≠ s.link.lastRemoved →
      exec (.getAck ack) s = .next (State.drivePins (State.shiftOut (State.setExchange (State.post
        { s with link := { s.link with counters :=
          { s.link.counters with rejectBadAck := bump s.link.counters.rejectBadAck } } }
        (.linkReject .badAck ack 1)) .getFlags) [0x00]))) ∧
    (∀ (old rest : List OutEntry) (e : OutEntry), s.link.outbox = old ++ e :: rest →
      (∀ x ∈ old, x.seq ≠ ack) → e.sent = true → e.seq = ack → s.presence.dozeReply = none →
      exec (.getAck ack) s = .next (State.drivePins (State.shiftOut (State.setExchange (State.drainNotices
        { s with
          link := { s.link with outbox := rest, lastRemoved := ack }
          pool := s.pool.release .outbox (((old ++ [e]).map (fun x => x.msg.cells)).sum) })
        .getFlags) [0x00]))) ∧
    (∀ u : State,
      (32 ≤ u.link.outbox.length + u.link.table.length ∨ u.link.notices = [] → u.drainNotices = u) ∧
      (∀ n ns, u.link.notices = n :: ns → u.link.outbox.length + u.link.table.length < 32 →
        u.drainNotices = State.drainNotices
          (State.append { u with link := { u.link with notices := ns } } (.notice n)))) ∧
    (∀ (u v : State) (m : Message),
      v = { u with link := { u.link with
        outbox := u.link.outbox ++ [⟨u.link.nextSeq, false, m⟩], nextSeq := u.link.nextSeq + 1 } } →
      (u.link.outbox.length + 1 ≠ u.presence.highMark → u.append m = v) ∧
      (u.link.outbox.length + 1 = u.presence.highMark → u.append m = v.give .outboxHigh))

/-- RESEND makes every SENT entry UNSENT and counts RESENDS: with no notice in the outbox and none pending every
entry keeps its place, number and body, and so it does where no two notices of the outbox and the pending set
are alike. Of two notices alike in the outbox the older keeps its place and takes the newer's body merged, the
newer is removed, and the numbers behind it, the next sequence number and a doze reply behind it fall by one. A
pending member alike to a notice of the outbox is merged into it and leaves the set. Pending members then move
while there is room. A FLAGS byte with bit 0 clear changes nothing. -/
def Obligations.ResendMakesUnsent : Prop :=
  ∀ (s : State) (flags : Byte), s.link.exchange = .getFlags →
    (flags.getLsbD 0 = true → (∀ e ∈ s.link.outbox, ∀ n, e.msg ≠ .notice n) → s.link.notices = [] →
      exec (.resend flags) s = .next (State.drivePins { s with
        link := { s.link with
          exchange := .getMarker
          outbox := s.link.outbox.map (fun e => { e with sent := false })
          counters := { s.link.counters with resends := bump s.link.counters.resends } }
        pins := { s.pins with sdo := s.pins.sdo ++ [0x00] } })) ∧
    (∀ ids : List NoticeId, flags.getLsbD 0 = true →
      ids = s.link.outbox.filterMap (fun e => match e.msg with
        | .notice n => some n.id
        | .reply _ _ _ _ => none) →
      ids.Nodup → (∀ n ∈ s.link.notices, n.id ∉ ids) →
      exec (.resend flags) s = .next (State.drivePins (State.shiftOut (State.setExchange
        (State.drainNotices { s with link := { s.link with
          outbox := s.link.outbox.map (fun e => { e with sent := false })
          counters := { s.link.counters with resends := bump s.link.counters.resends } } })
        .getMarker) [0x00]))) ∧
    (∀ (ids : List NoticeId) (a b c : List OutEntry) (x y : OutEntry) (m n : Notice),
      flags.getLsbD 0 = true → s.link.outbox = a ++ x :: (b ++ y :: c) → x.msg = .notice m →
      y.msg = .notice n → m.id = n.id →
      ids = (a ++ x :: (b ++ c)).filterMap (fun e => match e.msg with
        | .notice n => some n.id
        | .reply _ _ _ _ => none) →
      ids.Nodup → (∀ k ∈ s.link.notices, k.id ∉ ids) →
      exec (.resend flags) s = .next (State.drivePins (State.shiftOut (State.setExchange
        (State.drainNotices { s with
          link := { s.link with
            outbox := (a ++ { x with msg := .notice (m.merge n) } :: b).map
                (fun e => { e with sent := false }) ++
              c.map (fun e => { e with sent := false, seq := e.seq - 1 })
            nextSeq := s.link.nextSeq - 1
            counters := { s.link.counters with resends := bump s.link.counters.resends } }
          presence := { s.presence with dozeReply :=
            if ∃ e ∈ c, s.presence.dozeReply = some e.seq then s.presence.dozeReply.map (fun d => d - 1)
            else s.presence.dozeReply } })
        .getMarker) [0x00]))) ∧
    (∀ (ids : List NoticeId) (a c : List OutEntry) (x : OutEntry) (m p : Notice) (before after : List Notice),
      flags.getLsbD 0 = true → s.link.outbox = a ++ x :: c → x.msg = .notice m → m.id = p.id →
      s.link.notices = before ++ p :: after →
      ids = s.link.outbox.filterMap (fun e => match e.msg with
        | .notice n => some n.id
        | .reply _ _ _ _ => none) →
      ids.Nodup → (∀ k ∈ before ++ after, k.id ∉ ids) →
      exec (.resend flags) s = .next (State.drivePins (State.shiftOut (State.setExchange
        (State.drainNotices { s with link := { s.link with
          outbox := (a ++ { x with msg := .notice (m.merge p) } :: c).map (fun e => { e with sent := false })
          notices := before ++ after
          counters := { s.link.counters with resends := bump s.link.counters.resends } } })
        .getMarker) [0x00]))) ∧
    (flags.getLsbD 0 = false →
      exec (.resend flags) s = .next (State.drivePins { s with
        link := { s.link with exchange := .getMarker }
        pins := { s.pins with sdo := s.pins.sdo ++ [0x00] } }))

/-- The sending step shifts out the oldest UNSENT entry with its marker and check and makes it SENT while fewer
than 8 are SENT; it shifts out EMPTY when there is none, and HOLD when 8 are SENT. -/
def Obligations.SendingStepSendsTheOldestUnsent : Prop :=
  ∀ s : State, s.link.exchange = .getMarker →
    (∀ (old rest : List OutEntry) (e : OutEntry), s.link.outbox = old ++ e :: rest →
      (∀ x ∈ old, x.sent = true) → e.sent = false → s.link.sentCount < 8 →
      exec .getSendingStep s = .next (State.drivePins { s with
        link := { s.link with
          exchange := .none, outbox := old ++ { e with sent := true } :: rest }
        pins := { s.pins with sdo := s.pins.sdo ++ (0x01 ::
          ([e.seq, e.msg.kind, e.msg.tag] ++ be16 (BitVec.ofNat 16 e.msg.body.length) ++ e.msg.body ++
            be16 (crc ([e.seq, e.msg.kind, e.msg.tag] ++ be16 (BitVec.ofNat 16 e.msg.body.length) ++
              e.msg.body)))) } })) ∧
    ((∀ x ∈ s.link.outbox, x.sent = true) → s.link.sentCount < 8 →
      exec .getSendingStep s = .next (State.drivePins { s with
        link := { s.link with exchange := .none }
        pins := { s.pins with sdo := s.pins.sdo ++ [0x00] } })) ∧
    (8 ≤ s.link.sentCount →
      exec .getSendingStep s = .next (State.drivePins { s with
        link := { s.link with exchange := .none }
        pins := { s.pins with sdo := s.pins.sdo ++ [0x02] } }))

/-! ### Dispatch -/

/-- Dispatch judges the six checks in order: the first that fails empties the buffer, leaves everything else and
appends a reply of that status with the request's kind plus 0x80, while there is room.  At a sum of 32 the reply
is dropped and counted in REFUSALS_DROPPED. -/
def Obligations.DispatchRefusesByTheFirstFailedCheck : Prop :=
  ∀ (s : State) (k : ReqKind) (tag : Byte) (body : List Byte),
    s.link.buffer = .held k.code tag body →
    (∀ status : Byte, s.link.occupancy < 32 →
    (tag = 0xFF ∧ status = 0x03) ∨
      (tag ≠ 0xFF ∧ k.lengthOk body.length = false ∧ status = 0x02) ∨
      (tag ≠ 0xFF ∧ k.lengthOk body.length = true ∧ s.link.holdsTag tag = true ∧ status = 0x04) ∨
      (tag ≠ 0xFF ∧ k.lengthOk body.length = true ∧ s.link.holdsTag tag = false ∧
        8 ≤ s.link.table.length ∧ status = 0x05) →
    exec (requestRow k body) s =
      .next (State.drivePins (s.emptyBuffer.append (.reply (k.code + 0x80) tag [status] [])))) ∧
    (s.link.occupancy = 32 →
      exec (requestRow k body) s = .next (State.drivePins { s with link := { s.link with
        buffer := .empty
        counters := { s.link.counters with refusalsDropped := bump s.link.counters.refusalsDropped } } }))

/-- A HELD message whose kind is no request kind is answered with kind 0x80 and its kind byte: BAD_FIELD for the
tag 0xFF, and UNKNOWN_KIND for any other. -/
def Obligations.UnknownKindIsRefused : Prop :=
  ∀ (s : State) (kind tag : Byte) (body : List Byte),
    s.link.buffer = .held kind tag body → (∀ k : ReqKind, k.code ≠ kind) → s.link.occupancy < 32 →
    exec .unknownKindRequest s = .next (State.drivePins (s.emptyBuffer.append
      (.reply 0x80 tag [if tag = 0xFF then 0x03 else 0x01, kind] [])))

/-! ### The link's and the line's requests -/

/-- IDENTIFY reports the identity, the capacities, the occupancy (its own table entry counted, log 13) and the
counters, and clears them with option 1; ECHO returns its body; TIME_READ returns the timebase. -/
def Obligations.LinkRequestsReply : Prop :=
  ∀ (s : State) (tag : Byte) (content : List Byte),
    content = be16 Config.familyCode ++ be16 Config.partCode ++ [Config.revision] ++
      [2000, 4, 8, 248, 255, 8, 192, 16, 64, 2, 32, 4, 4, 4, 4, 64, 16, 16, 248, 6, 4, 8, 320, 48, 8, 32, 8,
        28, 31].flatMap (fun n => be16 (BitVec.ofNat 16 n)) ++
      [byteOf (s.link.table.length + 1),
        byteOf (s.link.outbox.length - s.link.outbox.countP (fun e => e.sent)),
        byteOf (s.link.outbox.countP (fun e => e.sent)), byteOf s.link.notices.length, s.link.nextSeq,
        s.link.lastRemoved] ++
      [s.link.counters.puts, s.link.counters.gets, s.link.counters.badExchange, s.link.counters.busyReplies,
        s.link.counters.rejectShort, s.link.counters.rejectTooLong, s.link.counters.rejectCheck,
        s.link.counters.rejectBadAck, s.link.counters.refusalsDropped, s.link.counters.resends].flatMap be32 →
    (Accepted s .identify tag [0] →
      exec .identify s = .next (State.drivePins (s.answered .identify tag content id))) ∧
    (Accepted s .identify tag [1] →
      exec .identify s = .next (State.drivePins (s.answered .identify tag content
        (fun t => { t with link := { t.link with counters := ⟨0, 0, 0, 0, 0, 0, 0, 0, 0, 0⟩ } })))) ∧
    (∀ body, Accepted s .echo tag body →
      exec .echo s = .next (State.drivePins (s.answered .echo tag body id))) ∧
    (Accepted s .timeRead tag [] →
      exec .timeRead s = .next (State.drivePins
        (s.withReply .timeRead tag (0x00 :: be32 s.line.timebase) [])))

/-- LINE_SETUP: BAD_FIELD for a code above 3, LINE_STATE outside STOPPED, and otherwise the bit rate named. -/
def Obligations.LineSetupSetsTheRateInStopped : Prop :=
  ∀ (s : State) (tag code : Byte), Accepted s .lineSetup tag [code] →
    (3 < code.toNat →
      exec .lineSetup s = .next (State.drivePins (s.withReply .lineSetup tag [0x03] []))) ∧
    (code.toNat ≤ 3 → s.line.mode ≠ .stopped →
      exec .lineSetup s = .next (State.drivePins (s.withReply .lineSetup tag [0x0C] []))) ∧
    (∀ r : BitRate, code = r.code → s.line.mode = .stopped →
      exec .lineSetup s = .next (State.drivePins
        (State.withReply { s with line := { s.line with rate := r } } .lineSetup tag [0x00] [])))

/-- ADDRESS_SET with lists that may be kept replaces both whole, in the order given; an empty own list is
refused LINE_STATE in ACTIVE and with ACTIVE to resume; a list that may not be kept is refused INVALID; and the
ranges of the counts are judged before their agreement with the body's length. -/
def Obligations.AddressSetReplacesBothLists : Prop :=
  ∀ (s : State) (tag : Byte),
    (∀ (own group : List Half),
    own.length ≤ 4 → group.length ≤ 8 →
    (∀ a ∈ own, 1 ≤ a.toNat ∧ a.toNat ≤ 0xEFFF) → (∀ a ∈ group, 0xF000 ≤ a.toNat ∧ a.toNat ≤ 0xFFFE) →
    own.Nodup → group.Nodup →
    Accepted s .addressSet tag
      ([byteOf own.length, byteOf group.length] ++ own.flatMap be16 ++ group.flatMap be16) →
    ((own ≠ [] ∨ (s.line.mode ≠ .active ∧ ¬ (s.line.mode = .faulted ∧ s.line.resume = some .active))) →
      exec .addressSet s = .next (State.drivePins
        (State.withReply { s with line := { s.line with own := own, group := group } }
          .addressSet tag [0x00] []))) ∧
    (own = [] ∧ (s.line.mode = .active ∨ (s.line.mode = .faulted ∧ s.line.resume = some .active)) →
      exec .addressSet s = .next (State.drivePins (s.withReply .addressSet tag [0x0C] [])))) ∧
    (∀ (own group : List Half), own.length ≤ 4 → group.length ≤ 8 →
    ((∃ a ∈ own, a = 0 ∨ 0xF000 ≤ a.toNat) ∨ (∃ a ∈ group, a.toNat < 0xF000 ∨ a = 0xFFFF) ∨ ¬ own.Nodup ∨
      ¬ group.Nodup) →
    Accepted s .addressSet tag
      ([byteOf own.length, byteOf group.length] ++ own.flatMap be16 ++ group.flatMap be16) →
    exec .addressSet s = .next (State.drivePins (s.withReply .addressSet tag [0x0B] []))) ∧
    (∀ body : List Byte, Accepted s .addressSet tag body →
    (4 < natAt body 0 ∨ 8 < natAt body 1 →
      exec .addressSet s = .next (State.drivePins (s.withReply .addressSet tag [0x03] []))) ∧
    (natAt body 0 ≤ 4 → natAt body 1 ≤ 8 → body.length ≠ 2 + 2 * natAt body 0 + 2 * natAt body 1 →
      exec .addressSet s = .next (State.drivePins (s.withReply .addressSet tag [0x02] []))))

/-- LINE_START from STOPPED: DONE, then the mode named, the receiver DISCARDING, the gap LONG from the change
and the stuck-line count 0, with LINE_STATE posted; in FAULTED only the resume mode changes; the mode already
named changes nothing.  It is refused BAD_FIELD for another mode, BUSY while a LINE_STOP or a line-side reset
runs, INVALID for ACTIVE with an empty own list, and BUSY for LISTENING while the transmitter drives.  The order
of the two messages is the model's reading (log 11). -/
def Obligations.LineStartChangesTheMode : Prop :=
  ∀ (s : State) (tag : Byte),
    (∀ m : HearMode, Accepted s .lineStart tag [m.mode.code] →
    s.line.stoppingOrReset = false → (m = .active → s.line.own ≠ []) →
    (s.line.mode = .stopped →
      exec .lineStart s = .next (State.drivePins (State.arbitrate (State.post
        { s.withReply .lineStart tag [0x00] [] with line := { s.line with
            mode := m.mode, resume := none, receiver := .discarding, gap := .long
            lastActivity := s.line.point, stuckCount := 0 } }
        (.lineState m.mode none))))) ∧
    (s.line.mode = .faulted →
      exec .lineStart s = .next (State.drivePins
        { s.withReply .lineStart tag [0x00] [] with line := { s.line with resume := some m } })) ∧
    (s.line.mode = m.mode → s.line.resume = none →
      s.line.transmitter = .idle → s.responder.queue = [] → s.sender.queue = [] →
      exec .lineStart s = .next (State.drivePins (s.withReply .lineStart tag [0x00] []))) ∧
    (s.line.mode = .listening → m = .active →
      exec .lineStart s = .next (State.drivePins (State.arbitrate (State.post
        { s.withReply .lineStart tag [0x00] [] with line := { s.line with mode := .active, resume := none } }
        (.lineState .active none))))) ∧
    (s.line.mode = .active → m = .listening → s.line.transmitter = .idle →
      exec .lineStart s = .next (State.drivePins (State.post
        { s.withReply .lineStart tag [0x00] [] with
            line := { s.line with mode := .listening, resume := none } }
        (.lineState .listening none))))) ∧
    (∀ code : Byte, Accepted s .lineStart tag [code] →
    (code ≠ 1 → code ≠ 2 →
      exec .lineStart s = .next (State.drivePins (s.withReply .lineStart tag [0x03] []))) ∧
    (code = 1 ∨ code = 2 → s.line.stoppingOrReset = true →
      exec .lineStart s = .next (State.drivePins (s.withReply .lineStart tag [0x06] []))) ∧
    (code = 2 → s.line.stoppingOrReset = false → s.line.own = [] →
      exec .lineStart s = .next (State.drivePins (s.withReply .lineStart tag [0x0B] []))) ∧
    (code = 1 → s.line.stoppingOrReset = false → s.line.mode = .active →
      (∃ g start bytes, s.line.transmitter = .sending g start bytes) ∨
        (∃ g start, s.line.transmitter = .jamming g start) →
      exec .lineStart s = .next (State.drivePins (s.withReply .lineStart tag [0x06] []))))

/-- LINE_STOP: DONE at once in STOPPED; BUSY while another or a line-side reset runs; with a frame in SENDING it
begins the jam, a jam that runs already runs on, and the request keeps its table entry. With nothing on the line
it ends in STOPPED in the same operation: the reception is abandoned, every send completes ABORTED from head to
tail with the attempts made, the reply queue is emptied, all their cells return to FREE, the reply slot is NONE,
LINE_STATE is posted and the DONE reply stands last. The rate, the lists, the counters and the timebase are as
they were. -/
def Obligations.LineStopRunsTheSequence : Prop :=
  ∀ (s : State) (tag : Byte), Accepted s .lineStop tag [] →
    (s.line.stoppingOrReset = true →
      exec .lineStop s = .next (State.drivePins (s.withReply .lineStop tag [0x06] []))) ∧
    (s.line.stoppingOrReset = false → s.line.mode = .stopped →
      exec .lineStop s = .next (State.drivePins (s.withReply .lineStop tag [0x00] []))) ∧
    (s.line.stoppingOrReset = false → s.line.mode ≠ .stopped →
      ∀ g start bytes, s.line.transmitter = .sending g start bytes →
      exec .lineStop s = .next (State.drivePins { s with
        line := { s.line with transmitter := .jamming g s.line.point, lineStop := some tag }
        link := { s.link with buffer := .empty, table := s.link.table ++ [⟨tag, .lineStop⟩] } })) ∧
    (s.line.stoppingOrReset = false → s.line.mode ≠ .stopped →
      ∀ g start, s.line.transmitter = .jamming g start →
      exec .lineStop s = .next (State.drivePins { s with
        line := { s.line with lineStop := some tag }
        link := { s.link with buffer := .empty, table := s.link.table ++ [⟨tag, .lineStop⟩] } })) ∧
    (DeferredLaw s → s.appendsLineState 31 → s.line.stoppingOrReset = false → s.line.mode ≠ .stopped →
      s.line.transmitter.drives = false →
      ∃ t, exec .lineStop s = .next t ∧
        t.line = { s.line with
          mode := .stopped, resume := none, slot := .none, receiver := .idle, transmitter := .idle } ∧
        t.link.outbox = s.link.outbox ++ s.numbered (s.abortedReplies (fun _ => false) ++
          [.notice (.lineState .stopped none), .reply 0x93 tag [0x00] []]) ∧
        t.link.table = s.link.table.filter (fun e => decide (e.kind ≠ .frameSend)) ∧
        t.pool = s.stoppedPool ∧ t.pool.receive = 0 ∧ (s.sender.queue ≠ [] → t.sender.pass = 0)) ∧
    (s.line.stoppingOrReset = false → s.line.mode ≠ .stopped → s.line.transmitter.drives = false →
      ∃ t, exec .lineStop s = .next t ∧ t.line.mode = .stopped ∧ t.line.resume = none ∧
        t.line.slot = .none ∧ t.line.receiver = .idle ∧ t.line.transmitter = .idle ∧
        t.line.lineStop = none ∧ t.sender.queue = [] ∧ t.responder.queue = [] ∧
        t.line.rate = s.line.rate ∧ t.line.own = s.line.own ∧ t.line.group = s.line.group ∧
        t.line.counters = s.line.counters ∧ t.line.timebase = s.line.timebase ∧
        t.classifier = s.classifier ∧ t.queues = s.queues ∧ t.slots = s.slots ∧ t.sieve = s.sieve ∧
        t.responder.counters.stopDiscarded =
          bumpBy s.responder.counters.stopDiscarded s.responder.queue.length)

/-- A line-side reset with the transmitter not driving and the classifier IDLE ends in the same operation: the
mode STOPPED, the receiver IDLE with no cell held, the send queue ABORTED, the reply queue counted in
STOP_DISCARDED, the classification and delivery queues emptied in no counter, the settings and the sieve banks
kept, a pending commit applied, and DONE its last reply. With a frame under evaluation it waits for it after the
stopping sequence; with a frame on the line it waits for the jam; it shares the sequence of a LINE_STOP in
progress; and a second one is refused BUSY. That the whole sequence runs in STOPPED too is the model's reading
(log 27). -/
def Obligations.LineSideResetEmptiesTheLineSide : Prop :=
  ∀ (s : State) (tag : Byte), Accepted s .reset tag [1] →
    (s.line.lineSide.isSome = true →
      exec .resetLineSide s = .next (State.drivePins (s.withReply .reset tag [0x06] []))) ∧
    (s.line.lineSide = none → s.line.lineStop.isSome = true →
      exec .resetLineSide s = .next (State.drivePins { s with
        line := { s.line with lineSide := some ⟨tag, .stopping⟩ }
        link := { s.link with buffer := .empty, table := s.link.table ++ [⟨tag, .reset⟩] } })) ∧
    (s.line.lineSide = none → s.line.lineStop = none →
      (∀ g start bytes, s.line.transmitter = .sending g start bytes →
        exec .resetLineSide s = .next (State.drivePins { s with
          line := { s.line with
            transmitter := .jamming g s.line.point, lineSide := some ⟨tag, .stopping⟩ }
          link := { s.link with buffer := .empty, table := s.link.table ++ [⟨tag, .reset⟩] } })) ∧
      (∀ g start, s.line.transmitter = .jamming g start →
        exec .resetLineSide s = .next (State.drivePins { s with
          line := { s.line with lineSide := some ⟨tag, .stopping⟩ }
          link := { s.link with buffer := .empty, table := s.link.table ++ [⟨tag, .reset⟩] } }))) ∧
    (∀ early : List Message, DeferredLaw s → s.appendsLineState 31 → s.line.lineSide = none →
      s.line.lineStop = none → s.line.transmitter.drives = false →
      early = s.abortedReplies (fun _ => false) ++
        (if s.line.mode = .stopped then [] else [.notice (.lineState .stopped none)]) →
      (s.classifier.eval = none → s.sieve.commit = none →
        ∃ t, exec .resetLineSide s = .next t ∧
          t.line = { s.line with
            mode := .stopped, resume := none, slot := .none, receiver := .idle, transmitter := .idle } ∧
          t.sender.queue = [] ∧ t.responder.queue = [] ∧
          t.responder.counters = { s.responder.counters with
            stopDiscarded := bumpBy s.responder.counters.stopDiscarded s.responder.queue.length } ∧
          t.classifier = { s.classifier with queue := [] } ∧
          (∀ q : Fin 4, t.queues[q].records = [] ∧ t.queues[q].settings = s.queues[q].settings ∧
            t.queues[q].counters = s.queues[q].counters) ∧
          t.sieve = s.sieve ∧ t.slots = s.slots ∧ t.responder.templates = s.responder.templates ∧
          t.responder.seqCounter = s.responder.seqCounter ∧ t.pool = s.emptiedPool ∧ t.pool.receive = 0 ∧
          t.link.outbox = s.link.outbox ++ s.numbered (early ++ [.reply 0x84 tag [0x00] []]) ∧
          t.link.table = s.link.table.filter (fun e => decide (e.kind ≠ .frameSend))) ∧
      (∀ c, s.classifier.eval = none → s.sieve.commit = some c →
        (∀ (i : Fin 32) (n : Fin 16), s.sieve.staged.entries[i].inUse = true →
          s.sieve.staged.entries[i].answer = some n → s.responder.templates[n].defined = true) →
        ∃ t, exec .resetLineSide s = .next t ∧ t.line.lineSide = none ∧ t.sieve.active = s.sieve.staged ∧
          t.sieve.generation = s.sieve.generation + 1 ∧ t.sieve.commit = none ∧
          t.link.outbox = s.link.outbox ++ s.numbered (early ++
            [.reply 0xA5 c ([0x00] ++ be16 (s.sieve.generation + 1) ++
              [byteOf ((List.finRange 32).countP
                (fun i => !(s.sieve.staged.entries[i].same s.sieve.active.entries[i]))),
                yesNo (decide (s.sieve.staged.dflt ≠ s.sieve.active.dflt))]) [],
              .reply 0x84 tag [0x00] []])) ∧
      (s.classifier.eval.isSome = true →
        ∃ t, exec .resetLineSide s = .next t ∧
          t.line = { s.line with
            mode := .stopped, resume := none, slot := .none, receiver := .idle, transmitter := .idle,
            lineSide := some ⟨tag, .classifier⟩ } ∧
          t.classifier = s.classifier ∧ t.queues = s.queues ∧ t.sieve = s.sieve ∧ t.sender.queue = [] ∧
          t.responder.queue = [] ∧ t.pool = s.stoppedPool ∧
          t.link.outbox = s.link.outbox ++ s.numbered early ∧
          t.link.table = s.link.table.filter (fun e => decide (e.kind ≠ .frameSend)) ++ [⟨tag, .reset⟩]))

/-- LINE_STATUS reports the line interface and changes nothing; LINE_COUNTERS reports the seven counters, and
option 1 sets them to 0; POOL_STATUS reports the account, the low-water mark and the quota, and restarts the
mark at the free count. When the stopping byte of LINE_STATUS is 1 is the model's reading (log 12). -/
def Obligations.LineAndPoolReportsReply : Prop :=
  ∀ (s : State) (tag : Byte),
    (Accepted s .lineStatus tag [] → s.line.own.length ≤ 4 → s.line.group.length ≤ 8 →
      exec .lineStatus s = .next (State.drivePins (s.withReply .lineStatus tag
        ([0x00, s.line.mode.code, resumeCode s.line.resume, s.line.rate.code, s.line.receiver.code,
          s.line.transmitter.code, s.line.slot.code, yesNo s.line.stopping, byteOf s.line.own.length,
          byteOf s.line.group.length] ++ s.line.own.flatMap be16 ++ s.line.group.flatMap be16) []))) ∧
    (Accepted s .lineCounters tag [0] →
      exec .lineCounters s = .next (State.drivePins
        (s.withReply .lineCounters tag (0x00 :: s.line.counters.bytes) []))) ∧
    (Accepted s .lineCounters tag [1] →
      exec .lineCounters s = .next (State.drivePins (State.withReply
        { s with line := { s.line with counters := ⟨0, 0, 0, 0, 0, 0, 0⟩ } }
        .lineCounters tag (0x00 :: s.line.counters.bytes) []))) ∧
    (Accepted s .poolStatus tag [] →
    exec .poolStatus s = .next (State.drivePins (State.withReply
      { s with pool := { s.pool with lowWater := s.pool.free } } .poolStatus tag
      (0x00 :: [s.pool.free, s.pool.receive, s.pool.classify, s.pool.queue[0], s.pool.queue[1],
        s.pool.queue[2], s.pool.queue[3], s.pool.responder, s.pool.send, s.pool.outbox,
        s.pool.lowWater, s.pool.quota].map byteOf) [])))

/-! ### The pool -/

/-- POOL_SETUP sets the send quota to a value from 0 to 64, and refuses a value above 64 BAD_FIELD with the
quota left as it was, in every line mode. -/
def Obligations.PoolSetupSetsTheQuota : Prop :=
  ∀ (s : State) (tag value : Byte), Accepted s .poolSetup tag [value] →
    (value.toNat ≤ 64 →
      exec .poolSetup s = .next (State.drivePins (State.withReply
        { s with pool := { s.pool with quota := value.toNat } } .poolSetup tag [0x00] []))) ∧
    (64 < value.toNat →
      exec .poolSetup s = .next (State.drivePins (s.withReply .poolSetup tag [0x03] [])))

/-- The claims of the pool: an ordinary claim succeeds exactly when it leaves at least 16 less the cells of
RESPONDER free; a responder claim when the free count is at least the cells asked; a granted claim passes the
cells to its holder and lowers the mark to the new free count where that is below it. A release returns a
holder's cells to FREE, and a move passes them to another holder with the free count as it was; neither changes
the low-water mark. -/
def Obligations.ClaimsAreJudgedByTheReserve : Prop :=
  ∀ (p : Pool) (h : Holder) (c : Nat),
    (p.ordinaryOk c = true ↔ c ≤ p.free ∧ 16 ≤ (p.free - c) + p.responder) ∧
    (p.responderOk c = true ↔ c ≤ p.free) ∧
    (p.quotaOk c = true ↔ p.send + c ≤ p.quota) ∧
    (p.claim h c).free = p.free - c ∧ (p.claim h c).held h = p.held h + c ∧
    (∀ g, g ≠ h → (p.claim h c).held g = p.held g) ∧
    (p.claim h c).lowWater = (if p.free - c < p.lowWater then p.free - c else p.lowWater) ∧
    (c ≤ p.held h →
      (p.release h c).free = p.free + c ∧ (p.release h c).held h = p.held h - c ∧
      (∀ g, g ≠ h → (p.release h c).held g = p.held g) ∧ (p.release h c).lowWater = p.lowWater ∧
      (p.release h c).quota = p.quota ∧
      (∀ g, g ≠ h →
        (p.move h g c).free = p.free ∧ (p.move h g c).held h = p.held h - c ∧
        (p.move h g c).held g = p.held g + c ∧ (p.move h g c).lowWater = p.lowWater ∧
        (p.move h g c).quota = p.quota ∧
        (∀ k, k ≠ h → k ≠ g → (p.move h g c).held k = p.held k)))

/-! ### The sieve table -/

/-- Every entry in range reads back from the bytes in which it is carried, and its length is the one those bytes
declare. -/
def Obligations.SieveEntryReadsBack : Prop :=
  ∀ e : Entry, e.inUse = true → e.terms.length ≤ 4 →
    (∀ w, e.window = some w → isStation w.1 = true ∧ isStation w.2 = true ∧ w.1.toNat ≤ w.2.toNat) →
    (∀ c, e.capture = some c → c.offset ≤ 247 ∧ 1 ≤ c.length ∧ c.length ≤ 16 ∧
      c.offset + c.length ≤ 248) →
    (∀ t ∈ e.terms, t.offset ≤ 247 ∧ t.offset + t.width.bytes ≤ 248 ∧ t.width.fits t.mask = true ∧
      t.width.fits t.operand = true) →
    entry? e.bytes = some e ∧ entryLength e.bytes = e.bytes.length

/-- The edits of STAGED: SIEVE_PUT writes an entry, SIEVE_CLEAR makes one or all UNUSED, SIEVE_COPY takes ACTIVE
and reports the generation, SIEVE_DEFAULT sets the default verdict; each is refused BUSY while a commit is
pending, and none touches ACTIVE. SIEVE_PUT is refused BAD_LENGTH when its length is not the one its term count
and its presence codes give, and BAD_FIELD when it agrees and carries no entry in range for an index from 0 to
31. SIEVE_CLEAR of another index and SIEVE_DEFAULT of another deliver-to are refused BAD_FIELD. -/
def Obligations.SieveEditsActOnStaged : Prop :=
  ∀ (s : State) (tag : Byte),
    (∀ (i : Fin 32) (bytes : List Byte) (e : Entry), entry? bytes = some e →
      bytes.length = entryLength bytes → Accepted s .sievePut tag (byteOf i.val :: bytes) →
      exec .sievePut s = .next (State.drivePins
        (if s.sieve.commit.isSome then s.withReply .sievePut tag [0x06] []
         else State.withReply { s with sieve := { s.sieve with staged := { s.sieve.staged with
            entries := s.sieve.staged.entries.set i e } } } .sievePut tag [0x00] []))) ∧
    (∀ i : Fin 32, Accepted s .sieveClear tag [byteOf i.val] →
      exec .sieveClear s = .next (State.drivePins
        (if s.sieve.commit.isSome then s.withReply .sieveClear tag [0x06] []
         else State.withReply { s with sieve := { s.sieve with staged := { s.sieve.staged with
            entries := s.sieve.staged.entries.set i Entry.empty } } } .sieveClear tag [0x00] []))) ∧
    (Accepted s .sieveClear tag [0xFF] →
      exec .sieveClear s = .next (State.drivePins
        (if s.sieve.commit.isSome then s.withReply .sieveClear tag [0x06] []
         else State.withReply { s with sieve := { s.sieve with staged := { s.sieve.staged with
            entries := Vector.replicate 32 Entry.empty } } } .sieveClear tag [0x00] []))) ∧
    (Accepted s .sieveCopy tag [] →
      exec .sieveCopy s = .next (State.drivePins
        (if s.sieve.commit.isSome then s.withReply .sieveCopy tag [0x06] []
         else State.withReply { s with sieve := { s.sieve with staged := s.sieve.active } } .sieveCopy tag
          (0x00 :: be16 s.sieve.generation) []))) ∧
    (∀ (d : Option (Fin 4)) (w : Bool), Accepted s .sieveDefault tag [orNoneByte d, yesNo w] →
      exec .sieveDefault s = .next (State.drivePins
        (if s.sieve.commit.isSome then s.withReply .sieveDefault tag [0x06] []
         else State.withReply { s with sieve := { s.sieve with staged := { s.sieve.staged with
            dflt := ⟨d, w⟩ } } } .sieveDefault tag [0x00] []))) ∧
    (∀ v : Byte, 31 < v.toNat → v ≠ 0xFF → Accepted s .sieveClear tag [v] →
      exec .sieveClear s = .next (State.drivePins (s.withReply .sieveClear tag [0x03] []))) ∧
    (∀ v w : Byte, 3 < v.toNat → v ≠ 0xFF → Accepted s .sieveDefault tag [v, w] →
      exec .sieveDefault s = .next (State.drivePins (s.withReply .sieveDefault tag [0x03] []))) ∧
    (∀ (body : List Byte) (n : Nat), Accepted s .sievePut tag body →
      n = 10 + 11 * natAt body 4 + (if natAt body 5 = 0 then 0 else 4) +
        (if natAt body 6 = 0 then 0 else 3) →
      (body.length ≠ n →
        exec .sievePut s = .next (State.drivePins (s.withReply .sievePut tag [0x02] []))) ∧
      (body.length = n →
        (∀ (i : Fin 32) (e : Entry), e.inUse = true → e.terms.length ≤ 4 →
          (∀ w, e.window = some w → isStation w.1 = true ∧ isStation w.2 = true ∧
            w.1.toNat ≤ w.2.toNat) →
          (∀ c, e.capture = some c → c.offset ≤ 247 ∧ 1 ≤ c.length ∧ c.length ≤ 16 ∧
            c.offset + c.length ≤ 248) →
          (∀ t ∈ e.terms, t.offset ≤ 247 ∧ t.offset + t.width.bytes ≤ 248 ∧ t.width.fits t.mask = true ∧
            t.width.fits t.operand = true) →
          body ≠ byteOf i.val :: e.bytes) →
        exec .sievePut s = .next (State.drivePins (s.withReply .sievePut tag [0x03] []))))

/-- SIEVE_COMMIT with the classifier IDLE, every template named in STAGED defined: ACTIVE takes STAGED, the
generation rises by one, the hit counters of the indices that differ are set to 0, and DONE carries the new
generation, the number of indices and whether the default differed. -/
def Obligations.CommitInstallsStaged : Prop :=
  ∀ (s : State) (tag : Byte), Accepted s .sieveCommit tag [] → s.sieve.commit = none →
    s.classifier.eval = none →
    (∀ (i : Fin 32) (t : Fin 16), s.sieve.staged.entries[i].inUse = true →
      s.sieve.staged.entries[i].answer = some t → s.responder.templates[t].defined = true) →
    ∃ t, exec .sieveCommit s = .next t ∧ t.sieve.active = s.sieve.staged ∧
      t.sieve.staged = s.sieve.staged ∧ t.sieve.generation = s.sieve.generation + 1 ∧
      t.sieve.commit = none ∧
      (∀ i : Fin 32, t.classifier.hits[i] =
        if s.sieve.staged.entries[i].same s.sieve.active.entries[i] then s.classifier.hits[i] else 0) ∧
      t.classifier.defaultHits =
        (if s.sieve.staged.dflt = s.sieve.active.dflt then s.classifier.defaultHits else 0) ∧
      t.link.outbox = s.link.outbox ++ [⟨s.link.nextSeq, false, .reply 0xA5 tag
        ([0x00] ++ be16 (s.sieve.generation + 1) ++
          [byteOf ((List.finRange 32).countP
              (fun i => !(s.sieve.staged.entries[i].same s.sieve.active.entries[i]))),
            yesNo (decide (s.sieve.staged.dflt ≠ s.sieve.active.dflt))]) []⟩] ∧
      t.link.table = s.link.table ∧ t.line = s.line ∧ t.pool = s.pool ∧ t.queues = s.queues

/-- SIEVE_COMMIT whose STAGED names an UNDEFINED template: INVALID with the lowest such index, the reason 0, the
template and the generation, and the table is left as it was.  A second commit while one is pending is refused
BUSY; a commit taken while the classifier evaluates is recorded with its tag. -/
def Obligations.CommitFailsWaitsOrIsBusy : Prop :=
  ∀ (s : State) (tag : Byte), Accepted s .sieveCommit tag [] →
    (s.sieve.commit.isSome = true →
      exec .sieveCommit s = .next (State.drivePins (s.withReply .sieveCommit tag [0x06] []))) ∧
    (s.sieve.commit = none → s.classifier.eval.isSome = true →
      exec .sieveCommit s = .next (State.drivePins { s with
        sieve := { s.sieve with commit := some tag }
        link := { s.link with buffer := .empty, table := s.link.table ++ [⟨tag, .sieveCommit⟩] } })) ∧
    (s.sieve.commit = none → s.classifier.eval = none →
      ∀ (i : Fin 32) (n : Fin 16), s.sieve.staged.entries[i].inUse = true →
      s.sieve.staged.entries[i].answer = some n → s.responder.templates[n].defined = false →
      (∀ j : Fin 32, j < i → s.sieve.staged.entries[j].inUse = true →
        ∀ m, s.sieve.staged.entries[j].answer = some m → s.responder.templates[m].defined = true) →
      exec .sieveCommit s = .next (State.drivePins (s.withReply .sieveCommit tag
        ([0x0B, byteOf i.val, 0x00, byteOf n.val] ++ be16 s.sieve.generation) [])))

/-! ### The classifier's requests -/

/-- HITS_READ reports the generation, the range and its hit counters, with the default's last for option 1;
HITS_CLEAR sets exactly the counters of the range to 0, and the default's with option 1; CLASSIFY_STATUS
reports, and option 1 clears the five counters.  SIEVE_GET reports one entry of ACTIVE or STAGED with the
generation and the commit-pending flag.  HITS_READ and HITS_CLEAR of another range or option are refused
BAD_FIELD. -/
def Obligations.SieveAndClassifierReportsReply : Prop :=
  ∀ (s : State) (tag : Byte),
    (∀ (first count : Nat) (o : Bool), first + count ≤ 32 → first ≤ 31 → 1 ≤ count + o.toNat →
      count + o.toNat ≤ 8 → Accepted s .hitsRead tag [byteOf first, byteOf count, yesNo o] →
      exec .hitsRead s = .next (State.drivePins (s.withReply .hitsRead tag
        (0x00 :: (be16 s.sieve.generation ++ [byteOf first, byteOf count] ++
          ((s.classifier.hits.toList.drop first).take count).flatMap be32 ++
          (if o then be32 s.classifier.defaultHits else []))) []))) ∧
    (∀ (first count : Nat) (o : Bool), first + count ≤ 32 → first ≤ 31 → (count ≠ 0 ∨ o = true) →
      Accepted s .hitsClear tag [byteOf first, byteOf count, yesNo o] →
      exec .hitsClear s = .next (State.drivePins (State.withReply
        { s with classifier := { s.classifier with
            hits := Vector.ofFn fun i =>
              if first ≤ i.val ∧ i.val < first + count then 0 else s.classifier.hits[i]
            defaultHits := if o then 0 else s.classifier.defaultHits } }
        .hitsClear tag [0x00] []))) ∧
    (∀ o : Bool, Accepted s .classifyStatus tag [yesNo o] →
      exec .classifyStatus s = .next (State.drivePins (State.withReply
        (if o then { s with classifier := { s.classifier with counters := ⟨0, 0, 0, 0, 0⟩ } } else s)
        .classifyStatus tag ([0x00, yesNo s.classifier.eval.isSome] ++
          be16 (match s.classifier.eval with
            | some e => e.member.id
            | none => 0) ++
          [byteOf s.classifier.queue.length] ++ be16 s.classifier.frameId ++ be16 s.sieve.generation ++
          [yesNo s.sieve.commit.isSome] ++
          [s.classifier.counters.absorbed, s.classifier.counters.overrun,
            s.classifier.counters.captureShort, s.classifier.counters.captureExcess,
            s.classifier.counters.suppressed].flatMap be32) []))) ∧
    (∀ (bank : Byte) (i : Fin 32), Accepted s .sieveGet tag [bank, byteOf i.val] →
    (bank = 0 ∨ bank = 1 →
      exec .sieveGet s = .next (State.drivePins (s.answered .sieveGet tag
        ([bank, byteOf i.val,
            yesNo ((if bank = 0 then s.sieve.active else s.sieve.staged).entries[i].inUse)] ++
          be16 s.sieve.generation ++ [yesNo s.sieve.commit.isSome] ++
          ((if bank = 0 then s.sieve.active else s.sieve.staged).entries[i]).bytes) id))) ∧
    (bank ≠ 0 → bank ≠ 1 →
      exec .sieveGet s = .next (State.drivePins (s.withReply .sieveGet tag [0x03] [])))) ∧
    (∀ first count o : Byte, 31 < first.toNat ∨ 8 < count.toNat ∨ 1 < o.toNat ∨
        32 < first.toNat + count.toNat ∨ count.toNat + o.toNat < 1 ∨ 8 < count.toNat + o.toNat →
      Accepted s .hitsRead tag [first, count, o] →
      exec .hitsRead s = .next (State.drivePins (s.withReply .hitsRead tag [0x03] []))) ∧
    (∀ first count o : Byte, 31 < first.toNat ∨ 32 < count.toNat ∨ 1 < o.toNat ∨
        32 < first.toNat + count.toNat ∨ (count = 0 ∧ o ≠ 1) →
      Accepted s .hitsClear tag [first, count, o] →
      exec .hitsClear s = .next (State.drivePins (s.withReply .hitsClear tag [0x03] [])))

/-! ### The delivery queues -/

/-- QUEUE_SETUP with settings in range replaces the seven settings whole; with an age limit of 0 no record
leaves the queue, and with another every record whose age passes it expires, counted, with its chain released.
That a record whose expiry is due under the old limit expires before the reply too is the model's reading (log
15). -/
def Obligations.QueueSetupReplacesTheSettings : Prop :=
  ∀ (s : State) (tag : Byte) (q : Fin 4) (c : QueueSettings), 1 ≤ c.depth → c.depth ≤ 64 →
    c.cells ≤ 192 → c.age ≤ 65535 → c.fill ≤ 64 →
    Accepted s .queueSetup tag (byteOf q.val :: c.bytes) →
    ∃ t, exec .queueSetup s = .next t ∧ t.queues[q].settings = c ∧
      t.queues[q].records = s.queues[q].records.filter
        (fun r => decide (c.age = 0 ∨ ageMs s.line.timebase r.stamp ≤ c.age)) ∧
      t.queues[q].counters = { s.queues[q].counters with
        expired := bumpBy s.queues[q].counters.expired
          (s.queues[q].records.length - t.queues[q].records.length) } ∧
      t.pool = s.pool.release (.queue q) (((s.queues[q].records.filter
        (fun r => decide (c.age ≠ 0 ∧ c.age < ageMs s.line.timebase r.stamp))).map
          (fun r => r.frame.cells)).sum) ∧
      (∀ p : Fin 4, p ≠ q → t.queues[p] = s.queues[p]) ∧
      t.link.outbox = s.link.outbox ++ [⟨s.link.nextSeq, false, .reply 0xB0 tag [0x00] []⟩] ∧
      t.line = s.line ∧ t.classifier = s.classifier ∧ t.slots = s.slots ∧ t.responder = s.responder ∧
      t.sender = s.sender ∧ t.sieve = s.sieve

/-- QUEUE_STATUS reports and with option 1 clears the seven counters; FRAME_PEEK reports the head record and
changes nothing, or answers EMPTY with the record count 0. -/
def Obligations.QueueReportsReply : Prop :=
  ∀ (s : State) (tag : Byte) (q : Fin 4),
    (∀ o : Bool, Accepted s .queueStatus tag [byteOf q.val, yesNo o] →
      exec .queueStatus s = .next (State.drivePins (State.withReply
        (if o then
          { s with
            queues := s.queues.set q { s.queues[q] with counters := ⟨0, 0, 0, 0, 0, 0, 0⟩ } }
         else s)
        .queueStatus tag
        ([0x00, byteOf q.val, yesNo s.queues[q].settings.enabled, byteOf s.queues[q].settings.depth,
            byteOf s.queues[q].settings.cells] ++
          be16 (BitVec.ofNat 16 s.queues[q].settings.age) ++
          [s.queues[q].settings.policy.code, byteOf s.queues[q].settings.fill,
            yesNo s.queues[q].settings.wakeOnFill, byteOf s.queues[q].records.length,
            byteOf s.pool.queue[q]] ++
          be32 (match s.queues[q].records with
            | [] => 0xFFFFFFFF
            | r :: _ => BitVec.ofNat 32 ((s.line.timebase - r.stamp).toNat / 1000)) ++
          [s.queues[q].counters.accepted, s.queues[q].counters.taken, s.queues[q].counters.removed,
            s.queues[q].counters.expired, s.queues[q].counters.disabledDrop,
            s.queues[q].counters.overflowNew, s.queues[q].counters.overflowOld].flatMap be32) []))) ∧
    (Accepted s .framePeek tag [byteOf q.val] → s.queues[q].records = [] →
      exec .framePeek s = .next (State.drivePins
        (s.withReply .framePeek tag [0x09, byteOf q.val, 0x00] []))) ∧
    (∀ r rest, Accepted s .framePeek tag [byteOf q.val] → s.queues[q].records = r :: rest →
      exec .framePeek s = .next (State.drivePins (s.withReply .framePeek tag
        ([0x00, byteOf q.val, byteOf (rest.length + 1)] ++ be16 r.id ++ be32 r.stamp ++
          be16 r.generation ++ [orNoneByte r.matched,
            yesNo r.answered ||| (yesNo r.wake <<< 1) ||| (yesNo r.captured <<< 2),
            byteOf r.frame.length, byteOf r.frame.cells] ++
          be32 (BitVec.ofNat 32 ((s.line.timebase - r.stamp).toNat / 1000))) [])))

/-- FRAME_TAKE of an empty queue answers EMPTY; otherwise the head record leaves counted in TAKEN, its chain
moves to OUTBOX without a claim, and the reply carries the record with the count after the removal, and the
stored frame in the chain. -/
def Obligations.FrameTakeHandsOverTheHead : Prop :=
  ∀ (s : State) (tag : Byte) (q : Fin 4), Accepted s .frameTake tag [byteOf q.val] →
    (s.queues[q].records = [] →
      exec .frameTake s = .next (State.drivePins
        (s.withReply .frameTake tag [0x09, byteOf q.val, 0x00] []))) ∧
    (∀ r rest, s.queues[q].records = r :: rest →
      exec .frameTake s = .next (State.drivePins (State.withReply
        { s with
          queues := s.queues.set q { s.queues[q] with
            records := rest
            counters := { s.queues[q].counters with taken := bump s.queues[q].counters.taken } }
          pool := s.pool.move (.queue q) .outbox r.frame.cells }
        .frameTake tag
        ([0x00, byteOf q.val, byteOf rest.length] ++ be16 r.id ++ be32 r.stamp ++
          be16 r.generation ++ [orNoneByte r.matched,
            yesNo r.answered ||| (yesNo r.wake <<< 1) ||| (yesNo r.captured <<< 2),
            byteOf r.frame.length, byteOf r.frame.cells] ++
          be32 (BitVec.ofNat 32 ((s.line.timebase - r.stamp).toNat / 1000)))
        r.frame.bytes)))

/-- FRAME_DISCARD removes the first n records, n from 1 to 64, and QUEUE_FLUSH all of them, each counted in
REMOVED with its chain released; the replies carry the number removed, and FRAME_DISCARD's the number left. -/
def Obligations.DiscardAndFlushRemove : Prop :=
  ∀ (s : State) (tag : Byte) (q : Fin 4),
    (∀ n : Byte, Accepted s .frameDiscard tag [byteOf q.val, n] →
      (n.toNat = 0 ∨ 64 < n.toNat →
        exec .frameDiscard s = .next (State.drivePins (s.withReply .frameDiscard tag [0x03] []))) ∧
      (1 ≤ n.toNat → n.toNat ≤ 64 →
        exec .frameDiscard s = .next (State.drivePins (State.withReply
          { s with
            queues := s.queues.set q { s.queues[q] with
              records := s.queues[q].records.drop n.toNat
              counters := { s.queues[q].counters with
                removed := bumpBy s.queues[q].counters.removed
                  (s.queues[q].records.take n.toNat).length } }
            pool := s.pool.release (.queue q)
              (((s.queues[q].records.take n.toNat).map (fun r => r.frame.cells)).sum) }
          .frameDiscard tag
          [0x00, byteOf (min n.toNat s.queues[q].records.length),
            byteOf (s.queues[q].records.length - n.toNat)] [])))) ∧
    (Accepted s .queueFlush tag [byteOf q.val] →
      exec .queueFlush s = .next (State.drivePins (State.withReply
        { s with
          queues := s.queues.set q { s.queues[q] with
            records := []
            counters := { s.queues[q].counters with
              removed := bumpBy s.queues[q].counters.removed s.queues[q].records.length } }
          pool := s.pool.release (.queue q)
            ((s.queues[q].records.map (fun r => r.frame.cells)).sum) }
        .queueFlush tag [0x00, byteOf s.queues[q].records.length] [])))

/-- An arrival is judged in order: not enabled, too old, fit. A refusal is counted in its own counter and the
chain goes from CLASSIFY to FREE; a record that fits joins the tail, counted in ACCEPTED, with its chain moved.
Under DROP_OLDEST head records make room, as many as it takes and no more, each counted in OVERFLOW_OLD with its
chain released. An accepted arrival to a queue that held no record before it posts QUEUE_READY; one that takes
the count from below the fill threshold to it or above posts QUEUE_FILL, and gives FILL where wake-on-fill is
set. -/
def Obligations.ArrivalIsJudgedInOrder : Prop :=
  ∀ (s : State) (q : Fin 4) (r : Record),
    (s.queues[q].settings.enabled = false →
      s.arrive q r = { s with
        queues := s.queues.set q { s.queues[q] with counters := { s.queues[q].counters with
          disabledDrop := bump s.queues[q].counters.disabledDrop } }
        pool := s.pool.release .classify r.frame.cells }) ∧
    (s.queues[q].settings.enabled = true → s.queues[q].settings.age ≠ 0 →
      s.queues[q].settings.age < (s.line.timebase - r.stamp).toNat / 1000 →
      s.arrive q r = { s with
        queues := s.queues.set q { s.queues[q] with counters := { s.queues[q].counters with
          expired := bump s.queues[q].counters.expired } }
        pool := s.pool.release .classify r.frame.cells }) ∧
    (s.queues[q].settings.enabled = true →
      s.queues[q].settings.age = 0 ∨
        (s.line.timebase - r.stamp).toNat / 1000 ≤ s.queues[q].settings.age →
      (s.queues[q].settings.depth < s.queues[q].records.length + 1 ∨
        s.queues[q].settings.cells < s.pool.queue[q] + r.frame.cells) →
      (s.queues[q].settings.policy = .dropNewest ∨ s.queues[q].settings.cells < r.frame.cells) →
      s.arrive q r = { s with
        queues := s.queues.set q { s.queues[q] with counters := { s.queues[q].counters with
          overflowNew := bump s.queues[q].counters.overflowNew } }
        pool := s.pool.release .classify r.frame.cells }) ∧
    (s.queues[q].settings.enabled = true → s.queues[q].settings.age = 0 →
      s.queues[q].records.length + 1 ≤ s.queues[q].settings.depth →
      s.pool.queue[q] + r.frame.cells ≤ s.queues[q].settings.cells →
      (s.arrive q r).queues = s.queues.set q { s.queues[q] with
        records := s.queues[q].records ++ [r]
        counters := { s.queues[q].counters with accepted := bump s.queues[q].counters.accepted } } ∧
      (s.arrive q r).pool = s.pool.move .classify (.queue q) r.frame.cells) ∧
    (∀ (head : Record) (rest : List Record), s.queues[q].records = head :: rest →
      s.queues[q].settings.enabled = true → s.queues[q].settings.age = 0 →
      s.queues[q].settings.policy = .dropOldest → r.frame.cells ≤ s.queues[q].settings.cells →
      (s.queues[q].settings.depth < rest.length + 2 ∨
        s.queues[q].settings.cells < s.pool.queue[q] + r.frame.cells) →
      rest.length + 1 ≤ s.queues[q].settings.depth →
      (s.pool.release (.queue q) head.frame.cells).queue[q] + r.frame.cells ≤
        s.queues[q].settings.cells →
      (s.arrive q r).queues = s.queues.set q { s.queues[q] with
        records := rest ++ [r]
        counters := { s.queues[q].counters with
          overflowOld := bump s.queues[q].counters.overflowOld
          accepted := bump s.queues[q].counters.accepted } } ∧
      (s.arrive q r).pool =
        (s.pool.release (.queue q) head.frame.cells).move .classify (.queue q) r.frame.cells) ∧
    (∀ (old rest : List Record) (u v : State), s.queues[q].records = old ++ rest →
      s.queues[q].settings.enabled = true →
      s.queues[q].settings.age = 0 ∨
        (s.line.timebase - r.stamp).toNat / 1000 ≤ s.queues[q].settings.age →
      old = [] ∨ s.queues[q].settings.policy = .dropOldest ∧
        r.frame.cells ≤ s.queues[q].settings.cells →
      rest.length + 1 ≤ s.queues[q].settings.depth →
      (s.pool.release (.queue q) (cellsOf old)).queue[q] + r.frame.cells ≤ s.queues[q].settings.cells →
      (∀ a b, old = a ++ b → b ≠ [] → s.queues[q].settings.depth < (b ++ rest).length + 1 ∨
        s.queues[q].settings.cells <
          (s.pool.release (.queue q) (cellsOf a)).queue[q] + r.frame.cells) →
      u = { s with
        queues := s.queues.set q { s.queues[q] with
          records := rest ++ [r]
          counters := { s.queues[q].counters with
            overflowOld := bumpBy s.queues[q].counters.overflowOld old.length
            accepted := bump s.queues[q].counters.accepted } }
        pool := (s.pool.release (.queue q) (cellsOf old)).move .classify (.queue q) r.frame.cells } →
      v = (if s.queues[q].records = [] then
          u.post (.queueReady q (rest.length + 1) u.pool.queue[q]) else u) →
      (s.queues[q].settings.fill = 0 ∨ s.queues[q].settings.fill ≤ s.queues[q].records.length ∨
          rest.length + 1 < s.queues[q].settings.fill →
        s.arrive q r = v) ∧
      (s.queues[q].settings.fill ≠ 0 → s.queues[q].records.length < s.queues[q].settings.fill →
        s.queues[q].settings.fill ≤ rest.length + 1 →
        s.arrive q r =
          (if s.queues[q].settings.wakeOnFill then
            (v.post (.queueFill q (rest.length + 1) u.pool.queue[q])).give (.fill q)
          else v.post (.queueFill q (rest.length + 1) u.pool.queue[q]))))

/-! ### The capture slots and the templates -/

/-- SLOT_READ reports a slot and clears its unread flag; SLOT_WRITE writes it LOCAL with the timebase, its
update count one higher and its unread flag set; SLOT_CLEAR makes one slot or all EMPTY with the update counts
and the settings kept; SLOT_SETUP replaces the three settings, and the new limit acts at once on a HELD slot.
SLOT_WRITE judges its ranges, BAD_FIELD, before its length, BAD_LENGTH, and SLOT_SETUP refuses another code
BAD_FIELD. -/
def Obligations.SlotRequestsReply : Prop :=
  ∀ (s : State) (tag : Byte) (n : Fin 16),
    (Accepted s .slotRead tag [byteOf n.val] →
      exec .slotRead s = .next (State.drivePins (s.answered .slotRead tag
        ([byteOf n.val, s.slots[n].state.code, yesNo s.slots[n].unread] ++ be16 s.slots[n].updates ++
          [yesNo s.slots[n].watch, yesNo s.slots[n].wakeOnUpdate] ++
          be16 (BitVec.ofNat 16 s.slots[n].limit) ++
          (match s.slots[n].state with
            | .empty => []
            | .held c | .stale c => [byteOf c.data.length] ++
              (match c.origin with
                | .loc => [0x00, 0xFF, 0x00, 0x00]
                | .line entry src => [0x01, byteOf entry.val] ++ be16 src) ++
              be32 c.stamp ++ be32 (BitVec.ofNat 32 ((s.line.timebase - c.stamp).toNat / 1000)) ++ c.data))
        (fun t => { t with slots := t.slots.set n { t.slots[n] with unread := false } })))) ∧
    (∀ data : List Byte, 1 ≤ data.length → data.length ≤ 16 →
      Accepted s .slotWrite tag ([byteOf n.val, byteOf data.length] ++ data) →
      exec .slotWrite s = .next (State.drivePins (State.withReply
        { s with slots := s.slots.set n { s.slots[n] with
            state := .held ⟨data, .loc, s.line.timebase⟩
            updates := s.slots[n].updates + 1
            unread := true } }
        .slotWrite tag ([0x00, byteOf n.val] ++ be16 (s.slots[n].updates + 1)) []))) ∧
    (Accepted s .slotClear tag [byteOf n.val] →
      exec .slotClear s = .next (State.drivePins (State.withReply
        { s with slots := s.slots.set n { s.slots[n] with state := .empty, unread := false } }
        .slotClear tag [0x00] []))) ∧
    (Accepted s .slotClear tag [0xFF] →
      exec .slotClear s = .next (State.drivePins (State.withReply
        { s with slots := s.slots.map (fun v => { v with state := .empty, unread := false }) }
        .slotClear tag [0x00] []))) ∧
    (∀ (watch wake : Bool) (limit : Half),
      Accepted s .slotSetup tag ([byteOf n.val, yesNo watch, yesNo wake] ++ be16 limit) →
      ((∀ c, s.slots[n].state = .held c → limit = 0 ∨
          (s.line.timebase - c.stamp).toNat / 1000 ≤ limit.toNat) →
        exec .slotSetup s = .next (State.drivePins (State.withReply
          { s with slots := s.slots.set n { s.slots[n] with
              watch := watch, wakeOnUpdate := wake, limit := limit.toNat } }
          .slotSetup tag [0x00] []))) ∧
      (∀ c, s.slots[n].state = .held c → limit ≠ 0 →
          limit.toNat < (s.line.timebase - c.stamp).toNat / 1000 →
        exec .slotSetup s = .next (State.drivePins (State.withReply
          { s with slots := s.slots.set n { s.slots[n] with
              state := .stale c, watch := watch, wakeOnUpdate := wake, limit := limit.toNat } }
          .slotSetup tag [0x00] [])))) ∧
    (∀ (m len : Byte) (data : List Byte), Accepted s .slotWrite tag (m :: len :: data) →
      (15 < m.toNat ∨ len = 0 ∨ 16 < len.toNat →
        exec .slotWrite s = .next (State.drivePins (s.withReply .slotWrite tag [0x03] []))) ∧
      (m.toNat ≤ 15 → len ≠ 0 → len.toNat ≤ 16 → data.length ≠ len.toNat →
        exec .slotWrite s = .next (State.drivePins (s.withReply .slotWrite tag [0x02] [])))) ∧
    (∀ (m watch wake : Byte) (limit : Half), 1 < watch.toNat ∨ 1 < wake.toNat →
      Accepted s .slotSetup tag ([m, watch, wake] ++ be16 limit) →
      exec .slotSetup s = .next (State.drivePins (s.withReply .slotSetup tag [0x03] [])))

/-- TEMPLATE_PUT stores every template in range, as the bytes carry it, DEFINED, with the use count 0 and the
reply flag of its KIND set, whatever the request carried there; the address of a TO_SENDER rule is not judged.
It is refused BAD_LENGTH when no items of the kinds' lengths, as many as the count says, fill the bytes behind
the body, and BAD_FIELD when they do and the bytes carry no template in range. TEMPLATE_GET reports one;
TEMPLATE_CLEAR makes one UNDEFINED, and is refused IN_USE while an IN_USE entry of ACTIVE names it and BAD_FIELD
for a number above 15; RESPONDER_STATUS reports, and option 1 clears the eight counters. -/
def Obligations.TemplateRequestsReply : Prop :=
  ∀ (s : State) (tag : Byte) (n : Fin 16),
    (∀ t : Template, t.kind.msb = true → t.body.length ≤ 248 → t.items.length ≤ 6 →
      t.dest ≠ .fixed 0 → (∀ i ∈ t.items, i.InRange t.body.length) →
      Accepted s .templatePut tag (byteOf n.val :: t.bytes) →
      exec .templatePut s = .next (State.drivePins (State.withReply
        { s with responder := { s.responder with
            templates := s.responder.templates.set n { t with defined := true, uses := 0 } } }
        .templatePut tag [0x00] []))) ∧
    (Accepted s .templateGet tag [byteOf n.val] →
      exec .templateGet s = .next (State.drivePins (s.answered .templateGet tag
        ([byteOf n.val, yesNo s.responder.templates[n].defined] ++
          be16 s.responder.templates[n].uses ++
          (if s.responder.templates[n].defined then s.responder.templates[n].bytes else [])) id))) ∧
    (Accepted s .templateClear tag [byteOf n.val] →
      ((∃ i : Fin 32, s.sieve.active.entries[i].inUse = true ∧
          s.sieve.active.entries[i].answer = some n) →
        exec .templateClear s = .next (State.drivePins (s.withReply .templateClear tag [0x0A] []))) ∧
      ((∀ i : Fin 32, s.sieve.active.entries[i].inUse = true →
          s.sieve.active.entries[i].answer ≠ some n) →
        exec .templateClear s = .next (State.drivePins (State.withReply
          { s with responder := { s.responder with
              templates := s.responder.templates.set n Template.empty } }
          .templateClear tag [0x00] [])))) ∧
    (∀ o : Bool, Accepted s .responderStatus tag [yesNo o] →
      exec .responderStatus s = .next (State.drivePins (s.answered .responderStatus tag
        ([byteOf s.responder.queue.length] ++
          s.responder.queue.flatMap (fun e => [byteOf e.template.val, if e.window.isSome then 0 else 1,
            e.state.code, byteOf e.attempts, byteOf e.frame.length]) ++
          [byteOf s.pool.responder, s.responder.seqCounter] ++
          [s.responder.counters.sent, s.responder.counters.lateSent, s.responder.counters.lateDropped,
            s.responder.counters.replyFailed, s.responder.counters.stopDiscarded,
            s.responder.counters.answerOverflow, s.responder.counters.copyShort,
            s.responder.counters.slotSuppressed].flatMap be32)
        (fun t => if o then
          { t with responder := { t.responder with counters := ⟨0, 0, 0, 0, 0, 0, 0, 0⟩ } } else t)))) ∧
    (∀ m : Byte, 15 < m.toNat → Accepted s .templateClear tag [m] →
      exec .templateClear s = .next (State.drivePins (s.withReply .templateClear tag [0x03] []))) ∧
    (∀ i : Item, i.bytes = (match i with
      | .copy target source length => [0x00, byteOf target, byteOf source, byteOf length]
      | .slot target m => [0x01, byteOf target, byteOf m.val]
      | .stamp target => [0x02, byteOf target]
      | .uses target => [0x03, byteOf target])) ∧
    (∀ (carried : Fin 16 → Byte → Half → Byte → Template → List Byte) (fits : Byte → Half → Byte → Template → Prop),
      (∀ m rule addr kind t, carried m rule addr kind t = byteOf m.val :: rule :: (be16 addr ++
        [kind, t.seqRule.code, t.late.code, t.stale.code, byteOf t.body.length, byteOf t.items.length] ++
        t.body ++ t.items.flatMap Item.bytes)) →
      (∀ rule addr kind t, fits rule addr kind t ↔ t.kind = kind ||| 0x80 ∧
        (rule = 0 ∧ t.dest = .toSender ∨ rule = 1 ∧ addr ≠ 0 ∧ t.dest = .fixed addr) ∧
        t.body.length ≤ 248 ∧ t.items.length ≤ 6 ∧ (∀ i ∈ t.items, i.InRange t.body.length)) →
      (∀ rule addr kind t, fits rule addr kind t →
        Accepted s .templatePut tag (carried n rule addr kind t) →
        exec .templatePut s = .next (State.drivePins (State.withReply
          { s with responder := { s.responder with
              templates := s.responder.templates.set n { t with defined := true, uses := 0 } } }
          .templatePut tag [0x00] []))) ∧
      (∀ (body : List Byte) (cut : List (List Byte) → Prop), Accepted s .templatePut tag body →
        (∀ items, cut items ↔ 10 + natAt body 8 ≤ body.length ∧ items.length = natAt body 9 ∧
          body.drop (10 + natAt body 8) = items.flatten ∧
          (∀ i ∈ items, i.length = (if natAt i 0 = 0 then 4 else if natAt i 0 = 1 then 3 else 2))) →
        ((∀ items, ¬ cut items) →
          exec .templatePut s = .next (State.drivePins (s.withReply .templatePut tag [0x02] []))) ∧
        ((∃ items, cut items) →
          (∀ m rule addr kind t, fits rule addr kind t → body ≠ carried m rule addr kind t) →
          exec .templatePut s = .next (State.drivePins (s.withReply .templatePut tag [0x03] [])))))

/-! ### The send requests -/

/-- FRAME_SEND is judged in order: the length, the ranges, the line mode, the destination and the own address,
and the cells and the quota.  A frame that passes joins the tail of the send queue QUEUED with its cells claimed
and its table entry kept, and the arbiter acts. -/
def Obligations.FrameSendIsJudgedInOrder : Prop :=
  ∀ (s : State) (tag : Byte) (body : List Byte), Accepted s .frameSend tag body →
    (body.length ≠ 6 + natAt body 5 →
      exec .frameSend s = .next (State.drivePins (s.withReply .frameSend tag [0x02] []))) ∧
    (body.length = 6 + natAt body 5 → (248 < natAt body 5 ∨ 3 < natAt body 0) →
      exec .frameSend s = .next (State.drivePins (s.withReply .frameSend tag [0x03] []))) ∧
    (body.length = 6 + natAt body 5 → natAt body 5 ≤ 248 → natAt body 0 ≤ 3 →
      (s.line.mode = .stopped ∨ s.line.mode = .listening ∨ s.line.stoppingOrReset = true →
        exec .frameSend s = .next (State.drivePins (s.withReply .frameSend tag [0x0C] []))) ∧
      (s.line.mode = .active ∨ s.line.mode = .faulted → s.line.stoppingOrReset = false →
        (halfAt body 1 = 0 ∨ s.line.own.length ≤ natAt body 0 →
          exec .frameSend s = .next (State.drivePins (s.withReply .frameSend tag [0x0B] []))) ∧
        (∀ src, halfAt body 1 ≠ 0 → s.line.own[natAt body 0]? = some src →
          (s.pool.ordinaryOk ((7 + natAt body 5 + 63) / 64) = false ∨
              s.pool.quota < s.pool.send + (7 + natAt body 5 + 63) / 64 →
            exec .frameSend s = .next (State.drivePins (s.withReply .frameSend tag [0x08] []))) ∧
          (s.pool.ordinaryOk ((7 + natAt body 5 + 63) / 64) = true →
              s.pool.send + (7 + natAt body 5 + 63) / 64 ≤ s.pool.quota →
            exec .frameSend s = .next (State.drivePins (State.arbitrate { s with
              link := { s.link with buffer := .empty, table := s.link.table ++ [⟨tag, .frameSend⟩] }
              pool := s.pool.claim .send ((7 + natAt body 5 + 63) / 64)
              sender := { s.sender with queue := s.sender.queue ++
                [⟨tag, ⟨halfAt body 1, src, byteAt body 3, byteAt body 4, body.drop 6⟩, 0, .waiting⟩]
                } }))))))

/-- SEND_CANCEL of a QUEUED or BACKOFF entry removes it and releases its cells, and its FRAME_SEND completes
CANCELLED with the attempts made, ahead of the DONE reply; an ON_LINE entry gives TOO_LATE, and a tag with no
entry NOT_FOUND. SEND_STATUS reports and changes nothing. That the back-off still to run which it reports counts
a bit time that has begun as whole is the model's choice (log 31). -/
def Obligations.SendCancelAndStatusReply : Prop :=
  ∀ (s : State) (tag : Byte),
    (∀ other : Byte, Accepted s .sendCancel tag [other] →
      ((∀ e ∈ s.sender.queue, e.tag ≠ other) →
        exec .sendCancel s = .next (State.drivePins (s.withReply .sendCancel tag [0x11] []))) ∧
      (∀ (old rest : List SendEntry) (e : SendEntry), s.sender.queue = old ++ e :: rest →
        (∀ x ∈ old, x.tag ≠ other) → e.tag = other →
        (e.state = .onLine →
          exec .sendCancel s = .next (State.drivePins (s.withReply .sendCancel tag [0x10] []))) ∧
        (e.state ≠ .onLine → s.link.holdsTag other = true →
          ∃ t, exec .sendCancel s = .next t ∧ t.sender.queue = old ++ rest ∧
            t.sender.pass = (if old ++ rest = [] then 0 else s.sender.pass) ∧
            t.pool = s.pool.release .send e.frame.cells ∧
            t.link.outbox = s.link.outbox ++
              [⟨s.link.nextSeq, false, .reply 0xE0 other [0x0D, byteOf e.attempts] []⟩,
               ⟨s.link.nextSeq + 1, false, .reply 0xE1 tag [0x00] []⟩] ∧
            t.link.table = s.link.table.eraseP (fun x => x.tag == other) ∧
            t.line = s.line ∧ t.responder = s.responder ∧ t.queues = s.queues ∧ t.slots = s.slots ∧
            t.classifier = s.classifier ∧ t.sieve = s.sieve))) ∧
    (Accepted s .sendStatus tag [] →
      exec .sendStatus s = .next (State.drivePins (s.answered .sendStatus tag
        ([byteOf s.sender.queue.length] ++
          s.sender.queue.flatMap (fun e =>
            [e.tag, e.state.code, byteOf e.attempts] ++ be16 e.frame.dst ++ [byteOf e.frame.length] ++
            be16 (BitVec.ofNat 16 (e.state.remaining s.line.point))) ++
          [byteOf s.pool.send, byteOf s.sender.pass, s.line.transmitter.code] ++
          s.line.transmitter.carriedBytes) id)))

/-! ### Presence -/

/-- SLEEP replies DONE with the wake cause set as it stands, and presence enters DOZE_REQUESTED with the
sequence number of that reply as the doze reply. PRESENCE_SETUP with values in range replaces the mask and the
high mark, reports the set as it stood, and empties it with option 1; a value out of range is refused BAD_FIELD.
That the append of the SLEEP reply is judged in AWAKE, and that of the PRESENCE_SETUP reply against the new high
mark, is the model's reading (log 14). -/
def Obligations.SleepAndPresenceSetupReply : Prop :=
  ∀ (s : State) (tag : Byte),
    (Accepted s .sleep tag [] → s.presence.state = .awake →
      exec .sleep s = .next (State.drivePins (State.mk s.line s.pool s.sieve s.classifier s.queues s.slots
        s.responder s.sender
        { s.link with
          buffer := .empty
          outbox := s.link.outbox ++
            [⟨s.link.nextSeq, false, .reply 0xF0 tag (0x00 :: be24 s.presence.causes) []⟩]
          nextSeq := s.link.nextSeq + 1 }
        { s.presence with state := .dozeRequested, dozeReply := some s.link.nextSeq }
        s.pins s.pending))) ∧
    (∀ (m : WakeMask) (high : Nat) (clear : Bool), 8 ≤ high → high ≤ 31 →
      Accepted s .presenceSetup tag [yesNo m.fill, yesNo m.slot, yesNo m.lineFault, yesNo m.outboxHigh,
        byteOf high, yesNo clear] →
      exec .presenceSetup s = .next (State.drivePins (State.withReply
        { s with presence := { s.presence with
            mask := m, highMark := high, causes := if clear then 0 else s.presence.causes } }
        .presenceSetup tag
        ([0x00, s.presence.state.code, yesNo m.fill, yesNo m.slot, yesNo m.lineFault, yesNo m.outboxHigh,
          byteOf high, byteOf s.link.outbox.length] ++ be24 s.presence.causes) []))) ∧
    (∀ a b c d high o : Byte, 1 < a.toNat ∨ 1 < b.toNat ∨ 1 < c.toNat ∨ 1 < d.toNat ∨ high.toNat < 8 ∨
        31 < high.toNat ∨ 1 < o.toNat →
      Accepted s .presenceSetup tag [a, b, c, d, high, o] →
      exec .presenceSetup s = .next (State.drivePins (s.withReply .presenceSetup tag [0x03] [])))

/-- A given wake cause is discarded in AWAKE and where its class is not enabled; it joins the set in
DOZE_REQUESTED and WAKING, and in DOZING it joins the set and presence enters WAKING.  VERDICT and HOST need no
enable.  The ACK that removes the doze reply leads from DOZE_REQUESTED to DOZING, or to WAKING with WAKE
asserted when the set holds any cause, and ATTN is deasserted. -/
def Obligations.PresenceSettlesAndWakes : Prop :=
  (∀ (p : Presence) (c : Cause),
    (p.mask.admits .verdict = true ∧ p.mask.admits .host = true ∧
      (∀ q, p.mask.admits (.fill q) = p.mask.fill) ∧ (∀ n, p.mask.admits (.slot n) = p.mask.slot) ∧
      p.mask.admits .lineFault = p.mask.lineFault ∧ p.mask.admits .outboxHigh = p.mask.outboxHigh) ∧
    (p.mask.admits c = false ∨ p.state = .awake → p.give c = p) ∧
    (p.mask.admits c = true → p.state = .dozeRequested ∨ p.state = .waking →
      p.give c = { p with causes := p.causes ||| BitVec.ofNat 24 (2 ^ c.bit) }) ∧
    (p.mask.admits c = true → p.state = .dozing →
      p.give c = { p with causes := p.causes ||| BitVec.ofNat 24 (2 ^ c.bit), state := .waking })) ∧
  (∀ (s : State) (ack : Byte) (rest : List OutEntry) (e : OutEntry), s.link.exchange = .getAck →
    s.link.outbox = e :: rest → e.sent = true → e.seq = ack → s.link.notices = [] →
    s.presence.state = .dozeRequested → s.presence.dozeReply = some ack →
    ∃ t, exec (.getAck ack) s = .next t ∧ t.presence.dozeReply = none ∧ t.pins.attn = false ∧
      t.link.outbox = rest ∧ t.link.lastRemoved = ack ∧ t.presence.causes = s.presence.causes ∧
      (s.presence.causes = 0 → t.presence.state = .dozing ∧ t.pins.wake = false) ∧
      (s.presence.causes ≠ 0 → t.presence.state = .waking ∧ t.pins.wake = true))

/-! ### Reception -/

/-- A start delimiter in IDLE begins a frame: the receiver follows the part's own frame while it is SENDING, and
otherwise enters IN_FRAME with no byte placed, as activity that closes an open reply slot. Stored-frame bytes
are placed one after another; a byte that has no room claims a cell, and a refused claim drops the frame
NO_CELL; a bad SRC at the fourth byte or a LEN above 248 at the seventh drops it MALFORMED. That the bytes of
one RECEIVE_CLAIM or MALFORMED are judged one by one, and by both commands alike, is the model's choice (log
22). -/
def Obligations.ReceptionPlacesBytes : Prop :=
  ∀ (dt : Nat) (s : State),
    ((s.elapse dt).line.hears = true → s.line.receiver = .idle →
      (∀ g start bytes, s.line.transmitter = .sending g start bytes →
        exec (.frameStart dt) s = .next (State.drivePins { s.elapse dt with
          line := { (s.elapse dt).line with receiver := .following } })) ∧
      ((∀ g start bytes, s.line.transmitter ≠ .sending g start bytes) →
        exec (.frameStart dt) s = .next (State.drivePins (State.arbitrate (State.closeSlot
          { s.elapse dt with line := { (s.elapse dt).line with
              receiver := .receiving [], lastActivity := (s.elapse dt).line.point, gap := .long } }))))) ∧
    (∀ (b : Byte) (bs : List Byte), s.line.receiver = .receiving bs →
      (bs.length < 7 ∨ bs.length < 7 + natAt bs 6) →
      (bs.length % 64 = 0 → s.pool.ordinaryOk 1 = false →
        exec (.receiveClaim dt [b]) s = .next (State.drivePins { s.elapse dt with
          line := { (s.elapse dt).line with
            receiver := .discarding, lastActivity := (s.elapse dt).line.point, gap := .long
            counters := { s.line.counters with noCell := bump s.line.counters.noCell } }
          pool := s.pool.release .receive s.pool.receive })) ∧
      ((bs.length = 3 → isStation (halfAt (bs ++ [b]) 2) = true) → (bs.length = 6 → b.toNat ≤ 248) →
        (bs.length % 64 = 0 → s.pool.ordinaryOk 1 = true) →
        exec (.receiveClaim dt [b]) s = .next (State.drivePins { s.elapse dt with
          line := { (s.elapse dt).line with
            receiver := .receiving (bs ++ [b]), lastActivity := (s.elapse dt).line.point, gap := .long }
          pool := if bs.length % 64 = 0 then s.pool.claim .receive 1 else s.pool })) ∧
      ((bs.length = 3 ∧ isStation (halfAt (bs ++ [b]) 2) = false) ∨ (bs.length = 6 ∧ 248 < b.toNat) →
        exec (.malformed dt [b]) s = .next (State.drivePins { s.elapse dt with
          line := { (s.elapse dt).line with
            receiver := .discarding, lastActivity := (s.elapse dt).line.point, gap := .long
            counters := { s.line.counters with malformed := bump s.line.counters.malformed } }
          pool := s.pool.release .receive s.pool.receive }))) ∧
    (∀ (b : Byte) (rest : List Byte), ∃ t, exec (.receiveClaim dt [b]) s = .next t ∧
      exec (.receiveClaim dt (b :: rest)) s = exec (.receiveClaim 0 rest) t ∧
      exec (.malformed dt (b :: rest)) s = exec (.malformed 0 rest) t)

/-- A FRAGMENT is counted: a bad first byte puts the receiver in DISCARDING and closes an open reply slot, a
framing fault drops the frame and puts it in DISCARDING, and a premature idle drops the frame and puts it in
IDLE.  An end of activity takes it from DISCARDING to IDLE with the stuck-line count 0.  The point of last
activity of the last two, 4 bit times before the present point, is the model's reading (log 20). -/
def Obligations.FragmentsAndEndsOfActivity : Prop :=
  ∀ (dt : Nat) (s : State),
    (s.line.receiver = .idle → (s.elapse dt).line.hears = true →
      exec (.fragment dt .firstByte) s = .next (State.drivePins (State.arbitrate (State.closeSlot
        { s.elapse dt with line := { (s.elapse dt).line with
            receiver := .discarding, lastActivity := (s.elapse dt).line.point, gap := .long
            counters := { s.line.counters with fragment := bump s.line.counters.fragment } } })))) ∧
    (∀ bs, s.line.receiver = .receiving bs →
      exec (.fragment dt .framingFault) s = .next (State.drivePins { s.elapse dt with
        line := { (s.elapse dt).line with
          receiver := .discarding, lastActivity := (s.elapse dt).line.point, gap := .long
          counters := { s.line.counters with fragment := bump s.line.counters.fragment } }
        pool := s.pool.release .receive s.pool.receive }) ∧
      exec (.fragment dt .prematureIdle) s = .next (State.drivePins { s.elapse dt with
        line := { (s.elapse dt).line with
          receiver := .idle, gap := .long
          lastActivity := max s.line.lastActivity ((s.elapse dt).line.point - bits 4)
          counters := { s.line.counters with fragment := bump s.line.counters.fragment } }
        pool := s.pool.release .receive s.pool.receive })) ∧
    (s.line.receiver = .discarding →
      exec (.activityEnd dt) s = .next (State.drivePins { s.elapse dt with
        line := { (s.elapse dt).line with
          receiver := .idle, gap := .long, stuckCount := 0
          lastActivity := max s.line.lastActivity ((s.elapse dt).line.point - bits 4) } }))

/-- The end of a frame whose stored bytes are placed: with another FCS it counts FCS_ERROR, its cells return to
FREE and the gap is LONG; with an equal FCS it counts GOOD, the gap and the reply slot follow its kind and
destination, and it joins the classification queue, begins its evaluation at once where the classifier is IDLE
and the queue empty, or is refused and counted in OVERRUN where the queue holds four. That a frame that joins an
empty queue begins its evaluation in the same operation is the model's reading (log 9), and that FRAME_END with
bytes acts as RECEIVE_CLAIM of them and then as FRAME_END is its choice (log 22). -/
def Obligations.FrameEndJudgesTheFcs : Prop :=
  ∀ (dt : Nat) (s : State) (f : Frame), f.payload.length ≤ 248 → s.line.receiver = .receiving f.bytes →
    (∀ fcs, fcs ≠ crc f.bytes →
      exec (.frameEnd dt [] fcs) s = .next (State.drivePins { s.elapse dt with
        line := { (s.elapse dt).line with
          receiver := .idle, lastActivity := (s.elapse dt).line.point, gap := .long
          counters := { s.line.counters with fcsError := bump s.line.counters.fcsError } }
        pool := s.pool.release .receive s.pool.receive })) ∧
    (∀ l : Line, l = { (s.elapse dt).line with
          receiver := .idle
          lastActivity := (s.elapse dt).line.point
          gap := if isStation f.dst && !f.kind.msb then .long else .short
          slot := if isStation f.dst && !f.kind.msb then
              (if s.line.own.contains f.dst then .own (s.elapse dt).line.point
               else .other (s.elapse dt).line.point)
            else s.line.slot
          counters := { s.line.counters with good := bump s.line.counters.good } } →
      (s.classifier.eval.isSome = true → s.classifier.queue.length < 4 →
        exec (.frameEnd dt [] (crc f.bytes)) s = .next (State.drivePins { s with
          line := l
          classifier := { s.classifier with
            queue := s.classifier.queue ++ [⟨f, s.nextFrameId, l.timebase, l.point⟩]
            frameId := s.nextFrameId }
          pool := s.pool.move .receive .classify f.cells })) ∧
      (s.classifier.eval = none → s.classifier.queue = [] → s.line.lineSide = none →
        s.sieve.commit = none →
        exec (.frameEnd dt [] (crc f.bytes)) s = .next (State.drivePins { s with
          line := l
          classifier := { s.classifier with
            queue := []
            frameId := s.nextFrameId
            eval := some ⟨⟨f, s.nextFrameId, l.timebase, l.point⟩, s.sieve.generation, s.line.own,
              s.line.group⟩ }
          pool := s.pool.move .receive .classify f.cells })) ∧
      (s.classifier.queue.length = 4 →
        exec (.frameEnd dt [] (crc f.bytes)) s = .next (State.drivePins { s with
          line := l
          classifier := { s.classifier with counters := { s.classifier.counters with
            overrun := bump s.classifier.counters.overrun } }
          pool := s.pool.release .receive f.cells }))) ∧
    (∀ bytes fcs, ∃ t, exec (.receiveClaim dt bytes) s = .next t ∧
      exec (.frameEnd dt bytes fcs) s = exec (.frameEnd 0 [] fcs) t)

/-! ### The reply slot, the transmitter and the arbiter -/

/-- The close of an open reply slot: it becomes NONE; where it was OWN_SLOT, the reply that answers that frame
and has not begun its attempt is late, and is dropped and counted, or counted and made CONTEND, by its late
policy, its grant in GAP_WAIT handed back.  Foreign activity closes a slot and moves the point of last activity
with the class LONG, outside STOPPED; the window closes at frame end + 48 and no earlier.  That an event before
its time passes only its time is the model's choice (log 8). -/
def Obligations.ReplySlotCloses : Prop :=
  ∀ s : State,
    (s.line.slot = .none → s.closeSlot = s) ∧
    (∀ fe, s.line.slot = .other fe → s.closeSlot = { s with line := { s.line with slot := .none } }) ∧
    (∀ fe, s.line.slot = .own fe → (∀ e ∈ s.responder.queue, e.window ≠ some fe) →
      s.closeSlot = { s with line := { s.line with slot := .none } }) ∧
    (∀ (fe : Nat) (old rest : List ReplyEntry) (e : ReplyEntry), s.line.slot = .own fe →
      s.responder.queue = old ++ e :: rest → (∀ x ∈ old, x.window ≠ some fe) → e.window = some fe →
      (e.state = .waiting →
        (e.late = .drop → s.closeSlot = { s with
          line := { s.line with slot := .none }
          responder := { s.responder with
            queue := old ++ rest
            counters := { s.responder.counters with
              lateDropped := bump s.responder.counters.lateDropped } }
          pool := s.pool.release .responder e.frame.cells }) ∧
        (e.late = .send → s.closeSlot = { s with
          line := { s.line with slot := .none }
          responder := { s.responder with
            queue := old ++ { e with window := none } :: rest
            counters := { s.responder.counters with
              lateSent := bump s.responder.counters.lateSent } } })) ∧
      (∀ (n : Nat) (end_ : Option Nat), e.state = .onLine →
        s.line.transmitter = .gapWait ⟨.reply, n, end_⟩ → (∀ x ∈ old ++ rest, x.state ≠ .onLine) →
        (e.late = .drop → s.closeSlot = { s with
          line := { s.line with slot := .none, transmitter := .idle }
          responder := { s.responder with
            queue := old ++ rest
            counters := { s.responder.counters with
              lateDropped := bump s.responder.counters.lateDropped } }
          pool := s.pool.release .responder e.frame.cells }) ∧
        (e.late = .send → s.closeSlot = { s with
          line := { s.line with slot := .none, transmitter := .idle }
          responder := { s.responder with
            queue := old ++ { e with window := none, state := .waiting } :: rest
            counters := { s.responder.counters with
              lateSent := bump s.responder.counters.lateSent } } }))) ∧
    (∀ dt,
      (s.line.mode = .stopped → exec (.foreignActivity dt) s = .next (s.elapse dt).drivePins) ∧
      (s.line.mode ≠ .stopped →
        exec (.foreignActivity dt) s = .next (State.drivePins (State.arbitrate (State.closeSlot
          { s.elapse dt with line := { (s.elapse dt).line with
              lastActivity := (s.elapse dt).line.point, gap := .long } })))) ∧
      (∀ fe, s.line.slot = .own fe ∨ s.line.slot = .other fe →
        (fe + bits 48 ≤ (s.elapse dt).line.point →
          exec (.windowClose dt) s =
            .next (State.drivePins (State.arbitrate (State.closeSlot (s.elapse dt))))) ∧
        ((s.elapse dt).line.point < fe + bits 48 →
          exec (.windowClose dt) s = .next (s.elapse dt).drivePins)))

/-- A frame in GAP_WAIT begins its attempt: a CONTEND frame when 24 or 64 bit times have passed since the point
of last activity, by the gap class, with no reception under way; a SLOT frame from frame end + 12 to frame end +
48 of its OWN_SLOT, which it consumes.  The transmitter then drives 0x7E, the stored frame and its FCS from the
present point.  Before its time nothing begins.  That an event before its time passes only its time is the
model's choice (log 8). -/
def Obligations.AttemptsBeginOnTime : Prop :=
  ∀ (dt : Nat) (s : State) (g : Grant), s.line.transmitter = .gapWait g →
    (g.slotEnd = none →
      (∀ f, s.grantedFrame g = some f → s.line.mode = .active →
        s.line.receiver = .idle ∨ s.line.receiver = .following →
        s.line.lastActivity + bits (if s.line.gap = .short then 24 else 64) ≤ (s.elapse dt).line.point →
        (∀ fe, s.line.slot = .own fe → ∀ e ∈ s.responder.queue, e.window ≠ some fe) →
        exec (.gapPassed dt) s = .next (State.drivePins { s.elapse dt with
          line := { (s.elapse dt).line with
            slot := .none, lastActivity := (s.elapse dt).line.point
            transmitter := .sending g (s.elapse dt).line.point
              (0x7E :: (f.bytes ++ be16 (crc f.bytes))) } })) ∧
      ((s.elapse dt).line.point < s.line.lastActivity + bits (if s.line.gap = .short then 24 else 64) ∨
          s.line.receiver = .discarding ∨ (∃ bs, s.line.receiver = .receiving bs) →
        exec (.gapPassed dt) s = .next (s.elapse dt).drivePins)) ∧
    (∀ fe, g.slotEnd = some fe →
      (∀ f, s.grantedFrame g = some f → s.line.mode = .active → s.line.slot = .own fe →
        fe + bits 12 ≤ (s.elapse dt).line.point → (s.elapse dt).line.point ≤ fe + bits 48 →
        exec (.turnaround dt) s = .next (State.drivePins { s.elapse dt with
          line := { (s.elapse dt).line with
            slot := .none, lastActivity := (s.elapse dt).line.point
            transmitter := .sending g (s.elapse dt).line.point
              (0x7E :: (f.bytes ++ be16 (crc f.bytes))) } })) ∧
      ((s.elapse dt).line.point < fe + bits 12 ∨ fe + bits 48 < (s.elapse dt).line.point ∨ s.line.slot ≠ .own fe →
        exec (.turnaround dt) s = .next (s.elapse dt).drivePins))

/-- The stop bit of the second FCS byte ends an attempt, 10 bit times a byte after its start and no earlier: the
transmitter is IDLE, the gap and the reply slot follow the frame sent, and the entry leaves its queue, a reply
counted SENT, a send completing its FRAME_SEND DONE with the attempts made and the timebase.  A bit read back at
the wrong level counts COLLISIONS and begins the jam.  A completion appends the reply and gives the table entry
back.  That an event before its time passes only its time is the model's choice (log 8). -/
def Obligations.AttemptsAreSentOrCollide : Prop :=
  ∀ (dt : Nat) (s : State) (g : Grant) (start : Nat) (bytes : List Byte),
    s.line.transmitter = .sending g start bytes →
    (∀ l : Frame → Line, (∀ f : Frame, l f = { (s.elapse dt).line with
          transmitter := .idle
          receiver := if s.line.receiver = .following then .idle else s.line.receiver
          lastActivity := (s.elapse dt).line.point
          gap := if isStation f.dst && !f.kind.msb then .long else .short
          slot := if isStation f.dst && !f.kind.msb then .other (s.elapse dt).line.point
            else s.line.slot }) →
      start + bits (10 * bytes.length) ≤ (s.elapse dt).line.point →
      (∀ (old rest : List ReplyEntry) (e : ReplyEntry), g.source = .reply →
        s.responder.queue = old ++ e :: rest → (∀ x ∈ old, x.state ≠ .onLine) → e.state = .onLine →
        exec (.attemptSent dt) s = .next (State.drivePins (State.arbitrate { s with
          line := l e.frame
          responder := { s.responder with
            queue := old ++ rest
            counters := { s.responder.counters with sent := bump s.responder.counters.sent } }
          pool := s.pool.release .responder e.frame.cells }))) ∧
      (∀ (old rest : List SendEntry) (e : SendEntry), g.source = .send e.tag →
        s.sender.queue = old ++ e :: rest → (∀ x ∈ old, x.tag ≠ e.tag) → e.state = .onLine →
        exec (.attemptSent dt) s = .next (State.drivePins (State.arbitrate (State.complete { s with
          line := l e.frame
          sender := { queue := old ++ rest, pass := if old ++ rest = [] then 0 else s.sender.pass }
          pool := s.pool.release .send e.frame.cells }
          .frameSend e.tag ([0x00, byteOf (e.attempts + 1)] ++ be32 (s.elapse dt).line.timebase) []))))) ∧
    ((s.elapse dt).line.point < start + bits (10 * bytes.length) →
      exec (.attemptSent dt) s = .next (s.elapse dt).drivePins) ∧
    (exec (.collision dt) s = .next (State.drivePins { s.elapse dt with
      line := { (s.elapse dt).line with
        transmitter := .jamming g (s.elapse dt).line.point
        counters := { s.line.counters with collisions := bump s.line.counters.collisions } } })) ∧
    (∀ (u : State) (k : ReqKind) (tag : Byte) (content : List Byte) (a b : List TableEntry),
      u.link.table = a ++ ⟨tag, k⟩ :: b → (∀ x ∈ a, x.tag ≠ tag) →
      u.complete k tag content [] =
        State.append { u with link := { u.link with table := a ++ b } }
          (.reply (k.code + 0x80) tag content []))

/-- The end of a jam, 8 bit times after its beginning and no earlier, is activity with the gap LONG. Collided
attempt n below 8 puts a send, or a reply that contends, in BACKOFF for 32 times k bit times, k the low bits of
the draw as many as the smaller of n and 5; a k of 0 leaves it eligible at once, before the arbiter's next
choice (log 35); an IN_WINDOW reply is dropped or made CONTEND by its late policy. The eighth ends a send FAILED
and a reply in REPLY_FAILED. An entry whose back-off has run waits again. The draw is the command's operand (log
7). That an event before its time passes only its time is the model's choice (log 8). -/
def Obligations.JamsEndInBackoff : Prop :=
  ∀ (dt : Nat) (s : State),
    (∀ (g : Grant) (start : Nat) (draw : BitVec 5) (l : Line) (k r : Nat) (after : TxState),
      s.line.transmitter = .jamming g start → s.line.stopping = false →
      k = draw.toNat % 2 ^ (if g.attempt < 5 then g.attempt else 5) →
      after = (if k = 0 then .waiting else .backoff r) →
      l = { (s.elapse dt).line with
        transmitter := .idle, lastActivity := (s.elapse dt).line.point, gap := .long } →
      r = (s.elapse dt).line.point + bits (32 * k) →
      ((s.elapse dt).line.point < start + bits 8 →
        exec (.jamEnd dt draw) s = .next (s.elapse dt).drivePins) ∧
      (start + bits 8 ≤ (s.elapse dt).line.point →
        (∀ (old rest : List SendEntry) (e : SendEntry), g.source = .send e.tag →
          s.sender.queue = old ++ e :: rest → (∀ x ∈ old, x.tag ≠ e.tag) → e.state = .onLine →
          (g.attempt < 8 →
            exec (.jamEnd dt draw) s = .next (State.drivePins (State.arbitrate { s with
              line := l
              sender := { s.sender with queue :=
                old ++ { e with attempts := e.attempts + 1, state := after } :: rest } }))) ∧
          (8 ≤ g.attempt →
            exec (.jamEnd dt draw) s = .next (State.drivePins (State.arbitrate (State.complete { s with
              line := l
              sender := { queue := old ++ rest, pass := if old ++ rest = [] then 0 else s.sender.pass }
              pool := s.pool.release .send e.frame.cells }
              .frameSend e.tag [0x0F, 0x08] []))))) ∧
        (∀ (old rest : List ReplyEntry) (e : ReplyEntry), g.source = .reply →
          s.responder.queue = old ++ e :: rest → (∀ x ∈ old, x.state ≠ .onLine) → e.state = .onLine →
          (g.attempt < 8 → e.window = none →
            exec (.jamEnd dt draw) s = .next (State.drivePins (State.arbitrate { s with
              line := l
              responder := { s.responder with queue :=
                old ++ { e with attempts := e.attempts + 1, state := after } :: rest } }))) ∧
          (g.attempt < 8 → e.window.isSome = true → e.late = .send →
            exec (.jamEnd dt draw) s = .next (State.drivePins (State.arbitrate { s with
              line := l
              responder := { s.responder with
                queue := old ++
                  { e with window := none, attempts := e.attempts + 1, state := after } :: rest
                counters := { s.responder.counters with
                  lateSent := bump s.responder.counters.lateSent } } }))) ∧
          (g.attempt < 8 → e.window.isSome = true → e.late = .drop →
            exec (.jamEnd dt draw) s = .next (State.drivePins (State.arbitrate { s with
              line := l
              responder := { s.responder with
                queue := old ++ rest
                counters := { s.responder.counters with
                  lateDropped := bump s.responder.counters.lateDropped } }
              pool := s.pool.release .responder e.frame.cells }))) ∧
          (8 ≤ g.attempt →
            exec (.jamEnd dt draw) s = .next (State.drivePins (State.arbitrate { s with
              line := l
              responder := { s.responder with
                queue := old ++ rest
                counters := { s.responder.counters with
                  replyFailed := bump s.responder.counters.replyFailed } }
              pool := s.pool.release .responder e.frame.cells })))))) ∧
    (∀ (old rest : List SendEntry) (e : SendEntry) (r : Nat), s.sender.queue = old ++ e :: rest →
      (∀ x ∈ old, x.tag ≠ e.tag) → e.state = .backoff r → r ≤ (s.elapse dt).line.point →
      exec (.backoffEnd dt (.send e.tag)) s = .next (State.drivePins (State.arbitrate { s.elapse dt with
        sender := { s.sender with queue := old ++ { e with state := .waiting } :: rest } }))) ∧
    (∀ (old rest : List ReplyEntry) (e : ReplyEntry) (r : Nat), s.responder.queue = old ++ e :: rest →
      e.state = .backoff r → r ≤ (s.elapse dt).line.point →
      exec (.backoffEnd dt (.reply old.length)) s = .next (State.drivePins (State.arbitrate { s.elapse dt with
        responder := { s.responder with queue := old ++ { e with state := .waiting } :: rest } })))

/-- A jam that ends in a stopping sequence ends the sequence: the mode is STOPPED, every send has completed
ABORTED from head to tail with the attempts made, the stopped one counted, the reply queue is empty with each
reply counted in STOP_DISCARDED, all their cells are FREE, LINE_STATE is posted, and a LINE_STOP that waited has
completed DONE behind them. A line-side reset goes on: with the classifier IDLE it ends DONE behind them all,
and with a frame under evaluation it waits for it. That the outcome and steps 2 to 6 are one operation is the
model's reading (log 36). -/
def Obligations.StoppingEndsWithTheJam : Prop :=
  ∀ (dt : Nat) (s : State) (g : Grant) (start : Nat) (draw : BitVec 5),
    s.line.transmitter = .jamming g start → s.line.stopping = true → s.line.mode = .active →
    start + bits 8 ≤ (s.elapse dt).line.point →
    (∃ t, exec (.jamEnd dt draw) s = .next t ∧ t.line.mode = .stopped ∧ t.line.transmitter = .idle ∧
      t.line.receiver = .idle ∧ t.line.slot = .none ∧ t.line.lineStop = none ∧
      t.sender.queue = [] ∧ t.responder.queue = [] ∧
      t.responder.counters.stopDiscarded =
        bumpBy s.responder.counters.stopDiscarded s.responder.queue.length ∧
      t.line.counters = s.line.counters ∧ t.line.rate = s.line.rate ∧ t.line.own = s.line.own ∧
      t.line.group = s.line.group ∧ t.slots = s.slots) ∧
    (∀ (jammed : SendEntry → Bool) (early : List Message) (l : Line), DeferredLaw s →
      s.appendsLineState 32 →
      (∀ e, jammed e = true ↔ e.state = .onLine ∧ g.source = .send e.tag) →
      early = s.abortedReplies jammed ++ [.notice (.lineState .stopped none)] ++
        (match s.line.lineStop with
          | some tag => [.reply 0x93 tag [0x00] []]
          | none => []) →
      l = { (s.elapse dt).line with
        mode := .stopped, resume := none, transmitter := .idle, receiver := .idle, slot := .none,
        lastActivity := (s.elapse dt).line.point, gap := .long, lineStop := none } →
      (s.line.lineSide = none →
        ∃ t, exec (.jamEnd dt draw) s = .next t ∧ t.line = l ∧
          t.link.outbox = s.link.outbox ++ s.numbered early ∧
          t.link.table = s.link.table.filter
            (fun e => decide (e.kind ≠ .frameSend ∧ e.kind ≠ .lineStop)) ∧
          t.pool = s.stoppedPool ∧ t.classifier = s.classifier ∧ t.queues = s.queues ∧
          t.sieve = s.sieve ∧ (s.sender.queue ≠ [] → t.sender.pass = 0)) ∧
      (∀ tag, s.line.lineSide = some ⟨tag, .stopping⟩ →
        (s.classifier.eval = none → s.sieve.commit = none →
          ∃ t, exec (.jamEnd dt draw) s = .next t ∧ t.line = { l with lineSide := none } ∧
            t.link.outbox = s.link.outbox ++ s.numbered (early ++ [.reply 0x84 tag [0x00] []]) ∧
            t.link.table = s.link.table.filter
              (fun e => decide (e.kind ≠ .frameSend ∧ e.kind ≠ .lineStop ∧ e.kind ≠ .reset)) ∧
            t.pool = s.emptiedPool ∧ t.classifier = { s.classifier with queue := [] } ∧
            (∀ q : Fin 4, t.queues[q] = { s.queues[q] with records := [] }) ∧ t.sieve = s.sieve) ∧
        (s.classifier.eval.isSome = true →
          ∃ t, exec (.jamEnd dt draw) s = .next t ∧
            t.line = { l with lineSide := some ⟨tag, .classifier⟩ } ∧
            t.link.outbox = s.link.outbox ++ s.numbered early ∧
            t.link.table = s.link.table.filter
              (fun e => decide (e.kind ≠ .frameSend ∧ e.kind ≠ .lineStop)) ∧
            t.pool = s.stoppedPool ∧ t.classifier = s.classifier ∧ t.queues = s.queues ∧
            t.sieve = s.sieve)))

/-- A dominant run above 40 bit times in LISTENING or ACTIVE is counted and puts the line in FAULTED with the
mode found as the resume mode, an open slot closed, the reception abandoned, an attempt ended as a collision
without a jam, a grant in GAP_WAIT handed back, LINE_STATE posted and LINE_FAULT given; a run of 40 or fewer, or
a mode that does not hear, changes nothing. In a stopping sequence the jam stops, the sequence goes on, and
LINE_STATE carries STOPPED at its end, ahead of the ABORTED replies and the LINE_STOP or RESET reply. 256
recessive bit times in FAULTED return it to the resume mode. That a collided entry whose drawn back-off is 0
waits again at once is the model's reading (log 35), and the draw is the command's operand (log 7). The value of
the stuck-line count and the order of the actions are the model's (log 21, log 30), and an event before its time
passes only its time (log 8). -/
def Obligations.StuckLineFaultsAndClears : Prop :=
  ∀ (dt : Nat) (s : State),
    (∀ (run : Nat) (draw : BitVec 5),
      (run ≤ 40 ∨ s.line.mode = .stopped ∨ s.line.mode = .faulted →
        exec (.stuckLine dt run draw) s = .next (s.elapse dt).drivePins) ∧
      (∀ m : HearMode, s.line.mode = m.mode → 40 < run → s.line.stopping = false →
        (s.line.transmitter = .idle → s.line.slot = .none →
          exec (.stuckLine dt run draw) s = .next (State.drivePins (State.give (State.post
            { s.elapse dt with
              line := { (s.elapse dt).line with
                mode := .faulted, resume := some m, receiver := .idle
                lastActivity := (s.elapse dt).line.point, gap := .long, stuckCount := run
                counters := { s.line.counters with stuckEvents := bump s.line.counters.stuckEvents } }
              pool := s.pool.release .receive s.pool.receive }
            (.lineState .faulted (some m))) .lineFault))) ∧
        (∃ t, exec (.stuckLine dt run draw) s = .next t ∧ t.line.mode = .faulted ∧
          t.line.resume = some m ∧ t.line.receiver = .idle ∧ t.line.slot = .none ∧
          t.line.transmitter = .idle ∧ t.line.stuckCount = run ∧
          t.line.counters = { s.line.counters with
            stuckEvents := bump s.line.counters.stuckEvents
            collisions := match s.line.transmitter with
              | .sending _ _ _ => bump s.line.counters.collisions
              | _ => s.line.counters.collisions } ∧
          t.classifier = s.classifier ∧ t.queues = s.queues ∧ t.slots = s.slots) ∧
        (∀ (c a b : State) (ended : Grant → AttemptEnd),
          c = State.closeSlot { s.elapse dt with line := { (s.elapse dt).line with
            lastActivity := (s.elapse dt).line.point, gap := .long, stuckCount := run
            counters := { s.line.counters with stuckEvents := bump s.line.counters.stuckEvents } } } →
          a = { c with
            line := { c.line with receiver := .idle }
            pool := c.pool.release .receive c.pool.receive } →
          (∀ g, ended g = if g.attempt < 8 then .collided ((s.elapse dt).line.point +
            bits (32 * (draw.toNat % 2 ^ (if g.attempt < 5 then g.attempt else 5)))) else .exhausted) →
          (c.line.transmitter = .idle → b = a) →
          (∀ g, c.line.transmitter = .gapWait g → b = a.notStarted) →
          (∀ g start bytes, c.line.transmitter = .sending g start bytes →
            b = State.hand { a with line := { a.line with
              transmitter := .idle
              counters := { a.line.counters with collisions := bump a.line.counters.collisions } } }
              g.source (ended g)) →
          (∀ g start, c.line.transmitter = .jamming g start →
            b = State.hand { a with line := { a.line with transmitter := .idle } } g.source (ended g)) →
          exec (.stuckLine dt run draw) s = .next (State.drivePins (State.give (State.post
            { b with line := { b.line with mode := .faulted, resume := some m } }
            (.lineState .faulted (some m))) .lineFault)))) ∧
      (∀ (g : Grant) (start : Nat) (tag : Byte) (jammed : SendEntry → Bool), DeferredLaw s →
        s.appendsLineState 32 → 40 < run → s.line.mode = .active → s.line.transmitter = .jamming g start →
        s.line.lineStop = some tag → s.line.lineSide = none →
        (∀ e, jammed e = true ↔ e.state = .onLine ∧ g.source = .send e.tag) →
        ∃ t, exec (.stuckLine dt run draw) s = .next t ∧ t.line.mode = .stopped ∧ t.line.resume = none ∧
          t.line.transmitter = .idle ∧ t.line.receiver = .idle ∧ t.line.slot = .none ∧
          t.line.lineStop = none ∧ t.line.stuckCount = run ∧
          t.line.counters = { s.line.counters with stuckEvents := bump s.line.counters.stuckEvents } ∧
          t.sender.queue = [] ∧ t.responder.queue = [] ∧
          t.link.outbox = s.link.outbox ++ s.numbered ([.notice (.lineState .stopped none)] ++
            s.abortedReplies jammed ++ [.reply 0x93 tag [0x00] []]) ∧
          t.link.table = s.link.table.filter
            (fun e => decide (e.kind ≠ .frameSend ∧ e.kind ≠ .lineStop))) ∧
      (∀ (g : Grant) (start : Nat) (tag : Byte) (jammed : SendEntry → Bool), DeferredLaw s →
        s.appendsLineState 32 → 40 < run → s.line.mode = .active → s.line.transmitter = .jamming g start →
        s.line.lineStop = none → s.line.lineSide = some ⟨tag, .stopping⟩ →
        s.classifier.eval = none → s.sieve.commit = none →
        (∀ e, jammed e = true ↔ e.state = .onLine ∧ g.source = .send e.tag) →
        ∃ t, exec (.stuckLine dt run draw) s = .next t ∧ t.line.mode = .stopped ∧ t.line.resume = none ∧
          t.line.transmitter = .idle ∧ t.line.lineSide = none ∧
          t.sender.queue = [] ∧ t.responder.queue = [] ∧
          t.link.outbox = s.link.outbox ++ s.numbered ([.notice (.lineState .stopped none)] ++
            s.abortedReplies jammed ++ [.reply 0x84 tag [0x00] []]) ∧
          t.link.table = s.link.table.filter
            (fun e => decide (e.kind ≠ .frameSend ∧ e.kind ≠ .reset)))) ∧
    (∀ (u : State) (old rest : List SendEntry) (e : SendEntry), u.sender.queue = old ++ e :: rest →
      (∀ x ∈ old, x.tag ≠ e.tag) → e.state = .onLine →
      (∀ r, u.hand (.send e.tag) (.collided r) = { u with sender := { u.sender with
        queue := old ++ { e with
          attempts := e.attempts + 1
          state := if r ≤ u.line.point then .waiting else .backoff r } :: rest } }) ∧
      u.hand (.send e.tag) .exhausted = State.complete { u with
        sender := { queue := old ++ rest, pass := if old ++ rest = [] then 0 else u.sender.pass }
        pool := u.pool.release .send e.frame.cells } .frameSend e.tag [0x0F, 0x08] [] ∧
      (∀ n end_, u.line.transmitter = .gapWait ⟨.send e.tag, n, end_⟩ →
        u.notStarted = { u with
          line := { u.line with transmitter := .idle }
          sender := { u.sender with queue := old ++ { e with state := .waiting } :: rest } })) ∧
    (∀ (u : State) (old rest : List ReplyEntry) (e : ReplyEntry), u.responder.queue = old ++ e :: rest →
      (∀ x ∈ old, x.state ≠ .onLine) → e.state = .onLine →
      (∀ r, e.window = none → u.hand .reply (.collided r) = { u with responder := { u.responder with
        queue := old ++ { e with
          attempts := e.attempts + 1
          state := if r ≤ u.line.point then .waiting else .backoff r } :: rest } }) ∧
      (∀ r, e.window.isSome = true → e.late = .send → u.hand .reply (.collided r) = { u with
        responder := { u.responder with
          queue := old ++ { e with
            window := none
            attempts := e.attempts + 1
            state := if r ≤ u.line.point then .waiting else .backoff r } :: rest
          counters := { u.responder.counters with lateSent := bump u.responder.counters.lateSent } } }) ∧
      (∀ r, e.window.isSome = true → e.late = .drop → u.hand .reply (.collided r) = { u with
        responder := { u.responder with
          queue := old ++ rest
          counters := { u.responder.counters with lateDropped := bump u.responder.counters.lateDropped } }
        pool := u.pool.release .responder e.frame.cells }) ∧
      u.hand .reply .exhausted = { u with
        responder := { u.responder with
          queue := old ++ rest
          counters := { u.responder.counters with replyFailed := bump u.responder.counters.replyFailed } }
        pool := u.pool.release .responder e.frame.cells } ∧
      (∀ n end_, u.line.transmitter = .gapWait ⟨.reply, n, end_⟩ →
        u.notStarted = { u with
          line := { u.line with transmitter := .idle }
          responder := { u.responder with queue := old ++ { e with state := .waiting } :: rest } })) ∧
    (∀ m : HearMode, s.line.mode = .faulted → s.line.resume = some m →
      (s.line.lastActivity + bits 256 ≤ (s.elapse dt).line.point →
        exec (.faultCleared dt) s = .next (State.drivePins (State.arbitrate (State.post
          { s.elapse dt with line := { (s.elapse dt).line with
              mode := m.mode, resume := none, receiver := .idle, gap := .long, stuckCount := 0 } }
          (.lineState m.mode none))))) ∧
      ((s.elapse dt).line.point < s.line.lastActivity + bits 256 →
        exec (.faultCleared dt) s = .next (s.elapse dt).drivePins))

/-- The arbiter's choice while it may grant and the transmitter is IDLE: the IN_WINDOW reply first; of a reply
that contends and a send, the reply while fewer than 4 have passed a waiting send, and then the send, with the
pass count back to 0; whichever one there is; and nothing when both queues have nothing that waits. An IN_WINDOW
reply takes the transmitter from a send, and from a reply that contends, in GAP_WAIT, which is handed back as it
was. The arbiter does nothing where it may not grant, where the transmitter drives, or where the grant in
GAP_WAIT is a SLOT one or no IN_WINDOW reply waits. -/
def Obligations.TheArbiterChoosesInOrder : Prop :=
  ∀ s : State,
    (s.line.mode ≠ .active ∨ s.line.stoppingOrReset = true ∨
        (∃ g start bytes, s.line.transmitter = .sending g start bytes) ∨
        (∃ g start, s.line.transmitter = .jamming g start) ∨
        (∃ g, s.line.transmitter = .gapWait g ∧ (g.slotEnd ≠ none ∨
          ∀ x ∈ s.responder.queue, x.state = .waiting → x.window = none)) → s.arbitrate = s) ∧
    (s.line.mode = .active → s.line.stoppingOrReset = false → s.line.transmitter = .idle →
      (∀ (old rest : List ReplyEntry) (r : ReplyEntry), s.responder.queue = old ++ r :: rest →
        (∀ x ∈ old, x.state = .waiting → x.window = none) → r.state = .waiting →
        r.window.isSome = true →
        s.arbitrate = { s with
          line := { s.line with transmitter := .gapWait ⟨.reply, r.attempts + 1, r.window⟩ }
          responder := { s.responder with queue := old ++ { r with state := .onLine } :: rest } }) ∧
      (∀ (old rest : List ReplyEntry) (r : ReplyEntry), s.responder.queue = old ++ r :: rest →
        (∀ x ∈ old, x.state ≠ .waiting) → r.state = .waiting →
        (∀ x ∈ s.responder.queue, x.state = .waiting → x.window = none) →
        (s.sender.pass < 4 ∨ (∀ e ∈ s.sender.queue, e.state ≠ .waiting)) →
        s.arbitrate = { s with
          line := { s.line with transmitter := .gapWait ⟨.reply, r.attempts + 1, none⟩ }
          responder := { s.responder with queue := old ++ { r with state := .onLine } :: rest }
          sender := { s.sender with pass := s.sender.pass +
            (if s.sender.queue.any (fun e => decide (e.state = .waiting)) then 1 else 0) } }) ∧
      (∀ (old rest : List SendEntry) (e : SendEntry), s.sender.queue = old ++ e :: rest →
        (∀ x ∈ old, x.state ≠ .waiting) → e.state = .waiting →
        ((∀ x ∈ s.responder.queue, x.state ≠ .waiting) ∨
          (4 ≤ s.sender.pass ∧ ∀ x ∈ s.responder.queue, x.state = .waiting → x.window = none)) →
        s.arbitrate = { s with
          line := { s.line with transmitter := .gapWait ⟨.send e.tag, e.attempts + 1, none⟩ }
          sender := { queue := old ++ { e with state := .onLine } :: rest, pass := 0 } }) ∧
      ((∀ x ∈ s.responder.queue, x.state ≠ .waiting) → (∀ e ∈ s.sender.queue, e.state ≠ .waiting) →
        s.arbitrate = s)) ∧
    (∀ (old rest : List ReplyEntry) (r : ReplyEntry) (so sr : List SendEntry) (e : SendEntry) (n : Nat),
      s.line.mode = .active → s.line.stoppingOrReset = false →
      s.line.transmitter = .gapWait ⟨.send e.tag, n, none⟩ →
      s.responder.queue = old ++ r :: rest → (∀ x ∈ old, x.state = .waiting → x.window = none) →
      r.state = .waiting → r.window.isSome = true →
      s.sender.queue = so ++ e :: sr → (∀ x ∈ so, x.tag ≠ e.tag) → e.state = .onLine →
      s.arbitrate = { s with
        line := { s.line with transmitter := .gapWait ⟨.reply, r.attempts + 1, r.window⟩ }
        responder := { s.responder with queue := old ++ { r with state := .onLine } :: rest }
        sender := { s.sender with queue := so ++ { e with state := .waiting } :: sr } }) ∧
    (∀ (old rest : List ReplyEntry) (r : ReplyEntry) (n : Nat) (back : ReplyEntry → ReplyEntry),
      s.line.mode = .active → s.line.stoppingOrReset = false →
      s.line.transmitter = .gapWait ⟨.reply, n, none⟩ → s.responder.queue = old ++ r :: rest →
      (∀ x ∈ old, x.state = .waiting → x.window = none) → r.state = .waiting → r.window.isSome = true →
      (old ++ rest).countP (fun x => decide (x.state = .onLine)) ≤ 1 →
      (∀ x ∈ old ++ rest, x.state = .onLine → x.window = none) →
      (∀ x, back x = if x.state = .onLine then { x with state := .waiting } else x) →
      s.arbitrate = { s with
        line := { s.line with transmitter := .gapWait ⟨.reply, r.attempts + 1, r.window⟩ }
        responder := { s.responder with
          queue := old.map back ++ { r with state := .onLine } :: rest.map back } })

/-! ### The classifier -/

/-- An entry matches by its class, its kind under the mask, its source window and all its terms; a scan is the
matching entries in index order up to and with the first that does not continue; and the verdict takes the first
deliver-to and its entry, the first answer-with, the first four captures, and wake from any, or the default
where nothing matched. -/
def Obligations.VerdictsFollowTheScan : Prop :=
  (∀ (e : Entry) (own group : List Half) (f : Frame), e.matches own group f = true ↔
    e.inUse = true ∧
    (match e.cls with
      | .own => f.dst ∈ own
      | .group => f.dst ∈ group
      | .all => f.dst = 0xFFFF
      | .addressed => f.dst ∈ own ∨ f.dst ∈ group ∨ f.dst = 0xFFFF
      | .others => f.dst ∉ own ∧ f.dst ∉ group ∧ f.dst ≠ 0xFFFF
      | .every => True) ∧
    f.kind &&& e.kindMask = e.kindValue &&& e.kindMask ∧
    (∀ w, e.window = some w → w.1.toNat ≤ f.src.toNat ∧ f.src.toNat ≤ w.2.toNat) ∧
    (∀ t ∈ e.terms, t.offset + t.width.bytes ≤ f.payload.length ∧
      (match t.op with
        | .eq => t.field f.payload &&& t.mask = t.operand
        | .ne => t.field f.payload &&& t.mask ≠ t.operand
        | .lt => (t.field f.payload &&& t.mask).toNat < t.operand.toNat
        | .ge => t.operand.toNat ≤ (t.field f.payload &&& t.mask).toNat
        | .allSet => t.field f.payload &&& t.mask &&& t.operand = t.operand
        | .anySet => t.field f.payload &&& t.mask &&& t.operand ≠ 0))) ∧
  (∀ (b : Bank) (own group : List Half) (f : Frame),
    b.scan own group f (List.finRange 32) =
      ((List.finRange 32).filter (fun i => decide (b.entries[i].matches own group f = true ∧
        ∀ j : Fin 32, j < i → b.entries[j].matches own group f = true →
          b.entries[j].continue_ = true))).map (fun i => (i, b.entries[i]))) ∧
  (∀ d : DefaultVerdict, verdictOf [] d = ⟨d.deliver, none, none, [], 0, d.wake, false⟩) ∧
  (∀ (ms : List (Fin 32 × Entry)) (d : DefaultVerdict), ms ≠ [] →
    ((∀ m ∈ ms, m.2.deliver = none) → (verdictOf ms d).deliver = none ∧ (verdictOf ms d).matched = none) ∧
    (∀ a m c q, ms = a ++ m :: c → (∀ x ∈ a, x.2.deliver = none) → m.2.deliver = some q →
      (verdictOf ms d).deliver = some q ∧ (verdictOf ms d).matched = some m.1) ∧
    ((∀ m ∈ ms, m.2.answer = none) → (verdictOf ms d).answer = none) ∧
    (∀ a m c n, ms = a ++ m :: c → (∀ x ∈ a, x.2.answer = none) → m.2.answer = some n →
      (verdictOf ms d).answer = some n) ∧
    (verdictOf ms d).captures =
      (ms.filterMap (fun m => m.2.capture.map (fun c => (m.1, c)))).take 4 ∧
    (verdictOf ms d).excess = (ms.filterMap (fun m => m.2.capture)).length - 4 ∧
    ((verdictOf ms d).wake = true ↔ ∃ m ∈ ms, m.2.wake = true) ∧
    ((verdictOf ms d).absorbed = true ↔ (verdictOf ms d).deliver = none ∧ (verdictOf ms d).answer = none))

/-- An evaluation begins with the oldest waiting frame, the generation and the address lists of that moment, a
pending commit applied before it. At the end of a scan the hits are counted and the verdict is carried out: the
captures in order, each written LINE to its slot with SLOT_UPDATE and SLOT given by its settings, or counted
CAPTURE_SHORT; the answer built in ACTIVE, or counted in ANSWER_SUPPRESSED; the record offered to its queue, or
the chain released; and VERDICT given where the verdict wakes. Then the classifier is IDLE, a pending commit is
applied, and a line-side reset that waits for the classifier goes on to its DONE. A default verdict, an absorbed
frame and a single capture are stated on their own as well. -/
def Obligations.EvaluationsBeginAndEnd : Prop :=
  ∀ (dt : Nat) (s : State),
    (∀ (w : Waiting) (ws : List Waiting), s.classifier.eval = none → s.classifier.queue = w :: ws →
      s.line.lineSide = none →
      (s.sieve.commit = none →
        exec (.evaluationStart dt) s = .next (State.drivePins { s.elapse dt with
          classifier := { s.classifier with
            queue := ws, eval := some ⟨w, s.sieve.generation, s.line.own, s.line.group⟩ } })) ∧
      (s.sieve.commit.isSome = true → s.sieve.staged.failing s.responder.templates = none →
        ∃ t, exec (.evaluationStart dt) s = .next t ∧ t.sieve.commit = none ∧
          t.sieve.active = s.sieve.staged ∧ t.classifier.queue = ws ∧
          t.classifier.eval = some ⟨w, s.sieve.generation + 1, s.line.own, s.line.group⟩)) ∧
    (∀ e : Evaluation, s.classifier.eval = some e → s.sieve.commit = none → s.line.lineSide = none →
      ((∀ i : Fin 32, s.sieve.active.entries[i].matches e.own e.group e.member.frame = false) →
        (s.sieve.active.dflt = ⟨none, false⟩ →
          exec (.scanEnd dt) s = .next (State.drivePins (State.arbitrate { s.elapse dt with
            classifier := { s.classifier with
              eval := none, defaultHits := bump s.classifier.defaultHits }
            pool := s.pool.release .classify e.member.frame.cells }))) ∧
        (∀ q, s.sieve.active.dflt = ⟨some q, false⟩ →
          ∃ t, exec (.scanEnd dt) s = .next t ∧ t.classifier = { s.classifier with
              eval := none, defaultHits := bump s.classifier.defaultHits } ∧
            t.queues = (State.arrive (s.elapse dt) q
              ⟨e.member.frame, e.member.id, e.member.stamp, e.generation, none, false, false, false⟩).queues ∧
            t.pool = (State.arrive (s.elapse dt) q
              ⟨e.member.frame, e.member.id, e.member.stamp, e.generation, none, false, false, false⟩).pool ∧
            t.slots = s.slots)) ∧
      (∀ i : Fin 32, s.sieve.active.entries[i].matches e.own e.group e.member.frame = true →
        s.sieve.active.entries[i].continue_ = false →
        (∀ j : Fin 32, j < i → s.sieve.active.entries[j].matches e.own e.group e.member.frame = false) →
        s.sieve.active.entries[i].deliver = none → s.sieve.active.entries[i].answer = none →
        s.sieve.active.entries[i].wake = false →
        (s.sieve.active.entries[i].capture = none →
          exec (.scanEnd dt) s = .next (State.drivePins (State.arbitrate { s.elapse dt with
            classifier := { s.classifier with
              eval := none
              hits := s.classifier.hits.set i (bump s.classifier.hits[i])
              counters := { s.classifier.counters with absorbed := bump s.classifier.counters.absorbed } }
            pool := s.pool.release .classify e.member.frame.cells }))) ∧
        (∀ c, s.sieve.active.entries[i].capture = some c →
          (c.offset + c.length ≤ e.member.frame.payload.length →
            ∃ t, exec (.scanEnd dt) s = .next t ∧ t.classifier.eval = none ∧
              t.slots = s.slots.set c.slot { s.slots[c.slot] with
                state := .held ⟨(e.member.frame.payload.drop c.offset).take c.length,
                  .line i e.member.frame.src, (s.elapse dt).line.timebase⟩
                updates := s.slots[c.slot].updates + 1
                unread := true } ∧
              t.pool = s.pool.release .classify e.member.frame.cells ∧ t.queues = s.queues) ∧
          (e.member.frame.payload.length < c.offset + c.length →
            ∃ t, exec (.scanEnd dt) s = .next t ∧ t.classifier.eval = none ∧ t.slots = s.slots ∧
              t.classifier.counters.captureShort = bump s.classifier.counters.captureShort ∧
              t.queues = s.queues)))) ∧
    (∀ (e : Evaluation) (ms : List (Fin 32 × Entry)) (v : Verdict) (counted d : State) (c a : State × Bool),
      s.classifier.eval = some e →
      ms = s.sieve.active.scan e.own e.group e.member.frame (List.finRange 32) →
      v = verdictOf ms s.sieve.active.dflt →
      counted = { s.elapse dt with classifier := { s.classifier with
        hits := ms.foldl (fun h m => h.set m.1 (bump h[m.1])) s.classifier.hits
        defaultHits := if ms = [] then bump s.classifier.defaultHits else s.classifier.defaultHits
        counters := { s.classifier.counters with
          absorbed := if v.absorbed then bump s.classifier.counters.absorbed
            else s.classifier.counters.absorbed
          captureExcess := bumpBy s.classifier.counters.captureExcess v.excess } } } →
      c = counted.captureStage e.member.frame v.captures → a = c.1.answerStage v.answer e.member →
      d = a.1.deliverStage v e a.2 c.2 →
      exec (.scanEnd dt) s = .next (State.drivePins (State.arbitrate (State.continueLineSide
        (State.applyCommit { (if v.wake then d.give .verdict else d) with
          classifier := { d.classifier with eval := none } }))))) ∧
    (∀ (u : State) (f : Frame), u.captureStage f [] = (u, false) ∧
      ∀ (i : Fin 32) (c : Capture) (cs : List (Fin 32 × Capture)),
        (c.offset + c.length ≤ f.payload.length → u.captureStage f ((i, c) :: cs) =
          (((u.lineWrite c.slot ((f.payload.drop c.offset).take c.length) i f.src).captureStage f cs).1,
            true)) ∧
        (f.payload.length < c.offset + c.length → u.captureStage f ((i, c) :: cs) =
          State.captureStage { u with classifier := { u.classifier with counters :=
            { u.classifier.counters with
              captureShort := bump u.classifier.counters.captureShort } } } f cs)) ∧
    (∀ (u w p : State) (n : Fin 16) (data : List Byte) (i : Fin 32) (src : Half),
      w = { u with slots := u.slots.set n { u.slots[n] with
        state := .held ⟨data, .line i src, u.line.timebase⟩
        updates := u.slots[n].updates + 1
        unread := true } } →
      p = (if u.slots[n].watch then
          w.post (.slotUpdate n (u.slots[n].updates + 1) data i src u.line.timebase) else w) →
      u.lineWrite n data i src = if u.slots[n].wakeOnUpdate then p.give (.slot n) else p) ∧
    (∀ (u : State) (w : Waiting), u.answerStage none w = (u, false) ∧
      ∀ n : Fin 16,
        (u.line.mode = .active → u.line.stoppingOrReset = false →
          u.answerStage (some n) w = u.build n w.frame w.frameEnd) ∧
        (u.line.mode ≠ .active ∨ u.line.stoppingOrReset = true →
          u.answerStage (some n) w = ({ u with classifier := { u.classifier with counters :=
            { u.classifier.counters with
              suppressed := bump u.classifier.counters.suppressed } } }, false))) ∧
    (∀ (u : State) (v : Verdict) (e : Evaluation) (answered captured : Bool),
      (v.deliver = none → u.deliverStage v e answered captured =
        { u with pool := u.pool.release .classify e.member.frame.cells }) ∧
      (∀ q, v.deliver = some q → u.deliverStage v e answered captured =
        u.arrive q ⟨e.member.frame, e.member.id, e.member.stamp, e.generation, v.matched, answered, v.wake,
          captured⟩)) ∧
    (∀ (u : State) (g : Half), g = u.sieve.generation →
      (u.sieve.commit = none → u.applyCommit = u) ∧
      (∀ tag, u.sieve.commit = some tag →
        (∀ i n, u.sieve.staged.failing u.responder.templates = some (i, n) →
          u.applyCommit = State.complete { u with sieve := { u.sieve with commit := none } }
            .sieveCommit tag ([0x0B, byteOf i.val, 0x00, byteOf n.val] ++ be16 g) []) ∧
        (u.sieve.staged.failing u.responder.templates = none →
          u.applyCommit = State.complete { u with
            sieve := { u.sieve with active := u.sieve.staged, generation := g + 1, commit := none }
            classifier := { u.classifier with
              hits := Vector.ofFn fun i =>
                if u.sieve.staged.entries[i].same u.sieve.active.entries[i] then u.classifier.hits[i] else 0
              defaultHits := if u.sieve.staged.dflt = u.sieve.active.dflt then u.classifier.defaultHits
                else 0 } }
            .sieveCommit tag ([0x00] ++ be16 (g + 1) ++
              [byteOf ((List.finRange 32).countP
                (fun i => !(u.sieve.staged.entries[i].same u.sieve.active.entries[i]))),
                yesNo (decide (u.sieve.staged.dflt ≠ u.sieve.active.dflt))]) []))) ∧
    (∀ u w : State, w = u.applyCommit →
      (u.classifier.eval.isSome = true ∨ (∀ tag, u.line.lineSide ≠ some ⟨tag, .classifier⟩) →
        u.continueLineSide = u) ∧
      (∀ tag, u.classifier.eval = none → u.line.lineSide = some ⟨tag, .classifier⟩ →
        u.continueLineSide = State.complete { w with
          classifier := { w.classifier with queue := [] }
          queues := w.queues.map (fun d => { d with records := [] })
          pool := ((((w.pool.release .classify
            ((w.classifier.queue.map (fun m => m.frame.cells)).sum)).release
            (.queue 0) (cellsOf w.queues[0].records)).release
            (.queue 1) (cellsOf w.queues[1].records)).release
            (.queue 2) (cellsOf w.queues[2].records)).release
            (.queue 3) (cellsOf w.queues[3].records)
          line := { w.line with lineSide := none } } .reset tag [0x00] []))

/-- A build is judged in order: four replies waiting, a COPY that reaches past the payload, a SLOT that is EMPTY
or suppressed while STALE. A build that passes places its reply IN_WINDOW while its OWN_SLOT is open, by the
late policy when it has closed, and to contend otherwise, with the cells, the use count and the sequence
counter; its items are written over the body in list order, each at its target: COPY the received bytes, SLOT
the slot's data, STAMP the timebase, USES the use count with this reply counted. -/
def Obligations.BuildsPlaceTheReply : Prop :=
  (∀ (s : State) (n : Fin 16) (f : Frame) (fe : Nat),
    (4 ≤ s.responder.queue.length →
      s.build n f fe = ({ s with responder := { s.responder with counters :=
        { s.responder.counters with answerOverflow := bump s.responder.counters.answerOverflow } } }, false)) ∧
    (s.responder.queue.length < 4 →
      (∃ target source length, .copy target source length ∈ s.responder.templates[n].items ∧
        f.payload.length < source + length) →
      s.build n f fe = ({ s with responder := { s.responder with counters :=
        { s.responder.counters with copyShort := bump s.responder.counters.copyShort } } }, false)) ∧
    (s.responder.queue.length < 4 →
      (∀ target source length, .copy target source length ∈ s.responder.templates[n].items →
        source + length ≤ f.payload.length) →
      (∃ target m, .slot target m ∈ s.responder.templates[n].items ∧ (s.slots[m].state = .empty ∨
        (s.responder.templates[n].stale = .suppress ∧ ∃ c, s.slots[m].state = .stale c))) →
      s.build n f fe = ({ s with responder := { s.responder with counters :=
        { s.responder.counters with slotSuppressed := bump s.responder.counters.slotSuppressed } } }, false)) ∧
    (∀ t : Template, t = s.responder.templates[n] → s.responder.queue.length < 4 →
      (∀ target source length, .copy target source length ∈ t.items →
        source + length ≤ f.payload.length) →
      (∀ target m, .slot target m ∈ t.items → s.slots[m].state ≠ .empty ∧
        (t.stale = .suppress → ∀ c, s.slots[m].state ≠ .stale c)) →
      ∀ (reply : Frame) (placed : Option Nat → ResponderCounters → State × Bool),
        reply = {
          dst := match t.dest with
            | .toSender => f.src
            | .fixed a => a
          src := if f.dst ∈ s.line.own then f.dst else s.line.own.headD 0
          kind := t.kind ||| 0x80
          seq := match t.seqRule with
            | .echo => f.seq
            | .count => s.responder.seqCounter
          payload := replyPayload s.slots f.payload s.line.timebase (t.uses + 1) t.body t.items } →
        reply.cells ≤ s.pool.free →
        (∀ window counters, placed window counters = ({ s with
          responder := {
            templates := s.responder.templates.set n { t with uses := t.uses + 1 }
            queue := s.responder.queue ++ [⟨reply, n, t.late, window, 0, .waiting⟩]
            seqCounter := s.responder.seqCounter + 1
            counters := counters }
          pool := s.pool.claim .responder reply.cells }, true)) →
        ((isStation f.dst && !f.kind.msb) = false ∨ f.dst ∉ s.line.own →
          s.build n f fe = placed none s.responder.counters) ∧
        ((isStation f.dst && !f.kind.msb) = true → f.dst ∈ s.line.own →
          (s.line.slot = .own fe → s.build n f fe = placed (some fe) s.responder.counters) ∧
          (s.line.slot ≠ .own fe → t.late = .send →
            s.build n f fe = placed none
              { s.responder.counters with lateSent := bump s.responder.counters.lateSent }) ∧
          (s.line.slot ≠ .own fe → t.late = .drop →
            s.build n f fe = ({ s with responder := { s.responder with counters :=
              { s.responder.counters with lateDropped := bump s.responder.counters.lateDropped } } },
              false))))) ∧
  (∀ slots payload now uses body, replyPayload slots payload now uses body [] = body) ∧
  (∀ (slots : Vector Slot 16) (payload : List Byte) (now : Word) (uses : Half),
    (∀ target source length, (Item.copy target source length).target = target ∧
      (Item.copy target source length).written slots payload now uses =
        (payload.drop source).take length) ∧
    (∀ target (m : Fin 16) (c : SlotContent), (Item.slot target m).target = target ∧
      (slots[m].state = .held c ∨ slots[m].state = .stale c →
        (Item.slot target m).written slots payload now uses = c.data)) ∧
    (∀ target, (Item.stamp target).target = target ∧
      (Item.stamp target).written slots payload now uses =
        [now.extractLsb' 24 8, now.extractLsb' 16 8, now.extractLsb' 8 8, now.extractLsb' 0 8]) ∧
    (∀ target, (Item.uses target).target = target ∧
      (Item.uses target).written slots payload now uses =
        [uses.extractLsb' 8 8, uses.extractLsb' 0 8])) ∧
  (∀ slots payload now uses body items i,
    replyPayload slots payload now uses body (items ++ [i]) =
      splice i.target (i.written slots payload now uses) (replyPayload slots payload now uses body items)) ∧
  (∀ (target : Nat) (new body : List Byte) (j : Nat), target + new.length ≤ body.length →
    (splice target new body)[j]? =
      if target ≤ j ∧ j < target + new.length then new[j - target]? else body[j]?)

/-! ### Ages -/

/-- A record whose age passes its queue's limit leaves the queue counted in EXPIRED with its chain released, and
one whose age does not stays; a HELD slot whose age passes its limit becomes STALE, and any other slot stays as
it is.  That an event before its time passes only its time is the model's choice (log 8). -/
def Obligations.AgesActOnRecordsAndSlots : Prop :=
  ∀ (dt : Nat) (s : State),
    (∀ (q : Fin 4) (old rest : List Record) (r : Record), s.queues[q].records = old ++ r :: rest →
      (∀ x ∈ old ++ rest, x.id ≠ r.id) →
      (s.queues[q].settings.age ≠ 0 →
        s.queues[q].settings.age < ((s.elapse dt).line.timebase - r.stamp).toNat / 1000 →
        exec (.expiry dt q r.id) s = .next (State.drivePins { s.elapse dt with
          queues := s.queues.set q { s.queues[q] with
            records := old ++ rest
            counters := { s.queues[q].counters with expired := bump s.queues[q].counters.expired } }
          pool := s.pool.release (.queue q) r.frame.cells })) ∧
      (s.queues[q].settings.age = 0 ∨
          ((s.elapse dt).line.timebase - r.stamp).toNat / 1000 ≤ s.queues[q].settings.age →
        exec (.expiry dt q r.id) s = .next (s.elapse dt).drivePins)) ∧
    (∀ n : Fin 16,
      (∀ c, s.slots[n].state = .held c → s.slots[n].limit ≠ 0 →
        s.slots[n].limit < ((s.elapse dt).line.timebase - c.stamp).toNat / 1000 →
        exec (.slotStale dt n) s = .next (State.drivePins { s.elapse dt with
          slots := s.slots.set n { s.slots[n] with state := .stale c } })) ∧
      ((∀ c, s.slots[n].state = .held c → s.slots[n].limit = 0 ∨
          ((s.elapse dt).line.timebase - c.stamp).toNat / 1000 ≤ s.slots[n].limit) →
        exec (.slotStale dt n) s = .next (s.elapse dt).drivePins))

/-! ### Refused fields -/

/-- A request whose option, queue, slot, template, entry index, bank or scope is outside its values is answered
BAD_FIELD, and nothing else changes. -/
def Obligations.FieldsOutOfRangeAreBadFields : Prop :=
  ∀ (s : State) (tag : Byte) (k : ReqKind) (body : List Byte), Accepted s k tag body →
    ((k = .identify ∨ k = .lineCounters ∨ k = .classifyStatus ∨ k = .responderStatus ∨ k = .reset) ∧
        1 < natAt body 0) ∨
      ((k = .framePeek ∨ k = .frameTake ∨ k = .queueFlush ∨ k = .frameDiscard) ∧ 3 < natAt body 0) ∨
      (k = .queueStatus ∧ (3 < natAt body 0 ∨ 1 < natAt body 1)) ∨
      (k = .queueSetup ∧ (3 < natAt body 0 ∨ 1 < natAt body 1 ∨ natAt body 2 < 1 ∨ 64 < natAt body 2 ∨
        192 < natAt body 3 ∨ 1 < natAt body 6 ∨ 64 < natAt body 7 ∨ 1 < natAt body 8)) ∨
      ((k = .slotRead ∨ k = .templateGet ∨ k = .templateClear) ∧ 15 < natAt body 0) ∨
      (k = .slotWrite ∧ (15 < natAt body 0 ∨ natAt body 1 < 1 ∨ 16 < natAt body 1)) ∨
      (k = .slotClear ∧ 15 < natAt body 0 ∧ natAt body 0 ≠ 255) ∨
      (k = .slotSetup ∧ (15 < natAt body 0 ∨ 1 < natAt body 1 ∨ 1 < natAt body 2)) ∨
      (k = .sieveGet ∧ (1 < natAt body 0 ∨ 31 < natAt body 1)) ∨
      (k = .sieveClear ∧ 31 < natAt body 0 ∧ natAt body 0 ≠ 255) ∨
      (k = .sieveDefault ∧ ((3 < natAt body 0 ∧ natAt body 0 ≠ 255) ∨ 1 < natAt body 1)) ∨
      (k = .hitsRead ∧ (31 < natAt body 0 ∨ 8 < natAt body 1 ∨ 32 < natAt body 0 + natAt body 1 ∨
        1 < natAt body 2 ∨ 8 < natAt body 1 + natAt body 2 ∨ natAt body 1 + natAt body 2 < 1)) ∨
      (k = .hitsClear ∧ (31 < natAt body 0 ∨ 32 < natAt body 1 ∨ 32 < natAt body 0 + natAt body 1 ∨
        1 < natAt body 2 ∨ natAt body 1 + natAt body 2 < 1)) ∨
      (k = .presenceSetup ∧ (1 < natAt body 0 ∨ 1 < natAt body 1 ∨ 1 < natAt body 2 ∨ 1 < natAt body 3 ∨
        natAt body 4 < 8 ∨ 31 < natAt body 4 ∨ 1 < natAt body 5)) →
    exec (requestRow k body) s = .next (State.drivePins (s.withReply k tag [0x03] []))

/-! ### Invariants that every step keeps -/

/-- Every law of the device holds in the state after reset. -/
def Obligations.LawsHoldAtReset : Prop :=
  PoolLaw State.reset ∧ ReserveLaw State.reset ∧ HoldersLaw State.reset ∧ TableLaw State.reset ∧
  SentLaw State.reset ∧ SequenceLaw State.reset ∧ NoticeLaw State.reset ∧ DeferredLaw State.reset ∧
  PinLaw State.reset ∧ PresenceLaw State.reset ∧ ModeLaw State.reset ∧ StoppedLaw State.reset ∧
  PassLaw State.reset ∧ FourLaw State.reset ∧ TemplateLaw State.reset ∧ QueueLaw State.reset ∧
  GrantLaw State.reset ∧ WindowLaw State.reset

/-- No cell is lost or made: every step keeps the sum of the free count and the nine held counts at 192, and
keeps the reserve of 16 less the cells of RESPONDER. -/
def Obligations.StepsKeepTheCells : Prop :=
  ∀ s t : State, PoolLaw s → ReserveLaw s → step s = .next t → PoolLaw t ∧ ReserveLaw t

/-- Every step keeps each holder's count equal to the cells of what the holder holds, where no two send entries
have one tag, as the law of the deferred requests says. -/
def Obligations.StepsKeepTheHolders : Prop :=
  ∀ s t : State, DeferredLaw s → HoldersLaw s → step s = .next t → HoldersLaw t

/-- Every step keeps the laws of the message link: the 32 places, the 8 table entries and their tags; the 8 SENT
entries ahead of the UNSENT ones; the sequence numbers without a gap; and one UNSENT or pending notice of a kind
and subject. -/
def Obligations.StepsKeepTheLink : Prop :=
  (∀ s t : State, TableLaw s → step s = .next t → TableLaw t) ∧
  (∀ s t : State, SentLaw s → step s = .next t → SentLaw t) ∧
  (∀ s t : State, SequenceLaw s → step s = .next t → SequenceLaw t) ∧
  (∀ s t : State, NoticeLaw s → step s = .next t → NoticeLaw t)

/-- Every step keeps the law of the deferred requests: a FRAME_SEND, SIEVE_COMMIT, LINE_STOP or RESET stands in
the request table exactly while what it waits for is open. -/
def Obligations.StepsKeepTheDeferredRequests : Prop :=
  ∀ s t : State, DeferredLaw s → step s = .next t → DeferredLaw t

/-- Every step keeps the laws of the line and of presence: the transmitter acts only in ACTIVE, a mode that does
not hear holds the receiver in IDLE with no slot open, a resume mode stands exactly in FAULTED, ACTIVE has an
own address; in STOPPED the send queue and the reply queue are empty; the pass count is at most 4; presence, its
doze reply and its cause set agree; and exactly the entry the transmitter's grant names is ON_LINE, and none
while it is IDLE. -/
def Obligations.StepsKeepTheLineAndPresence : Prop :=
  (∀ s t : State, ModeLaw s → step s = .next t → ModeLaw t) ∧
  (∀ s t : State, ModeLaw s → StoppedLaw s → step s = .next t → StoppedLaw t) ∧
  (∀ s t : State, PassLaw s → step s = .next t → PassLaw t) ∧
  (∀ s t : State, PresenceLaw s → step s = .next t → PresenceLaw t) ∧
  (∀ s t : State, DeferredLaw s → GrantLaw s → step s = .next t → GrantLaw t)

/-- Every step keeps the bounds of the classification queue, the reply queue and the delivery queues, keeps
every template that ACTIVE names DEFINED, keeps the frame ids that are held all different, and keeps the law of
the reply window: at most one reply is IN_WINDOW, in its own open slot or on the line, where frames end one
after another on the line. -/
def Obligations.StepsKeepTheClassifier : Prop :=
  (∀ s t : State, FourLaw s → step s = .next t → FourLaw t) ∧
  (∀ s t : State, QueueLaw s → step s = .next t → QueueLaw t) ∧
  (∀ s t : State, TemplateLaw s → step s = .next t → TemplateLaw t) ∧
  (∀ s t : State, FourLaw s → QueueLaw s → s.frameIds.Nodup → step s = .next t → t.frameIds.Nodup) ∧
  (∀ s t : State, DeferredLaw s → GrantLaw s → FrameEndsInOrder s → WindowLaw s → step s = .next t →
    WindowLaw t)
end
end

