-- ==== Sys2Proof/Laws/Link.lean ====
section
/-! SUPPORT. What the link's shared operations can do: an append, a completion, a posting, a refusal at dispatch
and the move of pending notices. -/

namespace Sys2Proof.Machine

/-! ### Wake causes -/

@[simp] theorem Presence.give_mask (p : Presence) (c : Cause) : (p.give c).mask = p.mask := by
  unfold Presence.give
  split
  · split <;> rfl
  · rfl

@[simp] theorem Presence.give_highMark (p : Presence) (c : Cause) :
    (p.give c).highMark = p.highMark := by
  unfold Presence.give
  split
  · split <;> rfl
  · rfl

@[simp] theorem Presence.give_dozeReply (p : Presence) (c : Cause) :
    (p.give c).dozeReply = p.dozeReply := by
  unfold Presence.give
  split
  · split <;> rfl
  · rfl

/-- In AWAKE every cause is discarded (R163). -/
theorem Presence.give_awake (p : Presence) (c : Cause) (h : p.state = .awake) : p.give c = p := by
  unfold Presence.give
  rw [h]
  split <;> rfl

/-! ### The append -/

/-- An append changes nothing but the outbox, the next sequence number and presence (R146, R155). -/
theorem State.append_eq (s : State) (m : Message) :
    s.append m =
      { s with
        link := { s.link with
          outbox := s.link.outbox ++ [⟨s.link.nextSeq, false, m⟩], nextSeq := s.link.nextSeq + 1 }
        presence := if s.link.outbox.length + 1 = s.presence.highMark then s.presence.give .outboxHigh
          else s.presence } := by
  unfold State.append State.give
  simp only [List.length_append, List.length_cons, List.length_nil, Nat.zero_add]
  split <;> rfl

@[simp] theorem State.append_outbox (s : State) (m : Message) :
    (s.append m).link.outbox = s.link.outbox ++ [⟨s.link.nextSeq, false, m⟩] := by
  rw [State.append_eq]

@[simp] theorem State.append_table (s : State) (m : Message) : (s.append m).link.table = s.link.table := by
  rw [State.append_eq]

@[simp] theorem State.append_notices (s : State) (m : Message) :
    (s.append m).link.notices = s.link.notices := by
  rw [State.append_eq]

@[simp] theorem State.append_nextSeq (s : State) (m : Message) :
    (s.append m).link.nextSeq = s.link.nextSeq + 1 := by
  rw [State.append_eq]

@[simp] theorem State.append_line (s : State) (m : Message) : (s.append m).line = s.line := by
  rw [State.append_eq]

@[simp] theorem State.append_pool (s : State) (m : Message) : (s.append m).pool = s.pool := by
  rw [State.append_eq]

@[simp] theorem State.append_sieve (s : State) (m : Message) : (s.append m).sieve = s.sieve := by
  rw [State.append_eq]

@[simp] theorem State.append_classifier (s : State) (m : Message) :
    (s.append m).classifier = s.classifier := by
  rw [State.append_eq]

@[simp] theorem State.append_queues (s : State) (m : Message) : (s.append m).queues = s.queues := by
  rw [State.append_eq]

@[simp] theorem State.append_slots (s : State) (m : Message) : (s.append m).slots = s.slots := by
  rw [State.append_eq]

@[simp] theorem State.append_responder (s : State) (m : Message) :
    (s.append m).responder = s.responder := by
  rw [State.append_eq]

@[simp] theorem State.append_sender (s : State) (m : Message) : (s.append m).sender = s.sender := by
  rw [State.append_eq]

@[simp] theorem State.append_pins (s : State) (m : Message) : (s.append m).pins = s.pins := by
  rw [State.append_eq]

@[simp] theorem State.append_pending (s : State) (m : Message) : (s.append m).pending = s.pending := by
  rw [State.append_eq]

/-! ### Completion and refusal -/

/-- A tag that the table does not hold names no entry of it. -/
theorem Link.eraseP_not_held (l : Link) (tag : Byte) (h : l.holdsTag tag = false) :
    l.table.eraseP (fun e => e.tag == tag) = l.table := by
  apply List.eraseP_of_forall_not
  intro e he
  simp only [Link.holdsTag, List.any_eq_false] at h
  exact h e he

/-- In a table whose tags differ, taking the first entry with a tag out takes out all of them (R144). -/
theorem eraseP_tag (t : List TableEntry) (tag : Byte) (hn : (t.map (fun e => e.tag)).Nodup) :
    t.eraseP (fun e => e.tag == tag) = t.filter (fun e => e.tag != tag) := by
  induction t with
  | nil => rfl
  | cons a t ih =>
    rw [List.map_cons, List.nodup_cons] at hn
    by_cases h : a.tag = tag
    · subst h
      simp only [List.eraseP_cons, beq_self_eq_true, cond_true, List.filter_cons, bne_self_eq_false,
        Bool.false_eq_true, if_false]
      symm
      rw [List.filter_eq_self]
      intro x hx
      rw [bne_iff_ne]
      exact fun hh => hn.1 (List.mem_map.mpr ⟨x, hx, hh⟩)
    · rw [List.eraseP_cons_of_neg (by simpa using h), ih hn.2, List.filter_cons]
      simp [h]

/-- A completion of a request that holds a table entry appends its reply and gives the entry back (R145). -/
theorem State.complete_held (s : State) (k : ReqKind) (tag : Byte) (content : List Byte)
    (h : s.link.holdsTag tag = true) :
    s.complete k tag content [] = { s.append (.reply k.replyCode tag content []) with
      link := { (s.append (.reply k.replyCode tag content [])).link with
        table := s.link.table.eraseP (fun e => e.tag == tag) } } := by
  unfold State.complete
  rw [if_pos h]
  simp

/-- A completion of the only request of its kind takes the entries of that kind out of the table (R145). -/
theorem State.complete_onlyOfItsKind (s : State) (k : ReqKind) (tag : Byte) (content : List Byte)
    (hn : (s.link.table.map (fun e => e.tag)).Nodup)
    (hk : ∀ x ∈ s.link.table, x.kind = k ↔ x.tag = tag) (hm : ∃ x ∈ s.link.table, x.tag = tag) :
    s.complete k tag content [] = { s.append (.reply k.replyCode tag content []) with
      link := { (s.append (.reply k.replyCode tag content [])).link with
        table := s.link.table.filter (fun e => decide (e.kind ≠ k)) } } := by
  obtain ⟨x, hx, ht⟩ := hm
  have hh : s.link.holdsTag tag = true := by
    simp only [Link.holdsTag, List.any_eq_true]
    exact ⟨x, hx, by simp [ht]⟩
  have hf : s.link.table.filter (fun e => e.tag != tag) =
      s.link.table.filter (fun e => decide (e.kind ≠ k)) := by
    apply List.filter_congr
    intro y hy
    by_cases h : y.tag = tag
    · simp [h, (hk y hy).mpr h]
    · have h' : ¬ y.kind = k := fun h' => h ((hk y hy).mp h')
      simp [h, h']
  rw [State.complete_held _ _ _ _ hh, eraseP_tag _ _ hn, hf]

/-- A completion keeps the sum of outbox entries and table entries (R144). -/
theorem State.complete_occupancy (s : State) (k : ReqKind) (tag : Byte) (inline chain : List Byte) :
    (s.complete k tag inline chain).link.occupancy = s.link.occupancy := by
  unfold State.complete
  split
  · rename_i h
    simp only [Link.holdsTag, List.any_eq_true] at h
    obtain ⟨e, he, ht⟩ := h
    have hl := List.length_eraseP_of_mem he (p := fun e => e.tag == tag) ht
    have hp : 0 < s.link.table.length := List.length_pos_of_mem he
    simp only [Link.occupancy, State.append_outbox, State.append_table, List.length_append,
      List.length_cons, List.length_nil, hl]
    omega
  · rfl

/-- A refusal at dispatch keeps the sum at 32 or below (R143). -/
theorem State.refuseDispatch_occupancy (s : State) (k tag : Byte) (body : List Byte)
    (h : s.link.occupancy ≤ 32) : (s.refuseDispatch k tag body).link.occupancy ≤ 32 := by
  unfold State.refuseDispatch
  split
  · simp only [Link.occupancy, State.append_outbox, State.append_table, List.length_append,
      List.length_cons, List.length_nil] at *
    omega
  · exact h

/-- The members of the pending set that move keep the sum at 32 or below (R154). -/
theorem State.moveNotices_occupancy (ns : List Notice) (s : State) (h : s.link.occupancy ≤ 32) :
    (s.moveNotices ns).link.occupancy ≤ 32 := by
  induction ns generalizing s with
  | nil => exact h
  | cons n ns ih =>
    unfold State.moveNotices
    split
    · apply ih
      simp only [Link.occupancy, State.append_outbox, State.append_table, List.length_append,
        List.length_cons, List.length_nil] at *
      omega
    · exact h

/-- Changing the first member that meets a condition keeps the length. -/
@[simp] theorem length_changeFirst {α : Type} (p : α → Bool) (f : α → α) (as : List α) :
    (changeFirst p f as).length = as.length := by
  induction as with
  | nil => rfl
  | cons a as ih =>
    unfold changeFirst
    split
    · rfl
    · simp [ih]

/-- An entry that is no UNSENT notice of a kind and subject. -/
theorem OutEntry.isUnsentNotice_other (i : NoticeId) (e : OutEntry)
    (h : e.sent = false → ∀ k, e.msg = .notice k → k.id ≠ i) : e.isUnsentNotice i = false := by
  unfold OutEntry.isUnsentNotice
  split
  · rename_i n hn
    cases hs : e.sent
    · simp [h hs n hn]
    · simp
  · rfl

/-- A posting with nothing of its kind and subject to update and with room is an append (R152). -/
theorem State.post_append (s : State) (n : Notice)
    (ho : ∀ x ∈ s.link.outbox, x.sent = false → ∀ k, x.msg = .notice k → k.id ≠ n.id)
    (hn : ∀ x ∈ s.link.notices, x.id ≠ n.id) (hr : s.link.occupancy < 32) :
    s.post n = s.append (.notice n) := by
  have h1 : s.link.outbox.any (OutEntry.isUnsentNotice n.id) = false := by
    rw [List.any_eq_false]
    intro x hx
    simp [OutEntry.isUnsentNotice_other n.id x (ho x hx)]
  have h2 : s.link.notices.any (fun m => m.id = n.id) = false := by
    rw [List.any_eq_false]
    intro x hx
    simpa using hn x hx
  unfold State.post
  rw [h1, h2]
  simp [hr]

/-- A posting changes the link and presence alone (R152). -/
theorem State.post_keeps (s : State) (n : Notice) :
    ∃ l p, s.post n = { s with link := l, presence := p } := by
  unfold State.post
  split
  · exact ⟨_, s.presence, rfl⟩
  · split
    · exact ⟨_, s.presence, rfl⟩
    · split
      · rw [State.append_eq]
        exact ⟨_, _, rfl⟩
      · exact ⟨_, s.presence, rfl⟩

/-- A posting keeps the sum at 32 or below (R152). -/
theorem State.post_occupancy (s : State) (n : Notice) (h : s.link.occupancy ≤ 32) :
    (s.post n).link.occupancy ≤ 32 := by
  unfold State.post
  split
  · simpa [Link.occupancy] using h
  · split
    · simpa [Link.occupancy] using h
    · split
      · simp only [Link.occupancy, State.append_outbox, State.append_table, List.length_append,
          List.length_cons, List.length_nil] at *
        omega
      · exact h

/-! ### Time and the end of a command -/

@[simp] theorem State.elapse_pins (s : State) (dt : Nat) : (s.elapse dt).pins = s.pins := by
  unfold State.elapse
  split <;> rfl

@[simp] theorem State.elapse_link (s : State) (dt : Nat) : (s.elapse dt).link = s.link := by
  unfold State.elapse
  split <;> rfl

@[simp] theorem State.elapse_presence (s : State) (dt : Nat) : (s.elapse dt).presence = s.presence := by
  unfold State.elapse
  split <;> rfl

@[simp] theorem State.elapse_pool (s : State) (dt : Nat) : (s.elapse dt).pool = s.pool := by
  unfold State.elapse
  split <;> rfl

@[simp] theorem State.elapse_pending (s : State) (dt : Nat) : (s.elapse dt).pending = s.pending := by
  unfold State.elapse
  split <;> rfl

/-- A command that ends drives the signals (R151, R164). -/
theorem done_pins (s t : State) (h : done s = .next t) : PinLaw t := by
  unfold done at h
  cases h
  exact ⟨rfl, rfl⟩

end Sys2Proof.Machine
end

