-- ==== Sys2Proof/Laws/Dispatch.lean ====
section
/-! SUPPORT. What dispatch and the end of a request do to a message that passes the checks of R142: the request
is entered, carried out and answered, and its place in the request table is given back. -/

namespace Sys2Proof.Machine

/-- The six checks of R142 let an accepted message pass. -/
theorem Accepted.status {s : State} {k : ReqKind} {tag : Byte} {body : List Byte}
    (h : Accepted s k tag body) : s.emptyBuffer.dispatchStatus k tag body = none := by
  obtain ⟨_, ht, hl, hd, ht8, ho⟩ := h
  have h1 : s.emptyBuffer.link.holdsTag tag = false := hd
  have h2 : ¬ 8 ≤ s.emptyBuffer.link.table.length := Nat.not_le.mpr ht8
  have h3 : ¬ 32 ≤ s.emptyBuffer.link.occupancy := Nat.not_le.mpr ho
  unfold State.dispatchStatus
  rw [if_neg ht, hl, h1, if_neg h2, if_neg h3]
  rfl

/-- An accepted message is handed to its block with its table entry taken (R142, R144). -/
theorem State.dispatch_accepted {s : State} {k : ReqKind} {tag : Byte} {body : List Byte}
    (h : Accepted s k tag body) (act : Byte → List Byte → State → State) :
    s.dispatch k act = act tag body (s.emptyBuffer.enterTable k tag) := by
  unfold State.dispatch
  rw [h.1]
  simp [h.status]

/-- An append does not look at the request table. -/
theorem State.append_withTable (s : State) (m : Message) (table : List TableEntry) :
    State.append { s with link := { s.link with table := table } } m =
      { s.append m with link := { (s.append m).link with table := table } } := by
  simp only [State.append_eq]

/-- A completion of the request that took the last table entry gives that entry back (R145). -/
theorem State.complete_entered (s : State) (k : ReqKind) (tag : Byte) (inline chain : List Byte)
    (h : s.link.holdsTag tag = false) :
    (s.enterTable k tag).complete k tag inline chain = s.append (.reply k.replyCode tag inline chain) := by
  have hh : (s.enterTable k tag).link.holdsTag tag = true := by
    simp [State.enterTable, Link.holdsTag]
  have he : (s.link.table ++ [(⟨tag, k⟩ : TableEntry)]).eraseP (fun e => e.tag == tag) = s.link.table := by
    rw [List.eraseP_append_right]
    · simp
    · intro b hb hbt
      simp only [Link.holdsTag, List.any_eq_false] at h
      exact h b hb hbt
  unfold State.complete
  rw [if_pos hh]
  simp only [State.enterTable, State.append_eq]
  rw [he]

/-- A refusal of the request that took the last table entry. -/
theorem State.refuse_entered (s : State) (k : ReqKind) (tag : Byte) (st : Status)
    (h : s.link.holdsTag tag = false) :
    (s.enterTable k tag).refuse k tag st = s.append (.reply k.replyCode tag [st.code] []) :=
  s.complete_entered k tag [st.code] [] h

/-- An accepted request that is refused a status is answered with it and changes nothing else. -/
theorem Accepted.refuse {s : State} {k : ReqKind} {tag : Byte} {body : List Byte}
    (h : Accepted s k tag body) (st : Status) :
    (s.emptyBuffer.enterTable k tag).refuse k tag st = s.withReply k tag [st.code] [] :=
  s.emptyBuffer.refuse_entered k tag st h.2.2.2.1

/-- An accepted request that completes at once is answered and changes nothing else. -/
theorem Accepted.complete {s : State} {k : ReqKind} {tag : Byte} {body : List Byte}
    (h : Accepted s k tag body) (inline chain : List Byte) :
    (s.emptyBuffer.enterTable k tag).complete k tag inline chain = s.withReply k tag inline chain :=
  s.emptyBuffer.complete_entered k tag inline chain h.2.2.2.1

/-- An effect that looks at no link state but the outbox leaves an accepted request's answer as it is: the reply
DONE stands after the effect, inline or in its chain (R145). -/
theorem Accepted.answer {s : State} {k : ReqKind} {tag : Byte} {body : List Byte}
    (h : Accepted s k tag body) (content : List Byte) (e : State → State)
    (he : ∀ t : State, e (t.emptyBuffer.enterTable k tag) = (e t).emptyBuffer.enterTable k tag)
    (hl : ∀ t : State, (e t).link.table = t.link.table) :
    (s.emptyBuffer.enterTable k tag).answer k tag content e = s.answered k tag content e := by
  have hd : ∀ t : State, t.link.table = s.link.table → (e t).emptyBuffer.link.holdsTag tag = false := by
    intro t ht
    have : (e t).emptyBuffer.link.table = s.link.table := (hl t).trans ht
    simpa [Link.holdsTag, this] using h.2.2.2.1
  unfold State.answer State.answered
  simp only [List.length_cons]
  split
  · rw [he, State.complete_entered (e s).emptyBuffer _ _ _ _ (hd s rfl)]
    rfl
  · have hp : (s.emptyBuffer.enterTable k tag).pool = s.pool := rfl
    rw [hp]
    split
    · have hc : (s.emptyBuffer.enterTable k tag).claim .outbox (cellsFor (content.length + 1)) =
          (s.claim .outbox (cellsFor (content.length + 1))).emptyBuffer.enterTable k tag := rfl
      rw [hc, he, State.complete_entered _ _ _ _ _ (hd (s.claim .outbox (cellsFor (content.length + 1))) rfl)]
      rfl
    · exact h.refuse .noCell

/-- An accepted request whose reply holds at most 48 bytes is answered inline after its effect. -/
theorem Accepted.answerInline {s : State} {k : ReqKind} {tag : Byte} {body : List Byte}
    (h : Accepted s k tag body) (content : List Byte) (e : State → State)
    (he : ∀ t : State, e (t.emptyBuffer.enterTable k tag) = (e t).emptyBuffer.enterTable k tag)
    (hl : ∀ t : State, (e t).link.table = t.link.table) (hc : content.length ≤ 47) :
    (s.emptyBuffer.enterTable k tag).answer k tag content e =
      (e s).withReply k tag (Status.done.code :: content) [] := by
  rw [h.answer content e he hl]
  unfold State.answered
  rw [if_pos (by omega)]
  rfl

end Sys2Proof.Machine
end

