-- ==== Sys2Proof/Laws/State.lean ====
section
/-! SUPPORT. One lemma for each block that an update of the state leaves alone, true by definition, so that no
later proof unfolds a record update. -/

namespace Sys2Proof.Machine

@[simp] theorem State.setTransmitter_pool (s : State) (t : Transmitter) : (s.setTransmitter t).pool = s.pool := rfl
@[simp] theorem State.setTransmitter_sieve (s : State) (t : Transmitter) : (s.setTransmitter t).sieve = s.sieve := rfl
@[simp] theorem State.setTransmitter_classifier (s : State) (t : Transmitter) : (s.setTransmitter t).classifier = s.classifier := rfl
@[simp] theorem State.setTransmitter_queues (s : State) (t : Transmitter) : (s.setTransmitter t).queues = s.queues := rfl
@[simp] theorem State.setTransmitter_slots (s : State) (t : Transmitter) : (s.setTransmitter t).slots = s.slots := rfl
@[simp] theorem State.setTransmitter_responder (s : State) (t : Transmitter) : (s.setTransmitter t).responder = s.responder := rfl
@[simp] theorem State.setTransmitter_sender (s : State) (t : Transmitter) : (s.setTransmitter t).sender = s.sender := rfl
@[simp] theorem State.setTransmitter_link (s : State) (t : Transmitter) : (s.setTransmitter t).link = s.link := rfl
@[simp] theorem State.setTransmitter_presence (s : State) (t : Transmitter) : (s.setTransmitter t).presence = s.presence := rfl
@[simp] theorem State.setTransmitter_pins (s : State) (t : Transmitter) : (s.setTransmitter t).pins = s.pins := rfl
@[simp] theorem State.setTransmitter_pending (s : State) (t : Transmitter) : (s.setTransmitter t).pending = s.pending := rfl

@[simp] theorem State.setReplies_line (s : State) (q : List ReplyEntry) : (s.setReplies q).line = s.line := rfl
@[simp] theorem State.setReplies_pool (s : State) (q : List ReplyEntry) : (s.setReplies q).pool = s.pool := rfl
@[simp] theorem State.setReplies_sieve (s : State) (q : List ReplyEntry) : (s.setReplies q).sieve = s.sieve := rfl
@[simp] theorem State.setReplies_classifier (s : State) (q : List ReplyEntry) : (s.setReplies q).classifier = s.classifier := rfl
@[simp] theorem State.setReplies_queues (s : State) (q : List ReplyEntry) : (s.setReplies q).queues = s.queues := rfl
@[simp] theorem State.setReplies_slots (s : State) (q : List ReplyEntry) : (s.setReplies q).slots = s.slots := rfl
@[simp] theorem State.setReplies_sender (s : State) (q : List ReplyEntry) : (s.setReplies q).sender = s.sender := rfl
@[simp] theorem State.setReplies_link (s : State) (q : List ReplyEntry) : (s.setReplies q).link = s.link := rfl
@[simp] theorem State.setReplies_presence (s : State) (q : List ReplyEntry) : (s.setReplies q).presence = s.presence := rfl
@[simp] theorem State.setReplies_pins (s : State) (q : List ReplyEntry) : (s.setReplies q).pins = s.pins := rfl
@[simp] theorem State.setReplies_pending (s : State) (q : List ReplyEntry) : (s.setReplies q).pending = s.pending := rfl

@[simp] theorem State.setSends_line (s : State) (q : List SendEntry) : (s.setSends q).line = s.line := rfl
@[simp] theorem State.setSends_pool (s : State) (q : List SendEntry) : (s.setSends q).pool = s.pool := rfl
@[simp] theorem State.setSends_sieve (s : State) (q : List SendEntry) : (s.setSends q).sieve = s.sieve := rfl
@[simp] theorem State.setSends_classifier (s : State) (q : List SendEntry) : (s.setSends q).classifier = s.classifier := rfl
@[simp] theorem State.setSends_queues (s : State) (q : List SendEntry) : (s.setSends q).queues = s.queues := rfl
@[simp] theorem State.setSends_slots (s : State) (q : List SendEntry) : (s.setSends q).slots = s.slots := rfl
@[simp] theorem State.setSends_responder (s : State) (q : List SendEntry) : (s.setSends q).responder = s.responder := rfl
@[simp] theorem State.setSends_link (s : State) (q : List SendEntry) : (s.setSends q).link = s.link := rfl
@[simp] theorem State.setSends_presence (s : State) (q : List SendEntry) : (s.setSends q).presence = s.presence := rfl
@[simp] theorem State.setSends_pins (s : State) (q : List SendEntry) : (s.setSends q).pins = s.pins := rfl
@[simp] theorem State.setSends_pending (s : State) (q : List SendEntry) : (s.setSends q).pending = s.pending := rfl

@[simp] theorem State.setReplyCounters_line (s : State) (c : ResponderCounters) : (s.setReplyCounters c).line = s.line := rfl
@[simp] theorem State.setReplyCounters_pool (s : State) (c : ResponderCounters) : (s.setReplyCounters c).pool = s.pool := rfl
@[simp] theorem State.setReplyCounters_sieve (s : State) (c : ResponderCounters) : (s.setReplyCounters c).sieve = s.sieve := rfl
@[simp] theorem State.setReplyCounters_classifier (s : State) (c : ResponderCounters) : (s.setReplyCounters c).classifier = s.classifier := rfl
@[simp] theorem State.setReplyCounters_queues (s : State) (c : ResponderCounters) : (s.setReplyCounters c).queues = s.queues := rfl
@[simp] theorem State.setReplyCounters_slots (s : State) (c : ResponderCounters) : (s.setReplyCounters c).slots = s.slots := rfl
@[simp] theorem State.setReplyCounters_sender (s : State) (c : ResponderCounters) : (s.setReplyCounters c).sender = s.sender := rfl
@[simp] theorem State.setReplyCounters_link (s : State) (c : ResponderCounters) : (s.setReplyCounters c).link = s.link := rfl
@[simp] theorem State.setReplyCounters_presence (s : State) (c : ResponderCounters) : (s.setReplyCounters c).presence = s.presence := rfl
@[simp] theorem State.setReplyCounters_pins (s : State) (c : ResponderCounters) : (s.setReplyCounters c).pins = s.pins := rfl
@[simp] theorem State.setReplyCounters_pending (s : State) (c : ResponderCounters) : (s.setReplyCounters c).pending = s.pending := rfl

@[simp] theorem State.setLineCounters_pool (s : State) (c : LineCounters) : (s.setLineCounters c).pool = s.pool := rfl
@[simp] theorem State.setLineCounters_sieve (s : State) (c : LineCounters) : (s.setLineCounters c).sieve = s.sieve := rfl
@[simp] theorem State.setLineCounters_classifier (s : State) (c : LineCounters) : (s.setLineCounters c).classifier = s.classifier := rfl
@[simp] theorem State.setLineCounters_queues (s : State) (c : LineCounters) : (s.setLineCounters c).queues = s.queues := rfl
@[simp] theorem State.setLineCounters_slots (s : State) (c : LineCounters) : (s.setLineCounters c).slots = s.slots := rfl
@[simp] theorem State.setLineCounters_responder (s : State) (c : LineCounters) : (s.setLineCounters c).responder = s.responder := rfl
@[simp] theorem State.setLineCounters_sender (s : State) (c : LineCounters) : (s.setLineCounters c).sender = s.sender := rfl
@[simp] theorem State.setLineCounters_link (s : State) (c : LineCounters) : (s.setLineCounters c).link = s.link := rfl
@[simp] theorem State.setLineCounters_presence (s : State) (c : LineCounters) : (s.setLineCounters c).presence = s.presence := rfl
@[simp] theorem State.setLineCounters_pins (s : State) (c : LineCounters) : (s.setLineCounters c).pins = s.pins := rfl
@[simp] theorem State.setLineCounters_pending (s : State) (c : LineCounters) : (s.setLineCounters c).pending = s.pending := rfl

@[simp] theorem State.setReceiver_pool (s : State) (r : Receiver) : (s.setReceiver r).pool = s.pool := rfl
@[simp] theorem State.setReceiver_sieve (s : State) (r : Receiver) : (s.setReceiver r).sieve = s.sieve := rfl
@[simp] theorem State.setReceiver_classifier (s : State) (r : Receiver) : (s.setReceiver r).classifier = s.classifier := rfl
@[simp] theorem State.setReceiver_queues (s : State) (r : Receiver) : (s.setReceiver r).queues = s.queues := rfl
@[simp] theorem State.setReceiver_slots (s : State) (r : Receiver) : (s.setReceiver r).slots = s.slots := rfl
@[simp] theorem State.setReceiver_responder (s : State) (r : Receiver) : (s.setReceiver r).responder = s.responder := rfl
@[simp] theorem State.setReceiver_sender (s : State) (r : Receiver) : (s.setReceiver r).sender = s.sender := rfl
@[simp] theorem State.setReceiver_link (s : State) (r : Receiver) : (s.setReceiver r).link = s.link := rfl
@[simp] theorem State.setReceiver_presence (s : State) (r : Receiver) : (s.setReceiver r).presence = s.presence := rfl
@[simp] theorem State.setReceiver_pins (s : State) (r : Receiver) : (s.setReceiver r).pins = s.pins := rfl
@[simp] theorem State.setReceiver_pending (s : State) (r : Receiver) : (s.setReceiver r).pending = s.pending := rfl

@[simp] theorem State.setLineGap_pool (s : State) (p : Nat) : (s.setLineGap p).pool = s.pool := rfl
@[simp] theorem State.setLineGap_sieve (s : State) (p : Nat) : (s.setLineGap p).sieve = s.sieve := rfl
@[simp] theorem State.setLineGap_classifier (s : State) (p : Nat) : (s.setLineGap p).classifier = s.classifier := rfl
@[simp] theorem State.setLineGap_queues (s : State) (p : Nat) : (s.setLineGap p).queues = s.queues := rfl
@[simp] theorem State.setLineGap_slots (s : State) (p : Nat) : (s.setLineGap p).slots = s.slots := rfl
@[simp] theorem State.setLineGap_responder (s : State) (p : Nat) : (s.setLineGap p).responder = s.responder := rfl
@[simp] theorem State.setLineGap_sender (s : State) (p : Nat) : (s.setLineGap p).sender = s.sender := rfl
@[simp] theorem State.setLineGap_link (s : State) (p : Nat) : (s.setLineGap p).link = s.link := rfl
@[simp] theorem State.setLineGap_presence (s : State) (p : Nat) : (s.setLineGap p).presence = s.presence := rfl
@[simp] theorem State.setLineGap_pins (s : State) (p : Nat) : (s.setLineGap p).pins = s.pins := rfl
@[simp] theorem State.setLineGap_pending (s : State) (p : Nat) : (s.setLineGap p).pending = s.pending := rfl

@[simp] theorem State.setQueue_line (s : State) (q : Fin 4) (d : DeliveryQueue) : (s.setQueue q d).line = s.line := rfl
@[simp] theorem State.setQueue_pool (s : State) (q : Fin 4) (d : DeliveryQueue) : (s.setQueue q d).pool = s.pool := rfl
@[simp] theorem State.setQueue_sieve (s : State) (q : Fin 4) (d : DeliveryQueue) : (s.setQueue q d).sieve = s.sieve := rfl
@[simp] theorem State.setQueue_classifier (s : State) (q : Fin 4) (d : DeliveryQueue) : (s.setQueue q d).classifier = s.classifier := rfl
@[simp] theorem State.setQueue_slots (s : State) (q : Fin 4) (d : DeliveryQueue) : (s.setQueue q d).slots = s.slots := rfl
@[simp] theorem State.setQueue_responder (s : State) (q : Fin 4) (d : DeliveryQueue) : (s.setQueue q d).responder = s.responder := rfl
@[simp] theorem State.setQueue_sender (s : State) (q : Fin 4) (d : DeliveryQueue) : (s.setQueue q d).sender = s.sender := rfl
@[simp] theorem State.setQueue_link (s : State) (q : Fin 4) (d : DeliveryQueue) : (s.setQueue q d).link = s.link := rfl
@[simp] theorem State.setQueue_presence (s : State) (q : Fin 4) (d : DeliveryQueue) : (s.setQueue q d).presence = s.presence := rfl
@[simp] theorem State.setQueue_pins (s : State) (q : Fin 4) (d : DeliveryQueue) : (s.setQueue q d).pins = s.pins := rfl
@[simp] theorem State.setQueue_pending (s : State) (q : Fin 4) (d : DeliveryQueue) : (s.setQueue q d).pending = s.pending := rfl

@[simp] theorem State.setQueueCounters_line (s : State) (q : Fin 4) (c : QueueCounters) : (s.setQueueCounters q c).line = s.line := rfl
@[simp] theorem State.setQueueCounters_pool (s : State) (q : Fin 4) (c : QueueCounters) : (s.setQueueCounters q c).pool = s.pool := rfl
@[simp] theorem State.setQueueCounters_sieve (s : State) (q : Fin 4) (c : QueueCounters) : (s.setQueueCounters q c).sieve = s.sieve := rfl
@[simp] theorem State.setQueueCounters_classifier (s : State) (q : Fin 4) (c : QueueCounters) : (s.setQueueCounters q c).classifier = s.classifier := rfl
@[simp] theorem State.setQueueCounters_slots (s : State) (q : Fin 4) (c : QueueCounters) : (s.setQueueCounters q c).slots = s.slots := rfl
@[simp] theorem State.setQueueCounters_responder (s : State) (q : Fin 4) (c : QueueCounters) : (s.setQueueCounters q c).responder = s.responder := rfl
@[simp] theorem State.setQueueCounters_sender (s : State) (q : Fin 4) (c : QueueCounters) : (s.setQueueCounters q c).sender = s.sender := rfl
@[simp] theorem State.setQueueCounters_link (s : State) (q : Fin 4) (c : QueueCounters) : (s.setQueueCounters q c).link = s.link := rfl
@[simp] theorem State.setQueueCounters_presence (s : State) (q : Fin 4) (c : QueueCounters) : (s.setQueueCounters q c).presence = s.presence := rfl
@[simp] theorem State.setQueueCounters_pins (s : State) (q : Fin 4) (c : QueueCounters) : (s.setQueueCounters q c).pins = s.pins := rfl
@[simp] theorem State.setQueueCounters_pending (s : State) (q : Fin 4) (c : QueueCounters) : (s.setQueueCounters q c).pending = s.pending := rfl

@[simp] theorem State.setSlot_line (s : State) (n : Fin 16) (v : Slot) : (s.setSlot n v).line = s.line := rfl
@[simp] theorem State.setSlot_pool (s : State) (n : Fin 16) (v : Slot) : (s.setSlot n v).pool = s.pool := rfl
@[simp] theorem State.setSlot_sieve (s : State) (n : Fin 16) (v : Slot) : (s.setSlot n v).sieve = s.sieve := rfl
@[simp] theorem State.setSlot_classifier (s : State) (n : Fin 16) (v : Slot) : (s.setSlot n v).classifier = s.classifier := rfl
@[simp] theorem State.setSlot_queues (s : State) (n : Fin 16) (v : Slot) : (s.setSlot n v).queues = s.queues := rfl
@[simp] theorem State.setSlot_responder (s : State) (n : Fin 16) (v : Slot) : (s.setSlot n v).responder = s.responder := rfl
@[simp] theorem State.setSlot_sender (s : State) (n : Fin 16) (v : Slot) : (s.setSlot n v).sender = s.sender := rfl
@[simp] theorem State.setSlot_link (s : State) (n : Fin 16) (v : Slot) : (s.setSlot n v).link = s.link := rfl
@[simp] theorem State.setSlot_presence (s : State) (n : Fin 16) (v : Slot) : (s.setSlot n v).presence = s.presence := rfl
@[simp] theorem State.setSlot_pins (s : State) (n : Fin 16) (v : Slot) : (s.setSlot n v).pins = s.pins := rfl
@[simp] theorem State.setSlot_pending (s : State) (n : Fin 16) (v : Slot) : (s.setSlot n v).pending = s.pending := rfl

@[simp] theorem State.setTemplate_line (s : State) (n : Fin 16) (t : Template) : (s.setTemplate n t).line = s.line := rfl
@[simp] theorem State.setTemplate_pool (s : State) (n : Fin 16) (t : Template) : (s.setTemplate n t).pool = s.pool := rfl
@[simp] theorem State.setTemplate_sieve (s : State) (n : Fin 16) (t : Template) : (s.setTemplate n t).sieve = s.sieve := rfl
@[simp] theorem State.setTemplate_classifier (s : State) (n : Fin 16) (t : Template) : (s.setTemplate n t).classifier = s.classifier := rfl
@[simp] theorem State.setTemplate_queues (s : State) (n : Fin 16) (t : Template) : (s.setTemplate n t).queues = s.queues := rfl
@[simp] theorem State.setTemplate_slots (s : State) (n : Fin 16) (t : Template) : (s.setTemplate n t).slots = s.slots := rfl
@[simp] theorem State.setTemplate_sender (s : State) (n : Fin 16) (t : Template) : (s.setTemplate n t).sender = s.sender := rfl
@[simp] theorem State.setTemplate_link (s : State) (n : Fin 16) (t : Template) : (s.setTemplate n t).link = s.link := rfl
@[simp] theorem State.setTemplate_presence (s : State) (n : Fin 16) (t : Template) : (s.setTemplate n t).presence = s.presence := rfl
@[simp] theorem State.setTemplate_pins (s : State) (n : Fin 16) (t : Template) : (s.setTemplate n t).pins = s.pins := rfl
@[simp] theorem State.setTemplate_pending (s : State) (n : Fin 16) (t : Template) : (s.setTemplate n t).pending = s.pending := rfl

@[simp] theorem State.setStaged_line (s : State) (b : Bank) : (s.setStaged b).line = s.line := rfl
@[simp] theorem State.setStaged_pool (s : State) (b : Bank) : (s.setStaged b).pool = s.pool := rfl
@[simp] theorem State.setStaged_classifier (s : State) (b : Bank) : (s.setStaged b).classifier = s.classifier := rfl
@[simp] theorem State.setStaged_queues (s : State) (b : Bank) : (s.setStaged b).queues = s.queues := rfl
@[simp] theorem State.setStaged_slots (s : State) (b : Bank) : (s.setStaged b).slots = s.slots := rfl
@[simp] theorem State.setStaged_responder (s : State) (b : Bank) : (s.setStaged b).responder = s.responder := rfl
@[simp] theorem State.setStaged_sender (s : State) (b : Bank) : (s.setStaged b).sender = s.sender := rfl
@[simp] theorem State.setStaged_link (s : State) (b : Bank) : (s.setStaged b).link = s.link := rfl
@[simp] theorem State.setStaged_presence (s : State) (b : Bank) : (s.setStaged b).presence = s.presence := rfl
@[simp] theorem State.setStaged_pins (s : State) (b : Bank) : (s.setStaged b).pins = s.pins := rfl
@[simp] theorem State.setStaged_pending (s : State) (b : Bank) : (s.setStaged b).pending = s.pending := rfl

@[simp] theorem State.setClassifierCounters_line (s : State) (c : ClassifierCounters) : (s.setClassifierCounters c).line = s.line := rfl
@[simp] theorem State.setClassifierCounters_pool (s : State) (c : ClassifierCounters) : (s.setClassifierCounters c).pool = s.pool := rfl
@[simp] theorem State.setClassifierCounters_sieve (s : State) (c : ClassifierCounters) : (s.setClassifierCounters c).sieve = s.sieve := rfl
@[simp] theorem State.setClassifierCounters_queues (s : State) (c : ClassifierCounters) : (s.setClassifierCounters c).queues = s.queues := rfl
@[simp] theorem State.setClassifierCounters_slots (s : State) (c : ClassifierCounters) : (s.setClassifierCounters c).slots = s.slots := rfl
@[simp] theorem State.setClassifierCounters_responder (s : State) (c : ClassifierCounters) : (s.setClassifierCounters c).responder = s.responder := rfl
@[simp] theorem State.setClassifierCounters_sender (s : State) (c : ClassifierCounters) : (s.setClassifierCounters c).sender = s.sender := rfl
@[simp] theorem State.setClassifierCounters_link (s : State) (c : ClassifierCounters) : (s.setClassifierCounters c).link = s.link := rfl
@[simp] theorem State.setClassifierCounters_presence (s : State) (c : ClassifierCounters) : (s.setClassifierCounters c).presence = s.presence := rfl
@[simp] theorem State.setClassifierCounters_pins (s : State) (c : ClassifierCounters) : (s.setClassifierCounters c).pins = s.pins := rfl
@[simp] theorem State.setClassifierCounters_pending (s : State) (c : ClassifierCounters) : (s.setClassifierCounters c).pending = s.pending := rfl

@[simp] theorem State.setLinkCounters_line (s : State) (c : LinkCounters) : (s.setLinkCounters c).line = s.line := rfl
@[simp] theorem State.setLinkCounters_pool (s : State) (c : LinkCounters) : (s.setLinkCounters c).pool = s.pool := rfl
@[simp] theorem State.setLinkCounters_sieve (s : State) (c : LinkCounters) : (s.setLinkCounters c).sieve = s.sieve := rfl
@[simp] theorem State.setLinkCounters_classifier (s : State) (c : LinkCounters) : (s.setLinkCounters c).classifier = s.classifier := rfl
@[simp] theorem State.setLinkCounters_queues (s : State) (c : LinkCounters) : (s.setLinkCounters c).queues = s.queues := rfl
@[simp] theorem State.setLinkCounters_slots (s : State) (c : LinkCounters) : (s.setLinkCounters c).slots = s.slots := rfl
@[simp] theorem State.setLinkCounters_responder (s : State) (c : LinkCounters) : (s.setLinkCounters c).responder = s.responder := rfl
@[simp] theorem State.setLinkCounters_sender (s : State) (c : LinkCounters) : (s.setLinkCounters c).sender = s.sender := rfl
@[simp] theorem State.setLinkCounters_presence (s : State) (c : LinkCounters) : (s.setLinkCounters c).presence = s.presence := rfl
@[simp] theorem State.setLinkCounters_pins (s : State) (c : LinkCounters) : (s.setLinkCounters c).pins = s.pins := rfl
@[simp] theorem State.setLinkCounters_pending (s : State) (c : LinkCounters) : (s.setLinkCounters c).pending = s.pending := rfl

@[simp] theorem State.setExchange_line (s : State) (e : Exchange) : (s.setExchange e).line = s.line := rfl
@[simp] theorem State.setExchange_pool (s : State) (e : Exchange) : (s.setExchange e).pool = s.pool := rfl
@[simp] theorem State.setExchange_sieve (s : State) (e : Exchange) : (s.setExchange e).sieve = s.sieve := rfl
@[simp] theorem State.setExchange_classifier (s : State) (e : Exchange) : (s.setExchange e).classifier = s.classifier := rfl
@[simp] theorem State.setExchange_queues (s : State) (e : Exchange) : (s.setExchange e).queues = s.queues := rfl
@[simp] theorem State.setExchange_slots (s : State) (e : Exchange) : (s.setExchange e).slots = s.slots := rfl
@[simp] theorem State.setExchange_responder (s : State) (e : Exchange) : (s.setExchange e).responder = s.responder := rfl
@[simp] theorem State.setExchange_sender (s : State) (e : Exchange) : (s.setExchange e).sender = s.sender := rfl
@[simp] theorem State.setExchange_presence (s : State) (e : Exchange) : (s.setExchange e).presence = s.presence := rfl
@[simp] theorem State.setExchange_pins (s : State) (e : Exchange) : (s.setExchange e).pins = s.pins := rfl
@[simp] theorem State.setExchange_pending (s : State) (e : Exchange) : (s.setExchange e).pending = s.pending := rfl

@[simp] theorem State.emptyBuffer_line (s : State) : s.emptyBuffer.line = s.line := rfl
@[simp] theorem State.emptyBuffer_pool (s : State) : s.emptyBuffer.pool = s.pool := rfl
@[simp] theorem State.emptyBuffer_sieve (s : State) : s.emptyBuffer.sieve = s.sieve := rfl
@[simp] theorem State.emptyBuffer_classifier (s : State) : s.emptyBuffer.classifier = s.classifier := rfl
@[simp] theorem State.emptyBuffer_queues (s : State) : s.emptyBuffer.queues = s.queues := rfl
@[simp] theorem State.emptyBuffer_slots (s : State) : s.emptyBuffer.slots = s.slots := rfl
@[simp] theorem State.emptyBuffer_responder (s : State) : s.emptyBuffer.responder = s.responder := rfl
@[simp] theorem State.emptyBuffer_sender (s : State) : s.emptyBuffer.sender = s.sender := rfl
@[simp] theorem State.emptyBuffer_presence (s : State) : s.emptyBuffer.presence = s.presence := rfl
@[simp] theorem State.emptyBuffer_pins (s : State) : s.emptyBuffer.pins = s.pins := rfl
@[simp] theorem State.emptyBuffer_pending (s : State) : s.emptyBuffer.pending = s.pending := rfl

@[simp] theorem State.enterTable_line (s : State) (k : ReqKind) (tag : Byte) : (s.enterTable k tag).line = s.line := rfl
@[simp] theorem State.enterTable_pool (s : State) (k : ReqKind) (tag : Byte) : (s.enterTable k tag).pool = s.pool := rfl
@[simp] theorem State.enterTable_sieve (s : State) (k : ReqKind) (tag : Byte) : (s.enterTable k tag).sieve = s.sieve := rfl
@[simp] theorem State.enterTable_classifier (s : State) (k : ReqKind) (tag : Byte) : (s.enterTable k tag).classifier = s.classifier := rfl
@[simp] theorem State.enterTable_queues (s : State) (k : ReqKind) (tag : Byte) : (s.enterTable k tag).queues = s.queues := rfl
@[simp] theorem State.enterTable_slots (s : State) (k : ReqKind) (tag : Byte) : (s.enterTable k tag).slots = s.slots := rfl
@[simp] theorem State.enterTable_responder (s : State) (k : ReqKind) (tag : Byte) : (s.enterTable k tag).responder = s.responder := rfl
@[simp] theorem State.enterTable_sender (s : State) (k : ReqKind) (tag : Byte) : (s.enterTable k tag).sender = s.sender := rfl
@[simp] theorem State.enterTable_presence (s : State) (k : ReqKind) (tag : Byte) : (s.enterTable k tag).presence = s.presence := rfl
@[simp] theorem State.enterTable_pins (s : State) (k : ReqKind) (tag : Byte) : (s.enterTable k tag).pins = s.pins := rfl
@[simp] theorem State.enterTable_pending (s : State) (k : ReqKind) (tag : Byte) : (s.enterTable k tag).pending = s.pending := rfl

@[simp] theorem State.claim_line (s : State) (h : Holder) (c : Nat) : (s.claim h c).line = s.line := rfl
@[simp] theorem State.claim_sieve (s : State) (h : Holder) (c : Nat) : (s.claim h c).sieve = s.sieve := rfl
@[simp] theorem State.claim_classifier (s : State) (h : Holder) (c : Nat) : (s.claim h c).classifier = s.classifier := rfl
@[simp] theorem State.claim_queues (s : State) (h : Holder) (c : Nat) : (s.claim h c).queues = s.queues := rfl
@[simp] theorem State.claim_slots (s : State) (h : Holder) (c : Nat) : (s.claim h c).slots = s.slots := rfl
@[simp] theorem State.claim_responder (s : State) (h : Holder) (c : Nat) : (s.claim h c).responder = s.responder := rfl
@[simp] theorem State.claim_sender (s : State) (h : Holder) (c : Nat) : (s.claim h c).sender = s.sender := rfl
@[simp] theorem State.claim_link (s : State) (h : Holder) (c : Nat) : (s.claim h c).link = s.link := rfl
@[simp] theorem State.claim_presence (s : State) (h : Holder) (c : Nat) : (s.claim h c).presence = s.presence := rfl
@[simp] theorem State.claim_pins (s : State) (h : Holder) (c : Nat) : (s.claim h c).pins = s.pins := rfl
@[simp] theorem State.claim_pending (s : State) (h : Holder) (c : Nat) : (s.claim h c).pending = s.pending := rfl

@[simp] theorem State.release_line (s : State) (h : Holder) (c : Nat) : (s.release h c).line = s.line := rfl
@[simp] theorem State.release_sieve (s : State) (h : Holder) (c : Nat) : (s.release h c).sieve = s.sieve := rfl
@[simp] theorem State.release_classifier (s : State) (h : Holder) (c : Nat) : (s.release h c).classifier = s.classifier := rfl
@[simp] theorem State.release_queues (s : State) (h : Holder) (c : Nat) : (s.release h c).queues = s.queues := rfl
@[simp] theorem State.release_slots (s : State) (h : Holder) (c : Nat) : (s.release h c).slots = s.slots := rfl
@[simp] theorem State.release_responder (s : State) (h : Holder) (c : Nat) : (s.release h c).responder = s.responder := rfl
@[simp] theorem State.release_sender (s : State) (h : Holder) (c : Nat) : (s.release h c).sender = s.sender := rfl
@[simp] theorem State.release_link (s : State) (h : Holder) (c : Nat) : (s.release h c).link = s.link := rfl
@[simp] theorem State.release_presence (s : State) (h : Holder) (c : Nat) : (s.release h c).presence = s.presence := rfl
@[simp] theorem State.release_pins (s : State) (h : Holder) (c : Nat) : (s.release h c).pins = s.pins := rfl
@[simp] theorem State.release_pending (s : State) (h : Holder) (c : Nat) : (s.release h c).pending = s.pending := rfl

@[simp] theorem State.moveCells_line (s : State) (a b : Holder) (c : Nat) : (s.moveCells a b c).line = s.line := rfl
@[simp] theorem State.moveCells_sieve (s : State) (a b : Holder) (c : Nat) : (s.moveCells a b c).sieve = s.sieve := rfl
@[simp] theorem State.moveCells_classifier (s : State) (a b : Holder) (c : Nat) : (s.moveCells a b c).classifier = s.classifier := rfl
@[simp] theorem State.moveCells_queues (s : State) (a b : Holder) (c : Nat) : (s.moveCells a b c).queues = s.queues := rfl
@[simp] theorem State.moveCells_slots (s : State) (a b : Holder) (c : Nat) : (s.moveCells a b c).slots = s.slots := rfl
@[simp] theorem State.moveCells_responder (s : State) (a b : Holder) (c : Nat) : (s.moveCells a b c).responder = s.responder := rfl
@[simp] theorem State.moveCells_sender (s : State) (a b : Holder) (c : Nat) : (s.moveCells a b c).sender = s.sender := rfl
@[simp] theorem State.moveCells_link (s : State) (a b : Holder) (c : Nat) : (s.moveCells a b c).link = s.link := rfl
@[simp] theorem State.moveCells_presence (s : State) (a b : Holder) (c : Nat) : (s.moveCells a b c).presence = s.presence := rfl
@[simp] theorem State.moveCells_pins (s : State) (a b : Holder) (c : Nat) : (s.moveCells a b c).pins = s.pins := rfl
@[simp] theorem State.moveCells_pending (s : State) (a b : Holder) (c : Nat) : (s.moveCells a b c).pending = s.pending := rfl

@[simp] theorem State.give_line (s : State) (c : Cause) : (s.give c).line = s.line := rfl
@[simp] theorem State.give_pool (s : State) (c : Cause) : (s.give c).pool = s.pool := rfl
@[simp] theorem State.give_sieve (s : State) (c : Cause) : (s.give c).sieve = s.sieve := rfl
@[simp] theorem State.give_classifier (s : State) (c : Cause) : (s.give c).classifier = s.classifier := rfl
@[simp] theorem State.give_queues (s : State) (c : Cause) : (s.give c).queues = s.queues := rfl
@[simp] theorem State.give_slots (s : State) (c : Cause) : (s.give c).slots = s.slots := rfl
@[simp] theorem State.give_responder (s : State) (c : Cause) : (s.give c).responder = s.responder := rfl
@[simp] theorem State.give_sender (s : State) (c : Cause) : (s.give c).sender = s.sender := rfl
@[simp] theorem State.give_link (s : State) (c : Cause) : (s.give c).link = s.link := rfl
@[simp] theorem State.give_pins (s : State) (c : Cause) : (s.give c).pins = s.pins := rfl
@[simp] theorem State.give_pending (s : State) (c : Cause) : (s.give c).pending = s.pending := rfl

@[simp] theorem State.shiftOut_line (s : State) (bs : List Byte) : (s.shiftOut bs).line = s.line := rfl
@[simp] theorem State.shiftOut_pool (s : State) (bs : List Byte) : (s.shiftOut bs).pool = s.pool := rfl
@[simp] theorem State.shiftOut_sieve (s : State) (bs : List Byte) : (s.shiftOut bs).sieve = s.sieve := rfl
@[simp] theorem State.shiftOut_classifier (s : State) (bs : List Byte) : (s.shiftOut bs).classifier = s.classifier := rfl
@[simp] theorem State.shiftOut_queues (s : State) (bs : List Byte) : (s.shiftOut bs).queues = s.queues := rfl
@[simp] theorem State.shiftOut_slots (s : State) (bs : List Byte) : (s.shiftOut bs).slots = s.slots := rfl
@[simp] theorem State.shiftOut_responder (s : State) (bs : List Byte) : (s.shiftOut bs).responder = s.responder := rfl
@[simp] theorem State.shiftOut_sender (s : State) (bs : List Byte) : (s.shiftOut bs).sender = s.sender := rfl
@[simp] theorem State.shiftOut_link (s : State) (bs : List Byte) : (s.shiftOut bs).link = s.link := rfl
@[simp] theorem State.shiftOut_presence (s : State) (bs : List Byte) : (s.shiftOut bs).presence = s.presence := rfl
@[simp] theorem State.shiftOut_pending (s : State) (bs : List Byte) : (s.shiftOut bs).pending = s.pending := rfl

@[simp] theorem State.drivePins_line (s : State) : s.drivePins.line = s.line := rfl
@[simp] theorem State.drivePins_pool (s : State) : s.drivePins.pool = s.pool := rfl
@[simp] theorem State.drivePins_sieve (s : State) : s.drivePins.sieve = s.sieve := rfl
@[simp] theorem State.drivePins_classifier (s : State) : s.drivePins.classifier = s.classifier := rfl
@[simp] theorem State.drivePins_queues (s : State) : s.drivePins.queues = s.queues := rfl
@[simp] theorem State.drivePins_slots (s : State) : s.drivePins.slots = s.slots := rfl
@[simp] theorem State.drivePins_responder (s : State) : s.drivePins.responder = s.responder := rfl
@[simp] theorem State.drivePins_sender (s : State) : s.drivePins.sender = s.sender := rfl
@[simp] theorem State.drivePins_link (s : State) : s.drivePins.link = s.link := rfl
@[simp] theorem State.drivePins_presence (s : State) : s.drivePins.presence = s.presence := rfl
@[simp] theorem State.drivePins_pending (s : State) : s.drivePins.pending = s.pending := rfl

@[simp] theorem State.clearHits_line (s : State) (first count : Nat) (o : Bool) : (s.clearHits first count o).line = s.line := by
  unfold State.clearHits
  rfl
@[simp] theorem State.clearHits_pool (s : State) (first count : Nat) (o : Bool) : (s.clearHits first count o).pool = s.pool := by
  unfold State.clearHits
  rfl
@[simp] theorem State.clearHits_sieve (s : State) (first count : Nat) (o : Bool) : (s.clearHits first count o).sieve = s.sieve := by
  unfold State.clearHits
  rfl
@[simp] theorem State.clearHits_queues (s : State) (first count : Nat) (o : Bool) : (s.clearHits first count o).queues = s.queues := by
  unfold State.clearHits
  rfl
@[simp] theorem State.clearHits_slots (s : State) (first count : Nat) (o : Bool) : (s.clearHits first count o).slots = s.slots := by
  unfold State.clearHits
  rfl
@[simp] theorem State.clearHits_responder (s : State) (first count : Nat) (o : Bool) : (s.clearHits first count o).responder = s.responder := by
  unfold State.clearHits
  rfl
@[simp] theorem State.clearHits_sender (s : State) (first count : Nat) (o : Bool) : (s.clearHits first count o).sender = s.sender := by
  unfold State.clearHits
  rfl
@[simp] theorem State.clearHits_link (s : State) (first count : Nat) (o : Bool) : (s.clearHits first count o).link = s.link := by
  unfold State.clearHits
  rfl
@[simp] theorem State.clearHits_presence (s : State) (first count : Nat) (o : Bool) : (s.clearHits first count o).presence = s.presence := by
  unfold State.clearHits
  rfl
@[simp] theorem State.clearHits_pins (s : State) (first count : Nat) (o : Bool) : (s.clearHits first count o).pins = s.pins := by
  unfold State.clearHits
  rfl
@[simp] theorem State.clearHits_pending (s : State) (first count : Nat) (o : Bool) : (s.clearHits first count o).pending = s.pending := by
  unfold State.clearHits
  rfl

@[simp] theorem State.removeRecords_line (s : State) (q : Fin 4) (kept removed : List Record) : (s.removeRecords q kept removed).line = s.line := rfl
@[simp] theorem State.removeRecords_sieve (s : State) (q : Fin 4) (kept removed : List Record) : (s.removeRecords q kept removed).sieve = s.sieve := rfl
@[simp] theorem State.removeRecords_classifier (s : State) (q : Fin 4) (kept removed : List Record) : (s.removeRecords q kept removed).classifier = s.classifier := rfl
@[simp] theorem State.removeRecords_slots (s : State) (q : Fin 4) (kept removed : List Record) : (s.removeRecords q kept removed).slots = s.slots := rfl
@[simp] theorem State.removeRecords_responder (s : State) (q : Fin 4) (kept removed : List Record) : (s.removeRecords q kept removed).responder = s.responder := rfl
@[simp] theorem State.removeRecords_sender (s : State) (q : Fin 4) (kept removed : List Record) : (s.removeRecords q kept removed).sender = s.sender := rfl
@[simp] theorem State.removeRecords_link (s : State) (q : Fin 4) (kept removed : List Record) : (s.removeRecords q kept removed).link = s.link := rfl
@[simp] theorem State.removeRecords_presence (s : State) (q : Fin 4) (kept removed : List Record) : (s.removeRecords q kept removed).presence = s.presence := rfl
@[simp] theorem State.removeRecords_pins (s : State) (q : Fin 4) (kept removed : List Record) : (s.removeRecords q kept removed).pins = s.pins := rfl
@[simp] theorem State.removeRecords_pending (s : State) (q : Fin 4) (kept removed : List Record) : (s.removeRecords q kept removed).pending = s.pending := rfl

end Sys2Proof.Machine
end

