-- ==== Sys2Proof/Laws/Frames.lean ====
section
/-! SUPPORT. What each shared operation leaves alone: one lemma for each block of the state that the operation
does not change, so that a proof about a block passes over the operations that do not touch it. -/

namespace Sys2Proof.Machine

/-! ### Time (R23) -/

@[simp] theorem State.elapse_sieve (s : State) (dt : Nat) :
    (s.elapse dt).sieve = s.sieve := by
  unfold State.elapse
  repeat' split
  all_goals simp

@[simp] theorem State.elapse_classifier (s : State) (dt : Nat) :
    (s.elapse dt).classifier = s.classifier := by
  unfold State.elapse
  repeat' split
  all_goals simp

@[simp] theorem State.elapse_queues (s : State) (dt : Nat) :
    (s.elapse dt).queues = s.queues := by
  unfold State.elapse
  repeat' split
  all_goals simp

@[simp] theorem State.elapse_slots (s : State) (dt : Nat) :
    (s.elapse dt).slots = s.slots := by
  unfold State.elapse
  repeat' split
  all_goals simp

@[simp] theorem State.elapse_responder (s : State) (dt : Nat) :
    (s.elapse dt).responder = s.responder := by
  unfold State.elapse
  repeat' split
  all_goals simp

@[simp] theorem State.elapse_sender (s : State) (dt : Nat) :
    (s.elapse dt).sender = s.sender := by
  unfold State.elapse
  repeat' split
  all_goals simp

@[simp] theorem State.elapse_line_mode (s : State) (dt : Nat) :
    (s.elapse dt).line.mode = s.line.mode := by
  unfold State.elapse Line.elapse
  repeat' split
  all_goals rfl

@[simp] theorem State.elapse_line_resume (s : State) (dt : Nat) :
    (s.elapse dt).line.resume = s.line.resume := by
  unfold State.elapse Line.elapse
  repeat' split
  all_goals rfl

@[simp] theorem State.elapse_line_rate (s : State) (dt : Nat) :
    (s.elapse dt).line.rate = s.line.rate := by
  unfold State.elapse Line.elapse
  repeat' split
  all_goals rfl

@[simp] theorem State.elapse_line_own (s : State) (dt : Nat) :
    (s.elapse dt).line.own = s.line.own := by
  unfold State.elapse Line.elapse
  repeat' split
  all_goals rfl

@[simp] theorem State.elapse_line_group (s : State) (dt : Nat) :
    (s.elapse dt).line.group = s.line.group := by
  unfold State.elapse Line.elapse
  repeat' split
  all_goals rfl

@[simp] theorem State.elapse_line_receiver (s : State) (dt : Nat) :
    (s.elapse dt).line.receiver = s.line.receiver := by
  unfold State.elapse Line.elapse
  repeat' split
  all_goals rfl

@[simp] theorem State.elapse_line_transmitter (s : State) (dt : Nat) :
    (s.elapse dt).line.transmitter = s.line.transmitter := by
  unfold State.elapse Line.elapse
  repeat' split
  all_goals rfl

@[simp] theorem State.elapse_line_slot (s : State) (dt : Nat) :
    (s.elapse dt).line.slot = s.line.slot := by
  unfold State.elapse Line.elapse
  repeat' split
  all_goals rfl

@[simp] theorem State.elapse_line_gap (s : State) (dt : Nat) :
    (s.elapse dt).line.gap = s.line.gap := by
  unfold State.elapse Line.elapse
  repeat' split
  all_goals rfl

@[simp] theorem State.elapse_line_lastActivity (s : State) (dt : Nat) :
    (s.elapse dt).line.lastActivity = s.line.lastActivity := by
  unfold State.elapse Line.elapse
  repeat' split
  all_goals rfl

@[simp] theorem State.elapse_line_stuckCount (s : State) (dt : Nat) :
    (s.elapse dt).line.stuckCount = s.line.stuckCount := by
  unfold State.elapse Line.elapse
  repeat' split
  all_goals rfl

@[simp] theorem State.elapse_line_counters (s : State) (dt : Nat) :
    (s.elapse dt).line.counters = s.line.counters := by
  unfold State.elapse Line.elapse
  repeat' split
  all_goals rfl

@[simp] theorem State.elapse_line_lineStop (s : State) (dt : Nat) :
    (s.elapse dt).line.lineStop = s.line.lineStop := by
  unfold State.elapse Line.elapse
  repeat' split
  all_goals rfl

@[simp] theorem State.elapse_line_lineSide (s : State) (dt : Nat) :
    (s.elapse dt).line.lineSide = s.line.lineSide := by
  unfold State.elapse Line.elapse
  repeat' split
  all_goals rfl

/-! ### Notices and completion (R145, R152) -/

@[simp] theorem State.post_line (s : State) (n : Notice) :
    (s.post n).line = s.line := by
  unfold State.post
  repeat' split
  all_goals simp

@[simp] theorem State.post_pool (s : State) (n : Notice) :
    (s.post n).pool = s.pool := by
  unfold State.post
  repeat' split
  all_goals simp

@[simp] theorem State.post_sieve (s : State) (n : Notice) :
    (s.post n).sieve = s.sieve := by
  unfold State.post
  repeat' split
  all_goals simp

@[simp] theorem State.post_classifier (s : State) (n : Notice) :
    (s.post n).classifier = s.classifier := by
  unfold State.post
  repeat' split
  all_goals simp

@[simp] theorem State.post_queues (s : State) (n : Notice) :
    (s.post n).queues = s.queues := by
  unfold State.post
  repeat' split
  all_goals simp

@[simp] theorem State.post_slots (s : State) (n : Notice) :
    (s.post n).slots = s.slots := by
  unfold State.post
  repeat' split
  all_goals simp

@[simp] theorem State.post_responder (s : State) (n : Notice) :
    (s.post n).responder = s.responder := by
  unfold State.post
  repeat' split
  all_goals simp

@[simp] theorem State.post_sender (s : State) (n : Notice) :
    (s.post n).sender = s.sender := by
  unfold State.post
  repeat' split
  all_goals simp

@[simp] theorem State.post_pins (s : State) (n : Notice) :
    (s.post n).pins = s.pins := by
  unfold State.post
  repeat' split
  all_goals simp

@[simp] theorem State.post_pending (s : State) (n : Notice) :
    (s.post n).pending = s.pending := by
  unfold State.post
  repeat' split
  all_goals simp

@[simp] theorem State.complete_line (s : State) (k : ReqKind) (tag : Byte) (inline chain : List Byte) :
    (s.complete k tag inline chain).line = s.line := by
  unfold State.complete
  dsimp only
  repeat' split
  all_goals simp

@[simp] theorem State.complete_pool (s : State) (k : ReqKind) (tag : Byte) (inline chain : List Byte) :
    (s.complete k tag inline chain).pool = s.pool := by
  unfold State.complete
  dsimp only
  repeat' split
  all_goals simp

@[simp] theorem State.complete_sieve (s : State) (k : ReqKind) (tag : Byte) (inline chain : List Byte) :
    (s.complete k tag inline chain).sieve = s.sieve := by
  unfold State.complete
  dsimp only
  repeat' split
  all_goals simp

@[simp] theorem State.complete_classifier (s : State) (k : ReqKind) (tag : Byte) (inline chain : List Byte) :
    (s.complete k tag inline chain).classifier = s.classifier := by
  unfold State.complete
  dsimp only
  repeat' split
  all_goals simp

@[simp] theorem State.complete_queues (s : State) (k : ReqKind) (tag : Byte) (inline chain : List Byte) :
    (s.complete k tag inline chain).queues = s.queues := by
  unfold State.complete
  dsimp only
  repeat' split
  all_goals simp

@[simp] theorem State.complete_slots (s : State) (k : ReqKind) (tag : Byte) (inline chain : List Byte) :
    (s.complete k tag inline chain).slots = s.slots := by
  unfold State.complete
  dsimp only
  repeat' split
  all_goals simp

@[simp] theorem State.complete_responder (s : State) (k : ReqKind) (tag : Byte) (inline chain : List Byte) :
    (s.complete k tag inline chain).responder = s.responder := by
  unfold State.complete
  dsimp only
  repeat' split
  all_goals simp

@[simp] theorem State.complete_sender (s : State) (k : ReqKind) (tag : Byte) (inline chain : List Byte) :
    (s.complete k tag inline chain).sender = s.sender := by
  unfold State.complete
  dsimp only
  repeat' split
  all_goals simp

@[simp] theorem State.complete_pins (s : State) (k : ReqKind) (tag : Byte) (inline chain : List Byte) :
    (s.complete k tag inline chain).pins = s.pins := by
  unfold State.complete
  dsimp only
  repeat' split
  all_goals simp

@[simp] theorem State.complete_pending (s : State) (k : ReqKind) (tag : Byte) (inline chain : List Byte) :
    (s.complete k tag inline chain).pending = s.pending := by
  unfold State.complete
  dsimp only
  repeat' split
  all_goals simp

@[simp] theorem State.refuse_line (s : State) (k : ReqKind) (tag : Byte) (st : Status) :
    (s.refuse k tag st).line = s.line := by simp [State.refuse]

@[simp] theorem State.refuse_pool (s : State) (k : ReqKind) (tag : Byte) (st : Status) :
    (s.refuse k tag st).pool = s.pool := by simp [State.refuse]

@[simp] theorem State.refuse_sieve (s : State) (k : ReqKind) (tag : Byte) (st : Status) :
    (s.refuse k tag st).sieve = s.sieve := by simp [State.refuse]

@[simp] theorem State.refuse_classifier (s : State) (k : ReqKind) (tag : Byte) (st : Status) :
    (s.refuse k tag st).classifier = s.classifier := by simp [State.refuse]

@[simp] theorem State.refuse_queues (s : State) (k : ReqKind) (tag : Byte) (st : Status) :
    (s.refuse k tag st).queues = s.queues := by simp [State.refuse]

@[simp] theorem State.refuse_slots (s : State) (k : ReqKind) (tag : Byte) (st : Status) :
    (s.refuse k tag st).slots = s.slots := by simp [State.refuse]

@[simp] theorem State.refuse_responder (s : State) (k : ReqKind) (tag : Byte) (st : Status) :
    (s.refuse k tag st).responder = s.responder := by simp [State.refuse]

@[simp] theorem State.refuse_sender (s : State) (k : ReqKind) (tag : Byte) (st : Status) :
    (s.refuse k tag st).sender = s.sender := by simp [State.refuse]

@[simp] theorem State.refuse_pins (s : State) (k : ReqKind) (tag : Byte) (st : Status) :
    (s.refuse k tag st).pins = s.pins := by simp [State.refuse]

@[simp] theorem State.refuse_pending (s : State) (k : ReqKind) (tag : Byte) (st : Status) :
    (s.refuse k tag st).pending = s.pending := by simp [State.refuse]

@[simp] theorem State.refuseDispatch_line (s : State) (k tag : Byte) (body : List Byte) :
    (s.refuseDispatch k tag body).line = s.line := by
  unfold State.refuseDispatch
  repeat' split
  all_goals simp

@[simp] theorem State.refuseDispatch_pool (s : State) (k tag : Byte) (body : List Byte) :
    (s.refuseDispatch k tag body).pool = s.pool := by
  unfold State.refuseDispatch
  repeat' split
  all_goals simp

@[simp] theorem State.refuseDispatch_sieve (s : State) (k tag : Byte) (body : List Byte) :
    (s.refuseDispatch k tag body).sieve = s.sieve := by
  unfold State.refuseDispatch
  repeat' split
  all_goals simp

@[simp] theorem State.refuseDispatch_classifier (s : State) (k tag : Byte) (body : List Byte) :
    (s.refuseDispatch k tag body).classifier = s.classifier := by
  unfold State.refuseDispatch
  repeat' split
  all_goals simp

@[simp] theorem State.refuseDispatch_queues (s : State) (k tag : Byte) (body : List Byte) :
    (s.refuseDispatch k tag body).queues = s.queues := by
  unfold State.refuseDispatch
  repeat' split
  all_goals simp

@[simp] theorem State.refuseDispatch_slots (s : State) (k tag : Byte) (body : List Byte) :
    (s.refuseDispatch k tag body).slots = s.slots := by
  unfold State.refuseDispatch
  repeat' split
  all_goals simp

@[simp] theorem State.refuseDispatch_responder (s : State) (k tag : Byte) (body : List Byte) :
    (s.refuseDispatch k tag body).responder = s.responder := by
  unfold State.refuseDispatch
  repeat' split
  all_goals simp

@[simp] theorem State.refuseDispatch_sender (s : State) (k tag : Byte) (body : List Byte) :
    (s.refuseDispatch k tag body).sender = s.sender := by
  unfold State.refuseDispatch
  repeat' split
  all_goals simp

@[simp] theorem State.refuseDispatch_pins (s : State) (k tag : Byte) (body : List Byte) :
    (s.refuseDispatch k tag body).pins = s.pins := by
  unfold State.refuseDispatch
  repeat' split
  all_goals simp

@[simp] theorem State.refuseDispatch_pending (s : State) (k tag : Byte) (body : List Byte) :
    (s.refuseDispatch k tag body).pending = s.pending := by
  unfold State.refuseDispatch
  repeat' split
  all_goals simp

@[simp] theorem State.moveNotices_line (s : State) (ns : List Notice) :
    (s.moveNotices ns).line = s.line := by
  induction ns generalizing s with
  | nil => rfl
  | cons n ns ih =>
    unfold State.moveNotices
    split
    · rw [ih]
      simp
    · rfl

@[simp] theorem State.moveNotices_pool (s : State) (ns : List Notice) :
    (s.moveNotices ns).pool = s.pool := by
  induction ns generalizing s with
  | nil => rfl
  | cons n ns ih =>
    unfold State.moveNotices
    split
    · rw [ih]
      simp
    · rfl

@[simp] theorem State.moveNotices_sieve (s : State) (ns : List Notice) :
    (s.moveNotices ns).sieve = s.sieve := by
  induction ns generalizing s with
  | nil => rfl
  | cons n ns ih =>
    unfold State.moveNotices
    split
    · rw [ih]
      simp
    · rfl

@[simp] theorem State.moveNotices_classifier (s : State) (ns : List Notice) :
    (s.moveNotices ns).classifier = s.classifier := by
  induction ns generalizing s with
  | nil => rfl
  | cons n ns ih =>
    unfold State.moveNotices
    split
    · rw [ih]
      simp
    · rfl

@[simp] theorem State.moveNotices_queues (s : State) (ns : List Notice) :
    (s.moveNotices ns).queues = s.queues := by
  induction ns generalizing s with
  | nil => rfl
  | cons n ns ih =>
    unfold State.moveNotices
    split
    · rw [ih]
      simp
    · rfl

@[simp] theorem State.moveNotices_slots (s : State) (ns : List Notice) :
    (s.moveNotices ns).slots = s.slots := by
  induction ns generalizing s with
  | nil => rfl
  | cons n ns ih =>
    unfold State.moveNotices
    split
    · rw [ih]
      simp
    · rfl

@[simp] theorem State.moveNotices_responder (s : State) (ns : List Notice) :
    (s.moveNotices ns).responder = s.responder := by
  induction ns generalizing s with
  | nil => rfl
  | cons n ns ih =>
    unfold State.moveNotices
    split
    · rw [ih]
      simp
    · rfl

@[simp] theorem State.moveNotices_sender (s : State) (ns : List Notice) :
    (s.moveNotices ns).sender = s.sender := by
  induction ns generalizing s with
  | nil => rfl
  | cons n ns ih =>
    unfold State.moveNotices
    split
    · rw [ih]
      simp
    · rfl

@[simp] theorem State.moveNotices_pins (s : State) (ns : List Notice) :
    (s.moveNotices ns).pins = s.pins := by
  induction ns generalizing s with
  | nil => rfl
  | cons n ns ih =>
    unfold State.moveNotices
    split
    · rw [ih]
      simp
    · rfl

@[simp] theorem State.moveNotices_pending (s : State) (ns : List Notice) :
    (s.moveNotices ns).pending = s.pending := by
  induction ns generalizing s with
  | nil => rfl
  | cons n ns ih =>
    unfold State.moveNotices
    split
    · rw [ih]
      simp
    · rfl

@[simp] theorem State.drainNotices_line (s : State) :
    (s.drainNotices).line = s.line := by simp [State.drainNotices]

@[simp] theorem State.drainNotices_pool (s : State) :
    (s.drainNotices).pool = s.pool := by simp [State.drainNotices]

@[simp] theorem State.drainNotices_sieve (s : State) :
    (s.drainNotices).sieve = s.sieve := by simp [State.drainNotices]

@[simp] theorem State.drainNotices_classifier (s : State) :
    (s.drainNotices).classifier = s.classifier := by simp [State.drainNotices]

@[simp] theorem State.drainNotices_queues (s : State) :
    (s.drainNotices).queues = s.queues := by simp [State.drainNotices]

@[simp] theorem State.drainNotices_slots (s : State) :
    (s.drainNotices).slots = s.slots := by simp [State.drainNotices]

@[simp] theorem State.drainNotices_responder (s : State) :
    (s.drainNotices).responder = s.responder := by simp [State.drainNotices]

@[simp] theorem State.drainNotices_sender (s : State) :
    (s.drainNotices).sender = s.sender := by simp [State.drainNotices]

@[simp] theorem State.drainNotices_pins (s : State) :
    (s.drainNotices).pins = s.pins := by simp [State.drainNotices]

@[simp] theorem State.drainNotices_pending (s : State) :
    (s.drainNotices).pending = s.pending := by simp [State.drainNotices]

/-! ### The grant and the reply queue (R116, R117) -/

@[simp] theorem State.notStarted_pool (s : State) :
    (s.notStarted).pool = s.pool := by
  unfold State.notStarted
  repeat' split
  all_goals simp

@[simp] theorem State.notStarted_sieve (s : State) :
    (s.notStarted).sieve = s.sieve := by
  unfold State.notStarted
  repeat' split
  all_goals simp

@[simp] theorem State.notStarted_classifier (s : State) :
    (s.notStarted).classifier = s.classifier := by
  unfold State.notStarted
  repeat' split
  all_goals simp

@[simp] theorem State.notStarted_queues (s : State) :
    (s.notStarted).queues = s.queues := by
  unfold State.notStarted
  repeat' split
  all_goals simp

@[simp] theorem State.notStarted_slots (s : State) :
    (s.notStarted).slots = s.slots := by
  unfold State.notStarted
  repeat' split
  all_goals simp

@[simp] theorem State.notStarted_link (s : State) :
    (s.notStarted).link = s.link := by
  unfold State.notStarted
  repeat' split
  all_goals simp

@[simp] theorem State.notStarted_presence (s : State) :
    (s.notStarted).presence = s.presence := by
  unfold State.notStarted
  repeat' split
  all_goals simp

@[simp] theorem State.notStarted_pins (s : State) :
    (s.notStarted).pins = s.pins := by
  unfold State.notStarted
  repeat' split
  all_goals simp

@[simp] theorem State.notStarted_pending (s : State) :
    (s.notStarted).pending = s.pending := by
  unfold State.notStarted
  repeat' split
  all_goals simp

@[simp] theorem State.dropReply_line (s : State) (p : ReplyEntry → Bool) :
    (s.dropReply p).line = s.line := by
  unfold State.dropReply
  repeat' split
  all_goals simp

@[simp] theorem State.dropReply_sieve (s : State) (p : ReplyEntry → Bool) :
    (s.dropReply p).sieve = s.sieve := by
  unfold State.dropReply
  repeat' split
  all_goals simp

@[simp] theorem State.dropReply_classifier (s : State) (p : ReplyEntry → Bool) :
    (s.dropReply p).classifier = s.classifier := by
  unfold State.dropReply
  repeat' split
  all_goals simp

@[simp] theorem State.dropReply_queues (s : State) (p : ReplyEntry → Bool) :
    (s.dropReply p).queues = s.queues := by
  unfold State.dropReply
  repeat' split
  all_goals simp

@[simp] theorem State.dropReply_slots (s : State) (p : ReplyEntry → Bool) :
    (s.dropReply p).slots = s.slots := by
  unfold State.dropReply
  repeat' split
  all_goals simp

@[simp] theorem State.dropReply_sender (s : State) (p : ReplyEntry → Bool) :
    (s.dropReply p).sender = s.sender := by
  unfold State.dropReply
  repeat' split
  all_goals simp

@[simp] theorem State.dropReply_link (s : State) (p : ReplyEntry → Bool) :
    (s.dropReply p).link = s.link := by
  unfold State.dropReply
  repeat' split
  all_goals simp

@[simp] theorem State.dropReply_presence (s : State) (p : ReplyEntry → Bool) :
    (s.dropReply p).presence = s.presence := by
  unfold State.dropReply
  repeat' split
  all_goals simp

@[simp] theorem State.dropReply_pins (s : State) (p : ReplyEntry → Bool) :
    (s.dropReply p).pins = s.pins := by
  unfold State.dropReply
  repeat' split
  all_goals simp

@[simp] theorem State.dropReply_pending (s : State) (p : ReplyEntry → Bool) :
    (s.dropReply p).pending = s.pending := by
  unfold State.dropReply
  repeat' split
  all_goals simp

@[simp] theorem State.lateReply_line (s : State) (p : ReplyEntry → Bool) (l : LatePolicy) :
    (s.lateReply p l).line = s.line := by
  unfold State.lateReply
  dsimp only
  repeat' split
  all_goals simp

@[simp] theorem State.lateReply_sieve (s : State) (p : ReplyEntry → Bool) (l : LatePolicy) :
    (s.lateReply p l).sieve = s.sieve := by
  unfold State.lateReply
  dsimp only
  repeat' split
  all_goals simp

@[simp] theorem State.lateReply_classifier (s : State) (p : ReplyEntry → Bool) (l : LatePolicy) :
    (s.lateReply p l).classifier = s.classifier := by
  unfold State.lateReply
  dsimp only
  repeat' split
  all_goals simp

@[simp] theorem State.lateReply_queues (s : State) (p : ReplyEntry → Bool) (l : LatePolicy) :
    (s.lateReply p l).queues = s.queues := by
  unfold State.lateReply
  dsimp only
  repeat' split
  all_goals simp

@[simp] theorem State.lateReply_slots (s : State) (p : ReplyEntry → Bool) (l : LatePolicy) :
    (s.lateReply p l).slots = s.slots := by
  unfold State.lateReply
  dsimp only
  repeat' split
  all_goals simp

@[simp] theorem State.lateReply_sender (s : State) (p : ReplyEntry → Bool) (l : LatePolicy) :
    (s.lateReply p l).sender = s.sender := by
  unfold State.lateReply
  dsimp only
  repeat' split
  all_goals simp

@[simp] theorem State.lateReply_link (s : State) (p : ReplyEntry → Bool) (l : LatePolicy) :
    (s.lateReply p l).link = s.link := by
  unfold State.lateReply
  dsimp only
  repeat' split
  all_goals simp

@[simp] theorem State.lateReply_presence (s : State) (p : ReplyEntry → Bool) (l : LatePolicy) :
    (s.lateReply p l).presence = s.presence := by
  unfold State.lateReply
  dsimp only
  repeat' split
  all_goals simp

@[simp] theorem State.lateReply_pins (s : State) (p : ReplyEntry → Bool) (l : LatePolicy) :
    (s.lateReply p l).pins = s.pins := by
  unfold State.lateReply
  dsimp only
  repeat' split
  all_goals simp

@[simp] theorem State.lateReply_pending (s : State) (p : ReplyEntry → Bool) (l : LatePolicy) :
    (s.lateReply p l).pending = s.pending := by
  unfold State.lateReply
  dsimp only
  repeat' split
  all_goals simp

@[simp] theorem State.closingReport_sieve (s : State) (fe : Nat) :
    (s.closingReport fe).sieve = s.sieve := by
  unfold State.closingReport
  dsimp only
  repeat' split
  all_goals simp

@[simp] theorem State.closingReport_classifier (s : State) (fe : Nat) :
    (s.closingReport fe).classifier = s.classifier := by
  unfold State.closingReport
  dsimp only
  repeat' split
  all_goals simp

@[simp] theorem State.closingReport_queues (s : State) (fe : Nat) :
    (s.closingReport fe).queues = s.queues := by
  unfold State.closingReport
  dsimp only
  repeat' split
  all_goals simp

@[simp] theorem State.closingReport_slots (s : State) (fe : Nat) :
    (s.closingReport fe).slots = s.slots := by
  unfold State.closingReport
  dsimp only
  repeat' split
  all_goals simp

@[simp] theorem State.closingReport_link (s : State) (fe : Nat) :
    (s.closingReport fe).link = s.link := by
  unfold State.closingReport
  dsimp only
  repeat' split
  all_goals simp

@[simp] theorem State.closingReport_presence (s : State) (fe : Nat) :
    (s.closingReport fe).presence = s.presence := by
  unfold State.closingReport
  dsimp only
  repeat' split
  all_goals simp

@[simp] theorem State.closingReport_pins (s : State) (fe : Nat) :
    (s.closingReport fe).pins = s.pins := by
  unfold State.closingReport
  dsimp only
  repeat' split
  all_goals simp

@[simp] theorem State.closingReport_pending (s : State) (fe : Nat) :
    (s.closingReport fe).pending = s.pending := by
  unfold State.closingReport
  dsimp only
  repeat' split
  all_goals simp

@[simp] theorem State.closeSlot_sieve (s : State) :
    (s.closeSlot).sieve = s.sieve := by
  unfold State.closeSlot
  repeat' split
  all_goals simp

@[simp] theorem State.closeSlot_classifier (s : State) :
    (s.closeSlot).classifier = s.classifier := by
  unfold State.closeSlot
  repeat' split
  all_goals simp

@[simp] theorem State.closeSlot_queues (s : State) :
    (s.closeSlot).queues = s.queues := by
  unfold State.closeSlot
  repeat' split
  all_goals simp

@[simp] theorem State.closeSlot_slots (s : State) :
    (s.closeSlot).slots = s.slots := by
  unfold State.closeSlot
  repeat' split
  all_goals simp

@[simp] theorem State.closeSlot_link (s : State) :
    (s.closeSlot).link = s.link := by
  unfold State.closeSlot
  repeat' split
  all_goals simp

@[simp] theorem State.closeSlot_presence (s : State) :
    (s.closeSlot).presence = s.presence := by
  unfold State.closeSlot
  repeat' split
  all_goals simp

@[simp] theorem State.closeSlot_pins (s : State) :
    (s.closeSlot).pins = s.pins := by
  unfold State.closeSlot
  repeat' split
  all_goals simp

@[simp] theorem State.closeSlot_pending (s : State) :
    (s.closeSlot).pending = s.pending := by
  unfold State.closeSlot
  repeat' split
  all_goals simp

/-! ### The arbiter (R131, R132) -/

@[simp] theorem State.choose_pool (s : State) :
    (s.choose).pool = s.pool := by
  unfold State.choose
  dsimp only
  repeat' split
  all_goals simp [State.grantReply, State.grantSend]

@[simp] theorem State.choose_sieve (s : State) :
    (s.choose).sieve = s.sieve := by
  unfold State.choose
  dsimp only
  repeat' split
  all_goals simp [State.grantReply, State.grantSend]

@[simp] theorem State.choose_classifier (s : State) :
    (s.choose).classifier = s.classifier := by
  unfold State.choose
  dsimp only
  repeat' split
  all_goals simp [State.grantReply, State.grantSend]

@[simp] theorem State.choose_queues (s : State) :
    (s.choose).queues = s.queues := by
  unfold State.choose
  dsimp only
  repeat' split
  all_goals simp [State.grantReply, State.grantSend]

@[simp] theorem State.choose_slots (s : State) :
    (s.choose).slots = s.slots := by
  unfold State.choose
  dsimp only
  repeat' split
  all_goals simp [State.grantReply, State.grantSend]

@[simp] theorem State.choose_link (s : State) :
    (s.choose).link = s.link := by
  unfold State.choose
  dsimp only
  repeat' split
  all_goals simp [State.grantReply, State.grantSend]

@[simp] theorem State.choose_presence (s : State) :
    (s.choose).presence = s.presence := by
  unfold State.choose
  dsimp only
  repeat' split
  all_goals simp [State.grantReply, State.grantSend]

@[simp] theorem State.choose_pins (s : State) :
    (s.choose).pins = s.pins := by
  unfold State.choose
  dsimp only
  repeat' split
  all_goals simp [State.grantReply, State.grantSend]

@[simp] theorem State.choose_pending (s : State) :
    (s.choose).pending = s.pending := by
  unfold State.choose
  dsimp only
  repeat' split
  all_goals simp [State.grantReply, State.grantSend]

/-! ### Outcomes (R127, R133) -/

@[simp] theorem State.completeSend_line (s : State) (e : SendEntry) (st : Status) (content : List Byte) :
    (s.completeSend e st content).line = s.line := by
  unfold State.completeSend
  dsimp only
  repeat' split
  all_goals simp

@[simp] theorem State.completeSend_sieve (s : State) (e : SendEntry) (st : Status) (content : List Byte) :
    (s.completeSend e st content).sieve = s.sieve := by
  unfold State.completeSend
  dsimp only
  repeat' split
  all_goals simp

@[simp] theorem State.completeSend_classifier (s : State) (e : SendEntry) (st : Status) (content : List Byte) :
    (s.completeSend e st content).classifier = s.classifier := by
  unfold State.completeSend
  dsimp only
  repeat' split
  all_goals simp

@[simp] theorem State.completeSend_queues (s : State) (e : SendEntry) (st : Status) (content : List Byte) :
    (s.completeSend e st content).queues = s.queues := by
  unfold State.completeSend
  dsimp only
  repeat' split
  all_goals simp

@[simp] theorem State.completeSend_slots (s : State) (e : SendEntry) (st : Status) (content : List Byte) :
    (s.completeSend e st content).slots = s.slots := by
  unfold State.completeSend
  dsimp only
  repeat' split
  all_goals simp

@[simp] theorem State.completeSend_responder (s : State) (e : SendEntry) (st : Status) (content : List Byte) :
    (s.completeSend e st content).responder = s.responder := by
  unfold State.completeSend
  dsimp only
  repeat' split
  all_goals simp

@[simp] theorem State.completeSend_pins (s : State) (e : SendEntry) (st : Status) (content : List Byte) :
    (s.completeSend e st content).pins = s.pins := by
  unfold State.completeSend
  dsimp only
  repeat' split
  all_goals simp

@[simp] theorem State.completeSend_pending (s : State) (e : SendEntry) (st : Status) (content : List Byte) :
    (s.completeSend e st content).pending = s.pending := by
  unfold State.completeSend
  dsimp only
  repeat' split
  all_goals simp

@[simp] theorem State.handSend_line (s : State) (tag : Byte) (o : AttemptEnd) :
    (s.handSend tag o).line = s.line := by
  unfold State.handSend
  repeat' split
  all_goals simp

@[simp] theorem State.handSend_sieve (s : State) (tag : Byte) (o : AttemptEnd) :
    (s.handSend tag o).sieve = s.sieve := by
  unfold State.handSend
  repeat' split
  all_goals simp

@[simp] theorem State.handSend_classifier (s : State) (tag : Byte) (o : AttemptEnd) :
    (s.handSend tag o).classifier = s.classifier := by
  unfold State.handSend
  repeat' split
  all_goals simp

@[simp] theorem State.handSend_queues (s : State) (tag : Byte) (o : AttemptEnd) :
    (s.handSend tag o).queues = s.queues := by
  unfold State.handSend
  repeat' split
  all_goals simp

@[simp] theorem State.handSend_slots (s : State) (tag : Byte) (o : AttemptEnd) :
    (s.handSend tag o).slots = s.slots := by
  unfold State.handSend
  repeat' split
  all_goals simp

@[simp] theorem State.handSend_responder (s : State) (tag : Byte) (o : AttemptEnd) :
    (s.handSend tag o).responder = s.responder := by
  unfold State.handSend
  repeat' split
  all_goals simp

@[simp] theorem State.handSend_pins (s : State) (tag : Byte) (o : AttemptEnd) :
    (s.handSend tag o).pins = s.pins := by
  unfold State.handSend
  repeat' split
  all_goals simp

@[simp] theorem State.handSend_pending (s : State) (tag : Byte) (o : AttemptEnd) :
    (s.handSend tag o).pending = s.pending := by
  unfold State.handSend
  repeat' split
  all_goals simp

@[simp] theorem State.handReply_line (s : State) (o : AttemptEnd) :
    (s.handReply o).line = s.line := by
  unfold State.handReply
  dsimp only
  repeat' split
  all_goals simp

@[simp] theorem State.handReply_sieve (s : State) (o : AttemptEnd) :
    (s.handReply o).sieve = s.sieve := by
  unfold State.handReply
  dsimp only
  repeat' split
  all_goals simp

@[simp] theorem State.handReply_classifier (s : State) (o : AttemptEnd) :
    (s.handReply o).classifier = s.classifier := by
  unfold State.handReply
  dsimp only
  repeat' split
  all_goals simp

@[simp] theorem State.handReply_queues (s : State) (o : AttemptEnd) :
    (s.handReply o).queues = s.queues := by
  unfold State.handReply
  dsimp only
  repeat' split
  all_goals simp

@[simp] theorem State.handReply_slots (s : State) (o : AttemptEnd) :
    (s.handReply o).slots = s.slots := by
  unfold State.handReply
  dsimp only
  repeat' split
  all_goals simp

@[simp] theorem State.handReply_sender (s : State) (o : AttemptEnd) :
    (s.handReply o).sender = s.sender := by
  unfold State.handReply
  dsimp only
  repeat' split
  all_goals simp

@[simp] theorem State.handReply_link (s : State) (o : AttemptEnd) :
    (s.handReply o).link = s.link := by
  unfold State.handReply
  dsimp only
  repeat' split
  all_goals simp

@[simp] theorem State.handReply_presence (s : State) (o : AttemptEnd) :
    (s.handReply o).presence = s.presence := by
  unfold State.handReply
  dsimp only
  repeat' split
  all_goals simp

@[simp] theorem State.handReply_pins (s : State) (o : AttemptEnd) :
    (s.handReply o).pins = s.pins := by
  unfold State.handReply
  dsimp only
  repeat' split
  all_goals simp

@[simp] theorem State.handReply_pending (s : State) (o : AttemptEnd) :
    (s.handReply o).pending = s.pending := by
  unfold State.handReply
  dsimp only
  repeat' split
  all_goals simp

@[simp] theorem State.hand_line (s : State) (c : Carried) (o : AttemptEnd) :
    (s.hand c o).line = s.line := by
  unfold State.hand
  repeat' split
  all_goals simp

@[simp] theorem State.hand_sieve (s : State) (c : Carried) (o : AttemptEnd) :
    (s.hand c o).sieve = s.sieve := by
  unfold State.hand
  repeat' split
  all_goals simp

@[simp] theorem State.hand_classifier (s : State) (c : Carried) (o : AttemptEnd) :
    (s.hand c o).classifier = s.classifier := by
  unfold State.hand
  repeat' split
  all_goals simp

@[simp] theorem State.hand_queues (s : State) (c : Carried) (o : AttemptEnd) :
    (s.hand c o).queues = s.queues := by
  unfold State.hand
  repeat' split
  all_goals simp

@[simp] theorem State.hand_slots (s : State) (c : Carried) (o : AttemptEnd) :
    (s.hand c o).slots = s.slots := by
  unfold State.hand
  repeat' split
  all_goals simp

@[simp] theorem State.hand_pins (s : State) (c : Carried) (o : AttemptEnd) :
    (s.hand c o).pins = s.pins := by
  unfold State.hand
  repeat' split
  all_goals simp

@[simp] theorem State.hand_pending (s : State) (c : Carried) (o : AttemptEnd) :
    (s.hand c o).pending = s.pending := by
  unfold State.hand
  repeat' split
  all_goals simp

@[simp] theorem State.startSending_pool (s : State) (g : Grant) :
    (s.startSending g).pool = s.pool := by
  unfold State.startSending
  repeat' split
  all_goals simp

@[simp] theorem State.startSending_sieve (s : State) (g : Grant) :
    (s.startSending g).sieve = s.sieve := by
  unfold State.startSending
  repeat' split
  all_goals simp

@[simp] theorem State.startSending_classifier (s : State) (g : Grant) :
    (s.startSending g).classifier = s.classifier := by
  unfold State.startSending
  repeat' split
  all_goals simp

@[simp] theorem State.startSending_queues (s : State) (g : Grant) :
    (s.startSending g).queues = s.queues := by
  unfold State.startSending
  repeat' split
  all_goals simp

@[simp] theorem State.startSending_slots (s : State) (g : Grant) :
    (s.startSending g).slots = s.slots := by
  unfold State.startSending
  repeat' split
  all_goals simp

@[simp] theorem State.startSending_responder (s : State) (g : Grant) :
    (s.startSending g).responder = s.responder := by
  unfold State.startSending
  repeat' split
  all_goals simp

@[simp] theorem State.startSending_sender (s : State) (g : Grant) :
    (s.startSending g).sender = s.sender := by
  unfold State.startSending
  repeat' split
  all_goals simp

@[simp] theorem State.startSending_link (s : State) (g : Grant) :
    (s.startSending g).link = s.link := by
  unfold State.startSending
  repeat' split
  all_goals simp

@[simp] theorem State.startSending_presence (s : State) (g : Grant) :
    (s.startSending g).presence = s.presence := by
  unfold State.startSending
  repeat' split
  all_goals simp

@[simp] theorem State.startSending_pins (s : State) (g : Grant) :
    (s.startSending g).pins = s.pins := by
  unfold State.startSending
  repeat' split
  all_goals simp

@[simp] theorem State.startSending_pending (s : State) (g : Grant) :
    (s.startSending g).pending = s.pending := by
  unfold State.startSending
  repeat' split
  all_goals simp

/-! ### The stopping sequence (R22) -/

@[simp] theorem State.changeMode_pool (s : State) (m : LineMode) (r : Option HearMode) :
    (s.changeMode m r).pool = s.pool := by
  unfold State.changeMode
  dsimp only
  repeat' split
  all_goals simp

@[simp] theorem State.changeMode_sieve (s : State) (m : LineMode) (r : Option HearMode) :
    (s.changeMode m r).sieve = s.sieve := by
  unfold State.changeMode
  dsimp only
  repeat' split
  all_goals simp

@[simp] theorem State.changeMode_classifier (s : State) (m : LineMode) (r : Option HearMode) :
    (s.changeMode m r).classifier = s.classifier := by
  unfold State.changeMode
  dsimp only
  repeat' split
  all_goals simp

@[simp] theorem State.changeMode_queues (s : State) (m : LineMode) (r : Option HearMode) :
    (s.changeMode m r).queues = s.queues := by
  unfold State.changeMode
  dsimp only
  repeat' split
  all_goals simp

@[simp] theorem State.changeMode_slots (s : State) (m : LineMode) (r : Option HearMode) :
    (s.changeMode m r).slots = s.slots := by
  unfold State.changeMode
  dsimp only
  repeat' split
  all_goals simp

@[simp] theorem State.changeMode_responder (s : State) (m : LineMode) (r : Option HearMode) :
    (s.changeMode m r).responder = s.responder := by
  unfold State.changeMode
  dsimp only
  repeat' split
  all_goals simp

@[simp] theorem State.changeMode_sender (s : State) (m : LineMode) (r : Option HearMode) :
    (s.changeMode m r).sender = s.sender := by
  unfold State.changeMode
  dsimp only
  repeat' split
  all_goals simp

@[simp] theorem State.changeMode_pins (s : State) (m : LineMode) (r : Option HearMode) :
    (s.changeMode m r).pins = s.pins := by
  unfold State.changeMode
  dsimp only
  repeat' split
  all_goals simp

@[simp] theorem State.changeMode_pending (s : State) (m : LineMode) (r : Option HearMode) :
    (s.changeMode m r).pending = s.pending := by
  unfold State.changeMode
  dsimp only
  repeat' split
  all_goals simp

@[simp] theorem State.abandonReception_sieve (s : State) :
    (s.abandonReception).sieve = s.sieve := by simp [State.abandonReception]

@[simp] theorem State.abandonReception_classifier (s : State) :
    (s.abandonReception).classifier = s.classifier := by simp [State.abandonReception]

@[simp] theorem State.abandonReception_queues (s : State) :
    (s.abandonReception).queues = s.queues := by simp [State.abandonReception]

@[simp] theorem State.abandonReception_slots (s : State) :
    (s.abandonReception).slots = s.slots := by simp [State.abandonReception]

@[simp] theorem State.abandonReception_responder (s : State) :
    (s.abandonReception).responder = s.responder := by simp [State.abandonReception]

@[simp] theorem State.abandonReception_sender (s : State) :
    (s.abandonReception).sender = s.sender := by simp [State.abandonReception]

@[simp] theorem State.abandonReception_link (s : State) :
    (s.abandonReception).link = s.link := by simp [State.abandonReception]

@[simp] theorem State.abandonReception_presence (s : State) :
    (s.abandonReception).presence = s.presence := by simp [State.abandonReception]

@[simp] theorem State.abandonReception_pins (s : State) :
    (s.abandonReception).pins = s.pins := by simp [State.abandonReception]

@[simp] theorem State.abandonReception_pending (s : State) :
    (s.abandonReception).pending = s.pending := by simp [State.abandonReception]

@[simp] theorem State.abortSends_line (s : State) (es : List SendEntry) :
    (s.abortSends es).line = s.line := by
  induction es generalizing s with
  | nil => rfl
  | cons e es ih =>
    unfold State.abortSends
    rw [ih]
    simp

@[simp] theorem State.abortSends_sieve (s : State) (es : List SendEntry) :
    (s.abortSends es).sieve = s.sieve := by
  induction es generalizing s with
  | nil => rfl
  | cons e es ih =>
    unfold State.abortSends
    rw [ih]
    simp

@[simp] theorem State.abortSends_classifier (s : State) (es : List SendEntry) :
    (s.abortSends es).classifier = s.classifier := by
  induction es generalizing s with
  | nil => rfl
  | cons e es ih =>
    unfold State.abortSends
    rw [ih]
    simp

@[simp] theorem State.abortSends_queues (s : State) (es : List SendEntry) :
    (s.abortSends es).queues = s.queues := by
  induction es generalizing s with
  | nil => rfl
  | cons e es ih =>
    unfold State.abortSends
    rw [ih]
    simp

@[simp] theorem State.abortSends_slots (s : State) (es : List SendEntry) :
    (s.abortSends es).slots = s.slots := by
  induction es generalizing s with
  | nil => rfl
  | cons e es ih =>
    unfold State.abortSends
    rw [ih]
    simp

@[simp] theorem State.abortSends_responder (s : State) (es : List SendEntry) :
    (s.abortSends es).responder = s.responder := by
  induction es generalizing s with
  | nil => rfl
  | cons e es ih =>
    unfold State.abortSends
    rw [ih]
    simp

@[simp] theorem State.abortSends_pins (s : State) (es : List SendEntry) :
    (s.abortSends es).pins = s.pins := by
  induction es generalizing s with
  | nil => rfl
  | cons e es ih =>
    unfold State.abortSends
    rw [ih]
    simp

@[simp] theorem State.abortSends_pending (s : State) (es : List SendEntry) :
    (s.abortSends es).pending = s.pending := by
  induction es generalizing s with
  | nil => rfl
  | cons e es ih =>
    unfold State.abortSends
    rw [ih]
    simp

@[simp] theorem State.discardReplies_line (s : State) :
    (s.discardReplies).line = s.line := by simp [State.discardReplies]

@[simp] theorem State.discardReplies_sieve (s : State) :
    (s.discardReplies).sieve = s.sieve := by simp [State.discardReplies]

@[simp] theorem State.discardReplies_classifier (s : State) :
    (s.discardReplies).classifier = s.classifier := by simp [State.discardReplies]

@[simp] theorem State.discardReplies_queues (s : State) :
    (s.discardReplies).queues = s.queues := by simp [State.discardReplies]

@[simp] theorem State.discardReplies_slots (s : State) :
    (s.discardReplies).slots = s.slots := by simp [State.discardReplies]

@[simp] theorem State.discardReplies_sender (s : State) :
    (s.discardReplies).sender = s.sender := by simp [State.discardReplies]

@[simp] theorem State.discardReplies_link (s : State) :
    (s.discardReplies).link = s.link := by simp [State.discardReplies]

@[simp] theorem State.discardReplies_presence (s : State) :
    (s.discardReplies).presence = s.presence := by simp [State.discardReplies]

@[simp] theorem State.discardReplies_pins (s : State) :
    (s.discardReplies).pins = s.pins := by simp [State.discardReplies]

@[simp] theorem State.discardReplies_pending (s : State) :
    (s.discardReplies).pending = s.pending := by simp [State.discardReplies]

@[simp] theorem State.enterStopped_sieve (s : State) :
    (s.enterStopped).sieve = s.sieve := by simp [State.enterStopped]

@[simp] theorem State.enterStopped_classifier (s : State) :
    (s.enterStopped).classifier = s.classifier := by simp [State.enterStopped]

@[simp] theorem State.enterStopped_queues (s : State) :
    (s.enterStopped).queues = s.queues := by simp [State.enterStopped]

@[simp] theorem State.enterStopped_slots (s : State) :
    (s.enterStopped).slots = s.slots := by simp [State.enterStopped]

@[simp] theorem State.enterStopped_pins (s : State) :
    (s.enterStopped).pins = s.pins := by simp [State.enterStopped]

@[simp] theorem State.enterStopped_pending (s : State) :
    (s.enterStopped).pending = s.pending := by simp [State.enterStopped]

@[simp] theorem State.completeLineStop_pool (s : State) :
    (s.completeLineStop).pool = s.pool := by
  unfold State.completeLineStop
  repeat' split
  all_goals simp

@[simp] theorem State.completeLineStop_sieve (s : State) :
    (s.completeLineStop).sieve = s.sieve := by
  unfold State.completeLineStop
  repeat' split
  all_goals simp

@[simp] theorem State.completeLineStop_classifier (s : State) :
    (s.completeLineStop).classifier = s.classifier := by
  unfold State.completeLineStop
  repeat' split
  all_goals simp

@[simp] theorem State.completeLineStop_queues (s : State) :
    (s.completeLineStop).queues = s.queues := by
  unfold State.completeLineStop
  repeat' split
  all_goals simp

@[simp] theorem State.completeLineStop_slots (s : State) :
    (s.completeLineStop).slots = s.slots := by
  unfold State.completeLineStop
  repeat' split
  all_goals simp

@[simp] theorem State.completeLineStop_responder (s : State) :
    (s.completeLineStop).responder = s.responder := by
  unfold State.completeLineStop
  repeat' split
  all_goals simp

@[simp] theorem State.completeLineStop_sender (s : State) :
    (s.completeLineStop).sender = s.sender := by
  unfold State.completeLineStop
  repeat' split
  all_goals simp

@[simp] theorem State.completeLineStop_pins (s : State) :
    (s.completeLineStop).pins = s.pins := by
  unfold State.completeLineStop
  repeat' split
  all_goals simp

@[simp] theorem State.completeLineStop_pending (s : State) :
    (s.completeLineStop).pending = s.pending := by
  unfold State.completeLineStop
  repeat' split
  all_goals simp

/-! ### The sieve table and the delivery queues (R50, R78 to R89) -/

@[simp] theorem State.applyCommit_line (s : State) :
    (s.applyCommit).line = s.line := by
  unfold State.applyCommit
  dsimp only
  repeat' split
  all_goals simp

@[simp] theorem State.applyCommit_pool (s : State) :
    (s.applyCommit).pool = s.pool := by
  unfold State.applyCommit
  dsimp only
  repeat' split
  all_goals simp

@[simp] theorem State.applyCommit_queues (s : State) :
    (s.applyCommit).queues = s.queues := by
  unfold State.applyCommit
  dsimp only
  repeat' split
  all_goals simp

@[simp] theorem State.applyCommit_slots (s : State) :
    (s.applyCommit).slots = s.slots := by
  unfold State.applyCommit
  dsimp only
  repeat' split
  all_goals simp

@[simp] theorem State.applyCommit_responder (s : State) :
    (s.applyCommit).responder = s.responder := by
  unfold State.applyCommit
  dsimp only
  repeat' split
  all_goals simp

@[simp] theorem State.applyCommit_sender (s : State) :
    (s.applyCommit).sender = s.sender := by
  unfold State.applyCommit
  dsimp only
  repeat' split
  all_goals simp

@[simp] theorem State.applyCommit_pins (s : State) :
    (s.applyCommit).pins = s.pins := by
  unfold State.applyCommit
  dsimp only
  repeat' split
  all_goals simp

@[simp] theorem State.applyCommit_pending (s : State) :
    (s.applyCommit).pending = s.pending := by
  unfold State.applyCommit
  dsimp only
  repeat' split
  all_goals simp

@[simp] theorem State.emptyClassification_line (s : State) :
    (s.emptyClassification).line = s.line := by simp [State.emptyClassification]

@[simp] theorem State.emptyClassification_sieve (s : State) :
    (s.emptyClassification).sieve = s.sieve := by simp [State.emptyClassification]

@[simp] theorem State.emptyClassification_queues (s : State) :
    (s.emptyClassification).queues = s.queues := by simp [State.emptyClassification]

@[simp] theorem State.emptyClassification_slots (s : State) :
    (s.emptyClassification).slots = s.slots := by simp [State.emptyClassification]

@[simp] theorem State.emptyClassification_responder (s : State) :
    (s.emptyClassification).responder = s.responder := by simp [State.emptyClassification]

@[simp] theorem State.emptyClassification_sender (s : State) :
    (s.emptyClassification).sender = s.sender := by simp [State.emptyClassification]

@[simp] theorem State.emptyClassification_link (s : State) :
    (s.emptyClassification).link = s.link := by simp [State.emptyClassification]

@[simp] theorem State.emptyClassification_presence (s : State) :
    (s.emptyClassification).presence = s.presence := by simp [State.emptyClassification]

@[simp] theorem State.emptyClassification_pins (s : State) :
    (s.emptyClassification).pins = s.pins := by simp [State.emptyClassification]

@[simp] theorem State.emptyClassification_pending (s : State) :
    (s.emptyClassification).pending = s.pending := by simp [State.emptyClassification]

@[simp] theorem State.emptyQueue_line (s : State) (q : Fin 4) :
    (s.emptyQueue q).line = s.line := by simp [State.emptyQueue]

@[simp] theorem State.emptyQueue_sieve (s : State) (q : Fin 4) :
    (s.emptyQueue q).sieve = s.sieve := by simp [State.emptyQueue]

@[simp] theorem State.emptyQueue_classifier (s : State) (q : Fin 4) :
    (s.emptyQueue q).classifier = s.classifier := by simp [State.emptyQueue]

@[simp] theorem State.emptyQueue_slots (s : State) (q : Fin 4) :
    (s.emptyQueue q).slots = s.slots := by simp [State.emptyQueue]

@[simp] theorem State.emptyQueue_responder (s : State) (q : Fin 4) :
    (s.emptyQueue q).responder = s.responder := by simp [State.emptyQueue]

@[simp] theorem State.emptyQueue_sender (s : State) (q : Fin 4) :
    (s.emptyQueue q).sender = s.sender := by simp [State.emptyQueue]

@[simp] theorem State.emptyQueue_link (s : State) (q : Fin 4) :
    (s.emptyQueue q).link = s.link := by simp [State.emptyQueue]

@[simp] theorem State.emptyQueue_presence (s : State) (q : Fin 4) :
    (s.emptyQueue q).presence = s.presence := by simp [State.emptyQueue]

@[simp] theorem State.emptyQueue_pins (s : State) (q : Fin 4) :
    (s.emptyQueue q).pins = s.pins := by simp [State.emptyQueue]

@[simp] theorem State.emptyQueue_pending (s : State) (q : Fin 4) :
    (s.emptyQueue q).pending = s.pending := by simp [State.emptyQueue]

@[simp] theorem State.expire_line (s : State) (q : Fin 4) (p : Record → Bool) :
    (s.expire q p).line = s.line := by simp [State.expire]

@[simp] theorem State.expire_sieve (s : State) (q : Fin 4) (p : Record → Bool) :
    (s.expire q p).sieve = s.sieve := by simp [State.expire]

@[simp] theorem State.expire_classifier (s : State) (q : Fin 4) (p : Record → Bool) :
    (s.expire q p).classifier = s.classifier := by simp [State.expire]

@[simp] theorem State.expire_slots (s : State) (q : Fin 4) (p : Record → Bool) :
    (s.expire q p).slots = s.slots := by simp [State.expire]

@[simp] theorem State.expire_responder (s : State) (q : Fin 4) (p : Record → Bool) :
    (s.expire q p).responder = s.responder := by simp [State.expire]

@[simp] theorem State.expire_sender (s : State) (q : Fin 4) (p : Record → Bool) :
    (s.expire q p).sender = s.sender := by simp [State.expire]

@[simp] theorem State.expire_link (s : State) (q : Fin 4) (p : Record → Bool) :
    (s.expire q p).link = s.link := by simp [State.expire]

@[simp] theorem State.expire_presence (s : State) (q : Fin 4) (p : Record → Bool) :
    (s.expire q p).presence = s.presence := by simp [State.expire]

@[simp] theorem State.expire_pins (s : State) (q : Fin 4) (p : Record → Bool) :
    (s.expire q p).pins = s.pins := by simp [State.expire]

@[simp] theorem State.expire_pending (s : State) (q : Fin 4) (p : Record → Bool) :
    (s.expire q p).pending = s.pending := by simp [State.expire]

@[simp] theorem State.discard_line (s : State) (q : Fin 4) (n : Nat) :
    (s.discard q n).line = s.line := by simp [State.discard]

@[simp] theorem State.discard_sieve (s : State) (q : Fin 4) (n : Nat) :
    (s.discard q n).sieve = s.sieve := by simp [State.discard]

@[simp] theorem State.discard_classifier (s : State) (q : Fin 4) (n : Nat) :
    (s.discard q n).classifier = s.classifier := by simp [State.discard]

@[simp] theorem State.discard_slots (s : State) (q : Fin 4) (n : Nat) :
    (s.discard q n).slots = s.slots := by simp [State.discard]

@[simp] theorem State.discard_responder (s : State) (q : Fin 4) (n : Nat) :
    (s.discard q n).responder = s.responder := by simp [State.discard]

@[simp] theorem State.discard_sender (s : State) (q : Fin 4) (n : Nat) :
    (s.discard q n).sender = s.sender := by simp [State.discard]

@[simp] theorem State.discard_link (s : State) (q : Fin 4) (n : Nat) :
    (s.discard q n).link = s.link := by simp [State.discard]

@[simp] theorem State.discard_presence (s : State) (q : Fin 4) (n : Nat) :
    (s.discard q n).presence = s.presence := by simp [State.discard]

@[simp] theorem State.discard_pins (s : State) (q : Fin 4) (n : Nat) :
    (s.discard q n).pins = s.pins := by simp [State.discard]

@[simp] theorem State.discard_pending (s : State) (q : Fin 4) (n : Nat) :
    (s.discard q n).pending = s.pending := by simp [State.discard]

@[simp] theorem State.refuseRecord_line (s : State) (q : Fin 4) (r : Record) (c : QueueCounters) :
    (s.refuseRecord q r c).line = s.line := by simp [State.refuseRecord]

@[simp] theorem State.refuseRecord_sieve (s : State) (q : Fin 4) (r : Record) (c : QueueCounters) :
    (s.refuseRecord q r c).sieve = s.sieve := by simp [State.refuseRecord]

@[simp] theorem State.refuseRecord_classifier (s : State) (q : Fin 4) (r : Record) (c : QueueCounters) :
    (s.refuseRecord q r c).classifier = s.classifier := by simp [State.refuseRecord]

@[simp] theorem State.refuseRecord_slots (s : State) (q : Fin 4) (r : Record) (c : QueueCounters) :
    (s.refuseRecord q r c).slots = s.slots := by simp [State.refuseRecord]

@[simp] theorem State.refuseRecord_responder (s : State) (q : Fin 4) (r : Record) (c : QueueCounters) :
    (s.refuseRecord q r c).responder = s.responder := by simp [State.refuseRecord]

@[simp] theorem State.refuseRecord_sender (s : State) (q : Fin 4) (r : Record) (c : QueueCounters) :
    (s.refuseRecord q r c).sender = s.sender := by simp [State.refuseRecord]

@[simp] theorem State.refuseRecord_link (s : State) (q : Fin 4) (r : Record) (c : QueueCounters) :
    (s.refuseRecord q r c).link = s.link := by simp [State.refuseRecord]

@[simp] theorem State.refuseRecord_presence (s : State) (q : Fin 4) (r : Record) (c : QueueCounters) :
    (s.refuseRecord q r c).presence = s.presence := by simp [State.refuseRecord]

@[simp] theorem State.refuseRecord_pins (s : State) (q : Fin 4) (r : Record) (c : QueueCounters) :
    (s.refuseRecord q r c).pins = s.pins := by simp [State.refuseRecord]

@[simp] theorem State.refuseRecord_pending (s : State) (q : Fin 4) (r : Record) (c : QueueCounters) :
    (s.refuseRecord q r c).pending = s.pending := by simp [State.refuseRecord]

@[simp] theorem State.acceptRecord_line (s : State) (q : Fin 4) (r : Record) :
    (s.acceptRecord q r).line = s.line := by simp [State.acceptRecord]

@[simp] theorem State.acceptRecord_sieve (s : State) (q : Fin 4) (r : Record) :
    (s.acceptRecord q r).sieve = s.sieve := by simp [State.acceptRecord]

@[simp] theorem State.acceptRecord_classifier (s : State) (q : Fin 4) (r : Record) :
    (s.acceptRecord q r).classifier = s.classifier := by simp [State.acceptRecord]

@[simp] theorem State.acceptRecord_slots (s : State) (q : Fin 4) (r : Record) :
    (s.acceptRecord q r).slots = s.slots := by simp [State.acceptRecord]

@[simp] theorem State.acceptRecord_responder (s : State) (q : Fin 4) (r : Record) :
    (s.acceptRecord q r).responder = s.responder := by simp [State.acceptRecord]

@[simp] theorem State.acceptRecord_sender (s : State) (q : Fin 4) (r : Record) :
    (s.acceptRecord q r).sender = s.sender := by simp [State.acceptRecord]

@[simp] theorem State.acceptRecord_link (s : State) (q : Fin 4) (r : Record) :
    (s.acceptRecord q r).link = s.link := by simp [State.acceptRecord]

@[simp] theorem State.acceptRecord_presence (s : State) (q : Fin 4) (r : Record) :
    (s.acceptRecord q r).presence = s.presence := by simp [State.acceptRecord]

@[simp] theorem State.acceptRecord_pins (s : State) (q : Fin 4) (r : Record) :
    (s.acceptRecord q r).pins = s.pins := by simp [State.acceptRecord]

@[simp] theorem State.acceptRecord_pending (s : State) (q : Fin 4) (r : Record) :
    (s.acceptRecord q r).pending = s.pending := by simp [State.acceptRecord]

@[simp] theorem State.announce_line (s : State) (q : Fin 4) (n : Nat) :
    (s.announce q n).line = s.line := by
  unfold State.announce
  dsimp only
  repeat' split
  all_goals simp

@[simp] theorem State.announce_pool (s : State) (q : Fin 4) (n : Nat) :
    (s.announce q n).pool = s.pool := by
  unfold State.announce
  dsimp only
  repeat' split
  all_goals simp

@[simp] theorem State.announce_sieve (s : State) (q : Fin 4) (n : Nat) :
    (s.announce q n).sieve = s.sieve := by
  unfold State.announce
  dsimp only
  repeat' split
  all_goals simp

@[simp] theorem State.announce_classifier (s : State) (q : Fin 4) (n : Nat) :
    (s.announce q n).classifier = s.classifier := by
  unfold State.announce
  dsimp only
  repeat' split
  all_goals simp

@[simp] theorem State.announce_queues (s : State) (q : Fin 4) (n : Nat) :
    (s.announce q n).queues = s.queues := by
  unfold State.announce
  dsimp only
  repeat' split
  all_goals simp

@[simp] theorem State.announce_slots (s : State) (q : Fin 4) (n : Nat) :
    (s.announce q n).slots = s.slots := by
  unfold State.announce
  dsimp only
  repeat' split
  all_goals simp

@[simp] theorem State.announce_responder (s : State) (q : Fin 4) (n : Nat) :
    (s.announce q n).responder = s.responder := by
  unfold State.announce
  dsimp only
  repeat' split
  all_goals simp

@[simp] theorem State.announce_sender (s : State) (q : Fin 4) (n : Nat) :
    (s.announce q n).sender = s.sender := by
  unfold State.announce
  dsimp only
  repeat' split
  all_goals simp

@[simp] theorem State.announce_pins (s : State) (q : Fin 4) (n : Nat) :
    (s.announce q n).pins = s.pins := by
  unfold State.announce
  dsimp only
  repeat' split
  all_goals simp

@[simp] theorem State.announce_pending (s : State) (q : Fin 4) (n : Nat) :
    (s.announce q n).pending = s.pending := by
  unfold State.announce
  dsimp only
  repeat' split
  all_goals simp

/-! ### The slots and the classifier -/

@[simp] theorem State.lineWrite_line (s : State) (n : Fin 16) (data : List Byte) (i : Fin 32) (src : Half) :
    (s.lineWrite n data i src).line = s.line := by
  unfold State.lineWrite
  dsimp only
  repeat' split
  all_goals simp

@[simp] theorem State.lineWrite_pool (s : State) (n : Fin 16) (data : List Byte) (i : Fin 32) (src : Half) :
    (s.lineWrite n data i src).pool = s.pool := by
  unfold State.lineWrite
  dsimp only
  repeat' split
  all_goals simp

@[simp] theorem State.lineWrite_sieve (s : State) (n : Fin 16) (data : List Byte) (i : Fin 32) (src : Half) :
    (s.lineWrite n data i src).sieve = s.sieve := by
  unfold State.lineWrite
  dsimp only
  repeat' split
  all_goals simp

@[simp] theorem State.lineWrite_classifier (s : State) (n : Fin 16) (data : List Byte) (i : Fin 32) (src : Half) :
    (s.lineWrite n data i src).classifier = s.classifier := by
  unfold State.lineWrite
  dsimp only
  repeat' split
  all_goals simp

@[simp] theorem State.lineWrite_queues (s : State) (n : Fin 16) (data : List Byte) (i : Fin 32) (src : Half) :
    (s.lineWrite n data i src).queues = s.queues := by
  unfold State.lineWrite
  dsimp only
  repeat' split
  all_goals simp

@[simp] theorem State.lineWrite_responder (s : State) (n : Fin 16) (data : List Byte) (i : Fin 32) (src : Half) :
    (s.lineWrite n data i src).responder = s.responder := by
  unfold State.lineWrite
  dsimp only
  repeat' split
  all_goals simp

@[simp] theorem State.lineWrite_sender (s : State) (n : Fin 16) (data : List Byte) (i : Fin 32) (src : Half) :
    (s.lineWrite n data i src).sender = s.sender := by
  unfold State.lineWrite
  dsimp only
  repeat' split
  all_goals simp

@[simp] theorem State.lineWrite_pins (s : State) (n : Fin 16) (data : List Byte) (i : Fin 32) (src : Half) :
    (s.lineWrite n data i src).pins = s.pins := by
  unfold State.lineWrite
  dsimp only
  repeat' split
  all_goals simp

@[simp] theorem State.lineWrite_pending (s : State) (n : Fin 16) (data : List Byte) (i : Fin 32) (src : Half) :
    (s.lineWrite n data i src).pending = s.pending := by
  unfold State.lineWrite
  dsimp only
  repeat' split
  all_goals simp

@[simp] theorem State.enqueue_line (s : State) (f : Frame) (stamp : Word) (fe : Nat) :
    (s.enqueue f stamp fe).line = s.line := by
  unfold State.enqueue
  dsimp only
  repeat' split
  all_goals simp

@[simp] theorem State.enqueue_sieve (s : State) (f : Frame) (stamp : Word) (fe : Nat) :
    (s.enqueue f stamp fe).sieve = s.sieve := by
  unfold State.enqueue
  dsimp only
  repeat' split
  all_goals simp

@[simp] theorem State.enqueue_queues (s : State) (f : Frame) (stamp : Word) (fe : Nat) :
    (s.enqueue f stamp fe).queues = s.queues := by
  unfold State.enqueue
  dsimp only
  repeat' split
  all_goals simp

@[simp] theorem State.enqueue_slots (s : State) (f : Frame) (stamp : Word) (fe : Nat) :
    (s.enqueue f stamp fe).slots = s.slots := by
  unfold State.enqueue
  dsimp only
  repeat' split
  all_goals simp

@[simp] theorem State.enqueue_responder (s : State) (f : Frame) (stamp : Word) (fe : Nat) :
    (s.enqueue f stamp fe).responder = s.responder := by
  unfold State.enqueue
  dsimp only
  repeat' split
  all_goals simp

@[simp] theorem State.enqueue_sender (s : State) (f : Frame) (stamp : Word) (fe : Nat) :
    (s.enqueue f stamp fe).sender = s.sender := by
  unfold State.enqueue
  dsimp only
  repeat' split
  all_goals simp

@[simp] theorem State.enqueue_link (s : State) (f : Frame) (stamp : Word) (fe : Nat) :
    (s.enqueue f stamp fe).link = s.link := by
  unfold State.enqueue
  dsimp only
  repeat' split
  all_goals simp

@[simp] theorem State.enqueue_presence (s : State) (f : Frame) (stamp : Word) (fe : Nat) :
    (s.enqueue f stamp fe).presence = s.presence := by
  unfold State.enqueue
  dsimp only
  repeat' split
  all_goals simp

@[simp] theorem State.enqueue_pins (s : State) (f : Frame) (stamp : Word) (fe : Nat) :
    (s.enqueue f stamp fe).pins = s.pins := by
  unfold State.enqueue
  dsimp only
  repeat' split
  all_goals simp

@[simp] theorem State.enqueue_pending (s : State) (f : Frame) (stamp : Word) (fe : Nat) :
    (s.enqueue f stamp fe).pending = s.pending := by
  unfold State.enqueue
  dsimp only
  repeat' split
  all_goals simp

@[simp] theorem State.startEvaluation_line (s : State) :
    (s.startEvaluation).line = s.line := by
  unfold State.startEvaluation
  dsimp only
  repeat' split
  all_goals simp

@[simp] theorem State.startEvaluation_pool (s : State) :
    (s.startEvaluation).pool = s.pool := by
  unfold State.startEvaluation
  dsimp only
  repeat' split
  all_goals simp

@[simp] theorem State.startEvaluation_queues (s : State) :
    (s.startEvaluation).queues = s.queues := by
  unfold State.startEvaluation
  dsimp only
  repeat' split
  all_goals simp

@[simp] theorem State.startEvaluation_slots (s : State) :
    (s.startEvaluation).slots = s.slots := by
  unfold State.startEvaluation
  dsimp only
  repeat' split
  all_goals simp

@[simp] theorem State.startEvaluation_responder (s : State) :
    (s.startEvaluation).responder = s.responder := by
  unfold State.startEvaluation
  dsimp only
  repeat' split
  all_goals simp

@[simp] theorem State.startEvaluation_sender (s : State) :
    (s.startEvaluation).sender = s.sender := by
  unfold State.startEvaluation
  dsimp only
  repeat' split
  all_goals simp

@[simp] theorem State.startEvaluation_pins (s : State) :
    (s.startEvaluation).pins = s.pins := by
  unfold State.startEvaluation
  dsimp only
  repeat' split
  all_goals simp

@[simp] theorem State.startEvaluation_pending (s : State) :
    (s.startEvaluation).pending = s.pending := by
  unfold State.startEvaluation
  dsimp only
  repeat' split
  all_goals simp

@[simp] theorem State.countScan_line (s : State) (ms : List (Fin 32 × Entry)) (v : Verdict) :
    (s.countScan ms v).line = s.line := by simp [State.countScan]

@[simp] theorem State.countScan_pool (s : State) (ms : List (Fin 32 × Entry)) (v : Verdict) :
    (s.countScan ms v).pool = s.pool := by simp [State.countScan]

@[simp] theorem State.countScan_sieve (s : State) (ms : List (Fin 32 × Entry)) (v : Verdict) :
    (s.countScan ms v).sieve = s.sieve := by simp [State.countScan]

@[simp] theorem State.countScan_queues (s : State) (ms : List (Fin 32 × Entry)) (v : Verdict) :
    (s.countScan ms v).queues = s.queues := by simp [State.countScan]

@[simp] theorem State.countScan_slots (s : State) (ms : List (Fin 32 × Entry)) (v : Verdict) :
    (s.countScan ms v).slots = s.slots := by simp [State.countScan]

@[simp] theorem State.countScan_responder (s : State) (ms : List (Fin 32 × Entry)) (v : Verdict) :
    (s.countScan ms v).responder = s.responder := by simp [State.countScan]

@[simp] theorem State.countScan_sender (s : State) (ms : List (Fin 32 × Entry)) (v : Verdict) :
    (s.countScan ms v).sender = s.sender := by simp [State.countScan]

@[simp] theorem State.countScan_link (s : State) (ms : List (Fin 32 × Entry)) (v : Verdict) :
    (s.countScan ms v).link = s.link := by simp [State.countScan]

@[simp] theorem State.countScan_presence (s : State) (ms : List (Fin 32 × Entry)) (v : Verdict) :
    (s.countScan ms v).presence = s.presence := by simp [State.countScan]

@[simp] theorem State.countScan_pins (s : State) (ms : List (Fin 32 × Entry)) (v : Verdict) :
    (s.countScan ms v).pins = s.pins := by simp [State.countScan]

@[simp] theorem State.countScan_pending (s : State) (ms : List (Fin 32 × Entry)) (v : Verdict) :
    (s.countScan ms v).pending = s.pending := by simp [State.countScan]

/-! ### The receiver -/

@[simp] theorem State.dropFrame_sieve (s : State) (r : Receiver) (c : LineCounters) :
    (s.dropFrame r c).sieve = s.sieve := by simp [State.dropFrame]

@[simp] theorem State.dropFrame_classifier (s : State) (r : Receiver) (c : LineCounters) :
    (s.dropFrame r c).classifier = s.classifier := by simp [State.dropFrame]

@[simp] theorem State.dropFrame_queues (s : State) (r : Receiver) (c : LineCounters) :
    (s.dropFrame r c).queues = s.queues := by simp [State.dropFrame]

@[simp] theorem State.dropFrame_slots (s : State) (r : Receiver) (c : LineCounters) :
    (s.dropFrame r c).slots = s.slots := by simp [State.dropFrame]

@[simp] theorem State.dropFrame_responder (s : State) (r : Receiver) (c : LineCounters) :
    (s.dropFrame r c).responder = s.responder := by simp [State.dropFrame]

@[simp] theorem State.dropFrame_sender (s : State) (r : Receiver) (c : LineCounters) :
    (s.dropFrame r c).sender = s.sender := by simp [State.dropFrame]

@[simp] theorem State.dropFrame_link (s : State) (r : Receiver) (c : LineCounters) :
    (s.dropFrame r c).link = s.link := by simp [State.dropFrame]

@[simp] theorem State.dropFrame_presence (s : State) (r : Receiver) (c : LineCounters) :
    (s.dropFrame r c).presence = s.presence := by simp [State.dropFrame]

@[simp] theorem State.dropFrame_pins (s : State) (r : Receiver) (c : LineCounters) :
    (s.dropFrame r c).pins = s.pins := by simp [State.dropFrame]

@[simp] theorem State.dropFrame_pending (s : State) (r : Receiver) (c : LineCounters) :
    (s.dropFrame r c).pending = s.pending := by simp [State.dropFrame]

@[simp] theorem State.receiveByte_sieve (s : State) (b : Byte) :
    (s.receiveByte b).sieve = s.sieve := by
  unfold State.receiveByte
  dsimp only
  repeat' split
  all_goals simp

@[simp] theorem State.receiveByte_classifier (s : State) (b : Byte) :
    (s.receiveByte b).classifier = s.classifier := by
  unfold State.receiveByte
  dsimp only
  repeat' split
  all_goals simp

@[simp] theorem State.receiveByte_queues (s : State) (b : Byte) :
    (s.receiveByte b).queues = s.queues := by
  unfold State.receiveByte
  dsimp only
  repeat' split
  all_goals simp

@[simp] theorem State.receiveByte_slots (s : State) (b : Byte) :
    (s.receiveByte b).slots = s.slots := by
  unfold State.receiveByte
  dsimp only
  repeat' split
  all_goals simp

@[simp] theorem State.receiveByte_responder (s : State) (b : Byte) :
    (s.receiveByte b).responder = s.responder := by
  unfold State.receiveByte
  dsimp only
  repeat' split
  all_goals simp

@[simp] theorem State.receiveByte_sender (s : State) (b : Byte) :
    (s.receiveByte b).sender = s.sender := by
  unfold State.receiveByte
  dsimp only
  repeat' split
  all_goals simp

@[simp] theorem State.receiveByte_link (s : State) (b : Byte) :
    (s.receiveByte b).link = s.link := by
  unfold State.receiveByte
  dsimp only
  repeat' split
  all_goals simp

@[simp] theorem State.receiveByte_presence (s : State) (b : Byte) :
    (s.receiveByte b).presence = s.presence := by
  unfold State.receiveByte
  dsimp only
  repeat' split
  all_goals simp

@[simp] theorem State.receiveByte_pins (s : State) (b : Byte) :
    (s.receiveByte b).pins = s.pins := by
  unfold State.receiveByte
  dsimp only
  repeat' split
  all_goals simp

@[simp] theorem State.receiveByte_pending (s : State) (b : Byte) :
    (s.receiveByte b).pending = s.pending := by
  unfold State.receiveByte
  dsimp only
  repeat' split
  all_goals simp

/-! ### Arrival, the stages and the build -/

@[simp] theorem State.dropToFit_line (q : Fin 4) (c : Nat) (rs : List Record) (s : State) :
    (State.dropToFit q c rs s).line = s.line := by
  induction rs generalizing s with
  | nil => rfl
  | cons r rs ih =>
    unfold State.dropToFit
    split
    · rfl
    · rw [ih]
      simp

@[simp] theorem State.dropToFit_sieve (q : Fin 4) (c : Nat) (rs : List Record) (s : State) :
    (State.dropToFit q c rs s).sieve = s.sieve := by
  induction rs generalizing s with
  | nil => rfl
  | cons r rs ih =>
    unfold State.dropToFit
    split
    · rfl
    · rw [ih]
      simp

@[simp] theorem State.dropToFit_classifier (q : Fin 4) (c : Nat) (rs : List Record) (s : State) :
    (State.dropToFit q c rs s).classifier = s.classifier := by
  induction rs generalizing s with
  | nil => rfl
  | cons r rs ih =>
    unfold State.dropToFit
    split
    · rfl
    · rw [ih]
      simp

@[simp] theorem State.dropToFit_slots (q : Fin 4) (c : Nat) (rs : List Record) (s : State) :
    (State.dropToFit q c rs s).slots = s.slots := by
  induction rs generalizing s with
  | nil => rfl
  | cons r rs ih =>
    unfold State.dropToFit
    split
    · rfl
    · rw [ih]
      simp

@[simp] theorem State.dropToFit_responder (q : Fin 4) (c : Nat) (rs : List Record) (s : State) :
    (State.dropToFit q c rs s).responder = s.responder := by
  induction rs generalizing s with
  | nil => rfl
  | cons r rs ih =>
    unfold State.dropToFit
    split
    · rfl
    · rw [ih]
      simp

@[simp] theorem State.dropToFit_sender (q : Fin 4) (c : Nat) (rs : List Record) (s : State) :
    (State.dropToFit q c rs s).sender = s.sender := by
  induction rs generalizing s with
  | nil => rfl
  | cons r rs ih =>
    unfold State.dropToFit
    split
    · rfl
    · rw [ih]
      simp

@[simp] theorem State.dropToFit_link (q : Fin 4) (c : Nat) (rs : List Record) (s : State) :
    (State.dropToFit q c rs s).link = s.link := by
  induction rs generalizing s with
  | nil => rfl
  | cons r rs ih =>
    unfold State.dropToFit
    split
    · rfl
    · rw [ih]
      simp

@[simp] theorem State.dropToFit_presence (q : Fin 4) (c : Nat) (rs : List Record) (s : State) :
    (State.dropToFit q c rs s).presence = s.presence := by
  induction rs generalizing s with
  | nil => rfl
  | cons r rs ih =>
    unfold State.dropToFit
    split
    · rfl
    · rw [ih]
      simp

@[simp] theorem State.dropToFit_pins (q : Fin 4) (c : Nat) (rs : List Record) (s : State) :
    (State.dropToFit q c rs s).pins = s.pins := by
  induction rs generalizing s with
  | nil => rfl
  | cons r rs ih =>
    unfold State.dropToFit
    split
    · rfl
    · rw [ih]
      simp

@[simp] theorem State.dropToFit_pending (q : Fin 4) (c : Nat) (rs : List Record) (s : State) :
    (State.dropToFit q c rs s).pending = s.pending := by
  induction rs generalizing s with
  | nil => rfl
  | cons r rs ih =>
    unfold State.dropToFit
    split
    · rfl
    · rw [ih]
      simp

@[simp] theorem State.arrive_line (s : State) (q : Fin 4) (r : Record) :
    (s.arrive q r).line = s.line := by
  unfold State.arrive
  dsimp only
  repeat' split
  all_goals simp

@[simp] theorem State.arrive_sieve (s : State) (q : Fin 4) (r : Record) :
    (s.arrive q r).sieve = s.sieve := by
  unfold State.arrive
  dsimp only
  repeat' split
  all_goals simp

@[simp] theorem State.arrive_classifier (s : State) (q : Fin 4) (r : Record) :
    (s.arrive q r).classifier = s.classifier := by
  unfold State.arrive
  dsimp only
  repeat' split
  all_goals simp

@[simp] theorem State.arrive_slots (s : State) (q : Fin 4) (r : Record) :
    (s.arrive q r).slots = s.slots := by
  unfold State.arrive
  dsimp only
  repeat' split
  all_goals simp

@[simp] theorem State.arrive_responder (s : State) (q : Fin 4) (r : Record) :
    (s.arrive q r).responder = s.responder := by
  unfold State.arrive
  dsimp only
  repeat' split
  all_goals simp

@[simp] theorem State.arrive_sender (s : State) (q : Fin 4) (r : Record) :
    (s.arrive q r).sender = s.sender := by
  unfold State.arrive
  dsimp only
  repeat' split
  all_goals simp

@[simp] theorem State.arrive_pins (s : State) (q : Fin 4) (r : Record) :
    (s.arrive q r).pins = s.pins := by
  unfold State.arrive
  dsimp only
  repeat' split
  all_goals simp

@[simp] theorem State.arrive_pending (s : State) (q : Fin 4) (r : Record) :
    (s.arrive q r).pending = s.pending := by
  unfold State.arrive
  dsimp only
  repeat' split
  all_goals simp

@[simp] theorem State.captureStage_line (s : State) (f : Frame) (cs : List (Fin 32 × Capture)) :
    (s.captureStage f cs).1.line = s.line := by
  induction cs generalizing s with
  | nil => rfl
  | cons c cs ih =>
    unfold State.captureStage
    split <;> simp [ih]

@[simp] theorem State.captureStage_pool (s : State) (f : Frame) (cs : List (Fin 32 × Capture)) :
    (s.captureStage f cs).1.pool = s.pool := by
  induction cs generalizing s with
  | nil => rfl
  | cons c cs ih =>
    unfold State.captureStage
    split <;> simp [ih]

@[simp] theorem State.captureStage_sieve (s : State) (f : Frame) (cs : List (Fin 32 × Capture)) :
    (s.captureStage f cs).1.sieve = s.sieve := by
  induction cs generalizing s with
  | nil => rfl
  | cons c cs ih =>
    unfold State.captureStage
    split <;> simp [ih]

@[simp] theorem State.captureStage_queues (s : State) (f : Frame) (cs : List (Fin 32 × Capture)) :
    (s.captureStage f cs).1.queues = s.queues := by
  induction cs generalizing s with
  | nil => rfl
  | cons c cs ih =>
    unfold State.captureStage
    split <;> simp [ih]

@[simp] theorem State.captureStage_responder (s : State) (f : Frame) (cs : List (Fin 32 × Capture)) :
    (s.captureStage f cs).1.responder = s.responder := by
  induction cs generalizing s with
  | nil => rfl
  | cons c cs ih =>
    unfold State.captureStage
    split <;> simp [ih]

@[simp] theorem State.captureStage_sender (s : State) (f : Frame) (cs : List (Fin 32 × Capture)) :
    (s.captureStage f cs).1.sender = s.sender := by
  induction cs generalizing s with
  | nil => rfl
  | cons c cs ih =>
    unfold State.captureStage
    split <;> simp [ih]

@[simp] theorem State.captureStage_pins (s : State) (f : Frame) (cs : List (Fin 32 × Capture)) :
    (s.captureStage f cs).1.pins = s.pins := by
  induction cs generalizing s with
  | nil => rfl
  | cons c cs ih =>
    unfold State.captureStage
    split <;> simp [ih]

@[simp] theorem State.captureStage_pending (s : State) (f : Frame) (cs : List (Fin 32 × Capture)) :
    (s.captureStage f cs).1.pending = s.pending := by
  induction cs generalizing s with
  | nil => rfl
  | cons c cs ih =>
    unfold State.captureStage
    split <;> simp [ih]

@[simp] theorem State.placeReply_line (s : State) (n : Fin 16) (f : Frame) (w : Option Nat) :
    (s.placeReply n f w).1.line = s.line := by
  unfold State.placeReply
  dsimp only
  split <;> simp

@[simp] theorem State.placeReply_sieve (s : State) (n : Fin 16) (f : Frame) (w : Option Nat) :
    (s.placeReply n f w).1.sieve = s.sieve := by
  unfold State.placeReply
  dsimp only
  split <;> simp

@[simp] theorem State.placeReply_classifier (s : State) (n : Fin 16) (f : Frame) (w : Option Nat) :
    (s.placeReply n f w).1.classifier = s.classifier := by
  unfold State.placeReply
  dsimp only
  split <;> simp

@[simp] theorem State.placeReply_queues (s : State) (n : Fin 16) (f : Frame) (w : Option Nat) :
    (s.placeReply n f w).1.queues = s.queues := by
  unfold State.placeReply
  dsimp only
  split <;> simp

@[simp] theorem State.placeReply_slots (s : State) (n : Fin 16) (f : Frame) (w : Option Nat) :
    (s.placeReply n f w).1.slots = s.slots := by
  unfold State.placeReply
  dsimp only
  split <;> simp

@[simp] theorem State.placeReply_sender (s : State) (n : Fin 16) (f : Frame) (w : Option Nat) :
    (s.placeReply n f w).1.sender = s.sender := by
  unfold State.placeReply
  dsimp only
  split <;> simp

@[simp] theorem State.placeReply_link (s : State) (n : Fin 16) (f : Frame) (w : Option Nat) :
    (s.placeReply n f w).1.link = s.link := by
  unfold State.placeReply
  dsimp only
  split <;> simp

@[simp] theorem State.placeReply_presence (s : State) (n : Fin 16) (f : Frame) (w : Option Nat) :
    (s.placeReply n f w).1.presence = s.presence := by
  unfold State.placeReply
  dsimp only
  split <;> simp

@[simp] theorem State.placeReply_pins (s : State) (n : Fin 16) (f : Frame) (w : Option Nat) :
    (s.placeReply n f w).1.pins = s.pins := by
  unfold State.placeReply
  dsimp only
  split <;> simp

@[simp] theorem State.placeReply_pending (s : State) (n : Fin 16) (f : Frame) (w : Option Nat) :
    (s.placeReply n f w).1.pending = s.pending := by
  unfold State.placeReply
  dsimp only
  split <;> simp

@[simp] theorem State.build_line (s : State) (n : Fin 16) (f : Frame) (fe : Nat) :
    (s.build n f fe).1.line = s.line := by
  unfold State.build
  dsimp only
  repeat' split
  all_goals simp

@[simp] theorem State.build_sieve (s : State) (n : Fin 16) (f : Frame) (fe : Nat) :
    (s.build n f fe).1.sieve = s.sieve := by
  unfold State.build
  dsimp only
  repeat' split
  all_goals simp

@[simp] theorem State.build_classifier (s : State) (n : Fin 16) (f : Frame) (fe : Nat) :
    (s.build n f fe).1.classifier = s.classifier := by
  unfold State.build
  dsimp only
  repeat' split
  all_goals simp

@[simp] theorem State.build_queues (s : State) (n : Fin 16) (f : Frame) (fe : Nat) :
    (s.build n f fe).1.queues = s.queues := by
  unfold State.build
  dsimp only
  repeat' split
  all_goals simp

@[simp] theorem State.build_slots (s : State) (n : Fin 16) (f : Frame) (fe : Nat) :
    (s.build n f fe).1.slots = s.slots := by
  unfold State.build
  dsimp only
  repeat' split
  all_goals simp

@[simp] theorem State.build_sender (s : State) (n : Fin 16) (f : Frame) (fe : Nat) :
    (s.build n f fe).1.sender = s.sender := by
  unfold State.build
  dsimp only
  repeat' split
  all_goals simp

@[simp] theorem State.build_link (s : State) (n : Fin 16) (f : Frame) (fe : Nat) :
    (s.build n f fe).1.link = s.link := by
  unfold State.build
  dsimp only
  repeat' split
  all_goals simp

@[simp] theorem State.build_presence (s : State) (n : Fin 16) (f : Frame) (fe : Nat) :
    (s.build n f fe).1.presence = s.presence := by
  unfold State.build
  dsimp only
  repeat' split
  all_goals simp

@[simp] theorem State.build_pins (s : State) (n : Fin 16) (f : Frame) (fe : Nat) :
    (s.build n f fe).1.pins = s.pins := by
  unfold State.build
  dsimp only
  repeat' split
  all_goals simp

@[simp] theorem State.build_pending (s : State) (n : Fin 16) (f : Frame) (fe : Nat) :
    (s.build n f fe).1.pending = s.pending := by
  unfold State.build
  dsimp only
  repeat' split
  all_goals simp

@[simp] theorem State.answerStage_line (s : State) (a : Option (Fin 16)) (w : Waiting) :
    (s.answerStage a w).1.line = s.line := by
  unfold State.answerStage
  repeat' split
  all_goals simp

@[simp] theorem State.answerStage_sieve (s : State) (a : Option (Fin 16)) (w : Waiting) :
    (s.answerStage a w).1.sieve = s.sieve := by
  unfold State.answerStage
  repeat' split
  all_goals simp

@[simp] theorem State.answerStage_queues (s : State) (a : Option (Fin 16)) (w : Waiting) :
    (s.answerStage a w).1.queues = s.queues := by
  unfold State.answerStage
  repeat' split
  all_goals simp

@[simp] theorem State.answerStage_slots (s : State) (a : Option (Fin 16)) (w : Waiting) :
    (s.answerStage a w).1.slots = s.slots := by
  unfold State.answerStage
  repeat' split
  all_goals simp

@[simp] theorem State.answerStage_sender (s : State) (a : Option (Fin 16)) (w : Waiting) :
    (s.answerStage a w).1.sender = s.sender := by
  unfold State.answerStage
  repeat' split
  all_goals simp

@[simp] theorem State.answerStage_link (s : State) (a : Option (Fin 16)) (w : Waiting) :
    (s.answerStage a w).1.link = s.link := by
  unfold State.answerStage
  repeat' split
  all_goals simp

@[simp] theorem State.answerStage_presence (s : State) (a : Option (Fin 16)) (w : Waiting) :
    (s.answerStage a w).1.presence = s.presence := by
  unfold State.answerStage
  repeat' split
  all_goals simp

@[simp] theorem State.answerStage_pins (s : State) (a : Option (Fin 16)) (w : Waiting) :
    (s.answerStage a w).1.pins = s.pins := by
  unfold State.answerStage
  repeat' split
  all_goals simp

@[simp] theorem State.answerStage_pending (s : State) (a : Option (Fin 16)) (w : Waiting) :
    (s.answerStage a w).1.pending = s.pending := by
  unfold State.answerStage
  repeat' split
  all_goals simp

@[simp] theorem State.deliverStage_line (s : State) (v : Verdict) (e : Evaluation) (a c : Bool) :
    (s.deliverStage v e a c).line = s.line := by
  unfold State.deliverStage
  split <;> simp

@[simp] theorem State.deliverStage_sieve (s : State) (v : Verdict) (e : Evaluation) (a c : Bool) :
    (s.deliverStage v e a c).sieve = s.sieve := by
  unfold State.deliverStage
  split <;> simp

@[simp] theorem State.deliverStage_classifier (s : State) (v : Verdict) (e : Evaluation) (a c : Bool) :
    (s.deliverStage v e a c).classifier = s.classifier := by
  unfold State.deliverStage
  split <;> simp

@[simp] theorem State.deliverStage_slots (s : State) (v : Verdict) (e : Evaluation) (a c : Bool) :
    (s.deliverStage v e a c).slots = s.slots := by
  unfold State.deliverStage
  split <;> simp

@[simp] theorem State.deliverStage_responder (s : State) (v : Verdict) (e : Evaluation) (a c : Bool) :
    (s.deliverStage v e a c).responder = s.responder := by
  unfold State.deliverStage
  split <;> simp

@[simp] theorem State.deliverStage_sender (s : State) (v : Verdict) (e : Evaluation) (a c : Bool) :
    (s.deliverStage v e a c).sender = s.sender := by
  unfold State.deliverStage
  split <;> simp

@[simp] theorem State.deliverStage_pins (s : State) (v : Verdict) (e : Evaluation) (a c : Bool) :
    (s.deliverStage v e a c).pins = s.pins := by
  unfold State.deliverStage
  split <;> simp

@[simp] theorem State.deliverStage_pending (s : State) (v : Verdict) (e : Evaluation) (a c : Bool) :
    (s.deliverStage v e a c).pending = s.pending := by
  unfold State.deliverStage
  split <;> simp

@[simp] theorem State.endAttemptStuck_sieve (s : State) (draw : BitVec 5) :
    (s.endAttemptStuck draw).sieve = s.sieve := by
  unfold State.endAttemptStuck
  repeat' split
  all_goals simp

@[simp] theorem State.endAttemptStuck_classifier (s : State) (draw : BitVec 5) :
    (s.endAttemptStuck draw).classifier = s.classifier := by
  unfold State.endAttemptStuck
  repeat' split
  all_goals simp

@[simp] theorem State.endAttemptStuck_queues (s : State) (draw : BitVec 5) :
    (s.endAttemptStuck draw).queues = s.queues := by
  unfold State.endAttemptStuck
  repeat' split
  all_goals simp

@[simp] theorem State.endAttemptStuck_slots (s : State) (draw : BitVec 5) :
    (s.endAttemptStuck draw).slots = s.slots := by
  unfold State.endAttemptStuck
  repeat' split
  all_goals simp

@[simp] theorem State.endAttemptStuck_pins (s : State) (draw : BitVec 5) :
    (s.endAttemptStuck draw).pins = s.pins := by
  unfold State.endAttemptStuck
  repeat' split
  all_goals simp

@[simp] theorem State.endAttemptStuck_pending (s : State) (draw : BitVec 5) :
    (s.endAttemptStuck draw).pending = s.pending := by
  unfold State.endAttemptStuck
  repeat' split
  all_goals simp

end Sys2Proof.Machine
end

