-- ==== Sys2Proof/Laws/Lists.lean ====
section
/-! SUPPORT. The first member of a list that meets a condition: finding it, changing it, removing it. -/

namespace Sys2Proof.Machine

/-- The first member that meets `p` is the one behind members that do not. -/
theorem find?_split {α : Type} (p : α → Bool) (old rest : List α) (e : α)
    (ho : ∀ x ∈ old, p x = false) (he : p e = true) : (old ++ e :: rest).find? p = some e := by
  rw [List.find?_append, List.find?_eq_none.mpr (fun x hx => by simp [ho x hx])]
  simp [he]

/-- Removing the first member that meets `p` joins what stands before it and behind it. -/
theorem eraseP_split {α : Type} (p : α → Bool) (old rest : List α) (e : α)
    (ho : ∀ x ∈ old, p x = false) (he : p e = true) : (old ++ e :: rest).eraseP p = old ++ rest := by
  rw [List.eraseP_append_right _ (fun x hx => by simp [ho x hx])]
  simp [he]

/-- Changing the first member that meets `p` changes the one behind members that do not. -/
theorem changeFirst_split {α : Type} (p : α → Bool) (f : α → α) (old rest : List α) (e : α)
    (ho : ∀ x ∈ old, p x = false) (he : p e = true) :
    changeFirst p f (old ++ e :: rest) = old ++ f e :: rest := by
  induction old with
  | nil => simp [changeFirst, he]
  | cons a as ih =>
    simp [changeFirst, ho a (by simp), ih (fun x hx => ho x (by simp [hx]))]

/-- Where no member meets `p`, nothing is changed. -/
theorem changeFirst_none {α : Type} (p : α → Bool) (f : α → α) (l : List α)
    (h : ∀ x ∈ l, p x = false) : changeFirst p f l = l := by
  induction l with
  | nil => rfl
  | cons a as ih => simp [changeFirst, h a (by simp), ih (fun x hx => h x (by simp [hx]))]

/-- A change keeps a property of the members that it keeps of each. -/
theorem changeFirst_mem {α : Type} (p : α → Bool) (f : α → α) (l : List α) (x : α)
    (h : x ∈ changeFirst p f l) : x ∈ l ∨ ∃ y ∈ l, p y = true ∧ x = f y := by
  induction l with
  | nil => simp [changeFirst] at h
  | cons a as ih =>
    unfold changeFirst at h
    split at h
    · rename_i ha
      rcases List.mem_cons.mp h with rfl | h
      · exact Or.inr ⟨a, by simp, ha, rfl⟩
      · exact Or.inl (by simp [h])
    · rcases List.mem_cons.mp h with rfl | h
      · exact Or.inl (by simp)
      · rcases ih h with h | ⟨y, hy, hp, hx⟩
        · exact Or.inl (by simp [h])
        · exact Or.inr ⟨y, by simp [hy], hp, hx⟩

/-- A change that keeps a function of the members keeps the list of its values. -/
theorem changeFirst_map {α β : Type} (p : α → Bool) (f : α → α) (g : α → β) (l : List α)
    (h : ∀ a, g (f a) = g a) : (changeFirst p f l).map g = l.map g := by
  induction l with
  | nil => rfl
  | cons a as ih =>
    unfold changeFirst
    split <;> simp [h, ih]

end Sys2Proof.Machine
end

