-- ==== Sys2Proof/Laws/PerInstr.lean ====
section
/-! SUPPORT. What holds of every command as syntax, one lemma for each constructor: no word of the table spells
it (no row gives bits, assumption log 4). -/

namespace Sys2Proof.Laws.NoWord

/-- No word of any width spells the command. -/
def Statement (i : Sys2Proof.Instr) : Prop := ∀ nbits w : Nat, Sys2Proof.decodeTableWord nbits w ≠ some i

/-- The lemma the constructors share. -/
theorem noWord (i : Sys2Proof.Instr) : Statement i := by
  intro nbits w h
  simp [Sys2Proof.decodeTableWord] at h

theorem powerUp : Statement .powerUp := noWord _
theorem resetNAssert : Statement .resetNAssert := noWord _
theorem resetNRelease : Statement .resetNRelease := noWord _
theorem put (dt : Nat) : Statement (.put dt) := noWord _
theorem get (dt : Nat) : Statement (.get dt) := noWord _
theorem badExchange (dt : Nat) : Statement (.badExchange dt) := noWord _
theorem messageHeld (bytes : List Sys2Proof.Byte) : Statement (.messageHeld bytes) := noWord _
theorem rejectTooLong (bytes : List Sys2Proof.Byte) : Statement (.rejectTooLong bytes) := noWord _
theorem rejectShort (bytes : List Sys2Proof.Byte) : Statement (.rejectShort bytes) := noWord _
theorem getAck (ack : Sys2Proof.Byte) : Statement (.getAck ack) := noWord _
theorem resend (flags : Sys2Proof.Byte) : Statement (.resend flags) := noWord _
theorem getSendingStep : Statement .getSendingStep := noWord _
theorem unknownKindRequest : Statement .unknownKindRequest := noWord _
theorem identify : Statement .identify := noWord _
theorem echo : Statement .echo := noWord _
theorem timeRead : Statement .timeRead := noWord _
theorem resetPart : Statement .resetPart := noWord _
theorem resetLineSide : Statement .resetLineSide := noWord _
theorem lineSetup : Statement .lineSetup := noWord _
theorem addressSet : Statement .addressSet := noWord _
theorem lineStart : Statement .lineStart := noWord _
theorem lineStop : Statement .lineStop := noWord _
theorem lineStatus : Statement .lineStatus := noWord _
theorem lineCounters : Statement .lineCounters := noWord _
theorem poolStatus : Statement .poolStatus := noWord _
theorem poolSetup : Statement .poolSetup := noWord _
theorem sievePut : Statement .sievePut := noWord _
theorem sieveGet : Statement .sieveGet := noWord _
theorem sieveClear : Statement .sieveClear := noWord _
theorem sieveCopy : Statement .sieveCopy := noWord _
theorem sieveDefault : Statement .sieveDefault := noWord _
theorem sieveCommit : Statement .sieveCommit := noWord _
theorem hitsRead : Statement .hitsRead := noWord _
theorem hitsClear : Statement .hitsClear := noWord _
theorem classifyStatus : Statement .classifyStatus := noWord _
theorem queueSetup : Statement .queueSetup := noWord _
theorem queueStatus : Statement .queueStatus := noWord _
theorem framePeek : Statement .framePeek := noWord _
theorem frameTake : Statement .frameTake := noWord _
theorem frameDiscard : Statement .frameDiscard := noWord _
theorem queueFlush : Statement .queueFlush := noWord _
theorem slotRead : Statement .slotRead := noWord _
theorem slotWrite : Statement .slotWrite := noWord _
theorem slotClear : Statement .slotClear := noWord _
theorem slotSetup : Statement .slotSetup := noWord _
theorem templatePut : Statement .templatePut := noWord _
theorem templateGet : Statement .templateGet := noWord _
theorem templateClear : Statement .templateClear := noWord _
theorem responderStatus : Statement .responderStatus := noWord _
theorem frameSend : Statement .frameSend := noWord _
theorem sendCancel : Statement .sendCancel := noWord _
theorem sendStatus : Statement .sendStatus := noWord _
theorem sleep : Statement .sleep := noWord _
theorem presenceSetup : Statement .presenceSetup := noWord _
theorem frameStart (dt : Nat) : Statement (.frameStart dt) := noWord _
theorem receiveClaim (dt : Nat) (bytes : List Sys2Proof.Byte) : Statement (.receiveClaim dt bytes) := noWord _
theorem malformed (dt : Nat) (bytes : List Sys2Proof.Byte) : Statement (.malformed dt bytes) := noWord _
theorem fragment (dt : Nat) (cause : Sys2Proof.FragmentCause) : Statement (.fragment dt cause) := noWord _
theorem activityEnd (dt : Nat) : Statement (.activityEnd dt) := noWord _
theorem frameEnd (dt : Nat) (bytes : List Sys2Proof.Byte) (fcs : Sys2Proof.Half) : Statement (.frameEnd dt bytes fcs) := noWord _
theorem foreignActivity (dt : Nat) : Statement (.foreignActivity dt) := noWord _
theorem windowClose (dt : Nat) : Statement (.windowClose dt) := noWord _
theorem gapPassed (dt : Nat) : Statement (.gapPassed dt) := noWord _
theorem turnaround (dt : Nat) : Statement (.turnaround dt) := noWord _
theorem attemptSent (dt : Nat) : Statement (.attemptSent dt) := noWord _
theorem collision (dt : Nat) : Statement (.collision dt) := noWord _
theorem jamEnd (dt : Nat) (draw : BitVec 5) : Statement (.jamEnd dt draw) := noWord _
theorem backoffEnd (dt : Nat) (owner : Sys2Proof.BackoffOwner) : Statement (.backoffEnd dt owner) := noWord _
theorem stuckLine (dt : Nat) (run : Nat) (draw : BitVec 5) : Statement (.stuckLine dt run draw) := noWord _
theorem faultCleared (dt : Nat) : Statement (.faultCleared dt) := noWord _
theorem evaluationStart (dt : Nat) : Statement (.evaluationStart dt) := noWord _
theorem scanEnd (dt : Nat) : Statement (.scanEnd dt) := noWord _
theorem expiry (dt : Nat) (queue : Fin 4) (frameId : Sys2Proof.Half) : Statement (.expiry dt queue frameId) := noWord _
theorem slotStale (dt : Nat) (slot : Fin 16) : Statement (.slotStale dt slot) := noWord _

end Sys2Proof.Laws.NoWord
end

