-- ==== Sys2Proof/Laws/Pool.lean ====
section
/-! SUPPORT. What the pool's operations do to the account: claims, releases and moves keep the sum of R26, and
none of them breaks the reserve of R29. -/

namespace Sys2Proof.Machine

/-- The held count that has just been set. -/
@[simp] theorem Pool.held_setHeld (p : Pool) (h : Holder) (n : Nat) : (p.setHeld h n).held h = n := by
  cases h <;> simp [Pool.held, Pool.setHeld]

@[simp] theorem Pool.setHeld_free (p : Pool) (h : Holder) (n : Nat) : (p.setHeld h n).free = p.free := by
  cases h <;> rfl

@[simp] theorem Pool.setHeld_quota (p : Pool) (h : Holder) (n : Nat) : (p.setHeld h n).quota = p.quota := by
  cases h <;> rfl

/-- Setting one held count changes the sum by the difference. -/
theorem Pool.total_setHeld (p : Pool) (h : Holder) (n : Nat) :
    (p.setHeld h n).total + p.held h = p.total + n := by
  cases h with
  | queue q =>
    have hq : q = 0 ∨ q = 1 ∨ q = 2 ∨ q = 3 := by omega
    rcases hq with rfl | rfl | rfl | rfl <;>
      simp [Pool.total, Pool.held, Pool.setHeld] <;> omega
  | _ =>
    simp [Pool.total, Pool.held, Pool.setHeld]
    omega

/-- The sum does not read the low-water mark, and it follows the free count. -/
theorem Pool.total_withFree (p : Pool) (f m : Nat) :
    ({ p with free := f, lowWater := m } : Pool).total + p.free = p.total + f := by
  simp only [Pool.total]
  omega

/-- A claim that the free count can serve keeps the sum (R26, R28). -/
theorem Pool.total_claim (p : Pool) (h : Holder) (c : Nat) (hc : c ≤ p.free) :
    (p.claim h c).total = p.total := by
  have h1 := Pool.total_setHeld p h (p.held h + c)
  have h2 := Pool.total_withFree (p.setHeld h (p.held h + c)) (p.free - c) (min p.lowWater (p.free - c))
  rw [Pool.setHeld_free] at h2
  simp only [Pool.claim]
  omega

/-- A release keeps the sum (R26, R31). -/
theorem Pool.total_release (p : Pool) (h : Holder) (c : Nat) : (p.release h c).total = p.total := by
  have h1 := Pool.total_setHeld p h (p.held h - min c (p.held h))
  have h2 := Pool.total_withFree (p.setHeld h (p.held h - min c (p.held h)))
    (p.free + min c (p.held h)) (p.setHeld h (p.held h - min c (p.held h))).lowWater
  have h4 : min c (p.held h) ≤ p.held h := Nat.min_le_right _ _
  rw [Pool.setHeld_free] at h2
  simp only [Pool.release]
  omega

/-- A move keeps the sum and the free count (R26, R32). -/
theorem Pool.total_move (p : Pool) (a b : Holder) (c : Nat) : (p.move a b c).total = p.total := by
  have h1 := Pool.total_setHeld p a (p.held a - min c (p.held a))
  have h2 := Pool.total_setHeld (p.setHeld a (p.held a - min c (p.held a))) b
    ((p.setHeld a (p.held a - min c (p.held a))).held b + min c (p.held a))
  have h4 : min c (p.held a) ≤ p.held a := Nat.min_le_right _ _
  simp only [Pool.move]
  omega

@[simp] theorem Pool.move_free (p : Pool) (a b : Holder) (c : Nat) : (p.move a b c).free = p.free := by
  simp [Pool.move]

/-- Two releases of one holder are one release of the sum (R31). -/
theorem Pool.release_release (p : Pool) (h : Holder) (a b : Nat) :
    (p.release h a).release h b = p.release h (a + b) := by
  have e : min a (p.held h) + min b (p.held h - min a (p.held h)) = min (a + b) (p.held h) := by omega
  have f : p.held h - min a (p.held h) - min b (p.held h - min a (p.held h)) =
      p.held h - min (a + b) (p.held h) := by omega
  cases h <;>
    simp only [Pool.release, Pool.held, Pool.setHeld, Vector.set_set, Vector.getElem_set_self,
      Fin.getElem_fin] at * <;>
    simp only [e, f, Nat.add_assoc]

/-- A release of no cells changes nothing. -/
@[simp] theorem Pool.release_zero (p : Pool) (h : Holder) : p.release h 0 = p := by
  cases h <;> simp [Pool.release, Pool.held, Pool.setHeld]

/-- A granted ordinary claim leaves at least 16 less RESPONDER's cells free (R28). -/
theorem Pool.ordinaryOk_le (p : Pool) (c : Nat) (h : p.ordinaryOk c = true) :
    c ≤ p.free ∧ 16 - p.responder ≤ p.free - c := by
  simpa [Pool.ordinaryOk] using h

/-- A responder claim is granted exactly when the free count is at least the cells asked (R29). -/
theorem Pool.responderOk_le (p : Pool) (c : Nat) (h : p.responderOk c = true) : c ≤ p.free := by
  simpa [Pool.responderOk] using h

end Sys2Proof.Machine
end

