-- ==== Sys2Proof/Laws/Queues.lean ====
section
/-! SUPPORT. What an arrival does at a delivery queue under DROP_OLDEST: the head records that leave, their cells
and their count. -/

namespace Sys2Proof.Machine

/-- Counting nothing. -/
@[simp] theorem bumpBy_zero (c : Word) : bumpBy c 0 = c := by
  unfold bumpBy
  split
  · simp
  · have h := c.isLt
    omega

/-- Two counts one after the other are one count of the sum. -/
theorem bumpBy_bumpBy (c : Word) (a b : Nat) : bumpBy (bumpBy c a) b = bumpBy c (a + b) := by
  unfold bumpBy
  apply BitVec.eq_of_toNat_eq
  split <;> split <;> (try split) <;> simp_all <;> omega

/-- A record fits when neither limit is passed (R79). -/
theorem State.fits_iff (s : State) (q : Fin 4) (c : Nat) :
    s.fits q c = true ↔ s.queues[q].records.length + 1 ≤ s.queues[q].settings.depth ∧
      s.pool.queue[q] + c ≤ s.queues[q].settings.cells := by
  simp [State.fits]

/-- DROP_OLDEST removes the records `old` where a record of `c` cells fits behind their removal and not before
it (R80): they leave counted in OVERFLOW_OLD with their chains released. -/
theorem State.dropToFit_split (q : Fin 4) (c : Nat) (rest : List Record) : ∀ (old : List Record) (s : State),
    s.queues[q].records = old ++ rest →
    (∀ a b, old = a ++ b → b ≠ [] → s.queues[q].settings.depth < (b ++ rest).length + 1 ∨
      s.queues[q].settings.cells < (s.pool.release (.queue q) (cellsOf a)).queue[q] + c) →
    rest.length + 1 ≤ s.queues[q].settings.depth →
    (s.pool.release (.queue q) (cellsOf old)).queue[q] + c ≤ s.queues[q].settings.cells →
    State.dropToFit q c (old ++ rest) s = { s with
      queues := s.queues.set q { s.queues[q] with
        records := rest
        counters := { s.queues[q].counters with
          overflowOld := bumpBy s.queues[q].counters.overflowOld old.length } }
      pool := s.pool.release (.queue q) (cellsOf old) } := by
  have e0 : cellsOf ([] : List Record) = 0 := rfl
  intro old
  induction old with
  | nil =>
    intro s h1 _ h3 h4
    rw [e0, Pool.release_zero] at h4
    have hf : s.fits q c = true := by
      rw [State.fits_iff, h1]
      exact ⟨h3, h4⟩
    have hs : State.dropToFit q c ([] ++ rest) s = s := by
      cases rest with
      | nil => rfl
      | cons a l => simp only [List.nil_append, State.dropToFit, hf, if_true]
    rw [hs, e0, Pool.release_zero]
    simp only [List.length_nil, bumpBy_zero]
    have hr : rest = s.queues[q].records := by
      rw [h1]
      rfl
    rw [hr]
    have hq : s.queues.set q s.queues[q] = s.queues := by simp
    conv => lhs; rw [show s = { s with queues := s.queues.set q s.queues[q] } by rw [hq]]
  | cons x old ih =>
    intro s h1 h2 h3 h4
    have hnf : s.fits q c = false := by
      rw [Bool.eq_false_iff, Ne, State.fits_iff, h1]
      have h := h2 [] (x :: old) rfl (by simp)
      rw [e0, Pool.release_zero] at h
      omega
    rw [List.cons_append, State.dropToFit, hnf]
    simp only [Bool.false_eq_true, if_false]
    set u : State := ((s.removeRecords q (old ++ rest) [x]).setQueueCounters q
      { (s.removeRecords q (old ++ rest) [x]).queues[q].counters with
        overflowOld := bump (s.removeRecords q (old ++ rest) [x]).queues[q].counters.overflowOld }) with hu
    have hu' : u = { s with
        queues := s.queues.set q { s.queues[q] with
          records := old ++ rest
          counters := { s.queues[q].counters with
            overflowOld := bump s.queues[q].counters.overflowOld } }
        pool := s.pool.release (.queue q) (cellsOf [x]) } := by
      rw [hu]
      simp [State.removeRecords, State.setQueueCounters, State.setQueue, State.release]
    have hcons : ∀ a : List Record, (s.pool.release (.queue q) (cellsOf [x])).release (.queue q) (cellsOf a) =
        s.pool.release (.queue q) (cellsOf (x :: a)) := by
      intro a
      rw [Pool.release_release]
      simp [cellsOf]
    rw [ih u]
    · rw [hu']
      simp [hcons]
      rw [show bump s.queues[q.val].counters.overflowOld = bumpBy s.queues[q.val].counters.overflowOld 1
        from rfl, bumpBy_bumpBy, Nat.add_comm]
    · rw [hu']
      simp
    · intro a b hab hb
      have h := h2 (x :: a) b (by rw [hab]; rfl) hb
      rw [hu']
      simp only [hcons]
      simpa using h
    · rw [hu']
      simpa using h3
    · rw [hu']
      simp only [hcons]
      simpa using h4

end Sys2Proof.Machine
end

