-- ==== Sys2Proof/Laws/Stopping.lean ====
section
/-! SUPPORT. What the stopping sequence and the line-side reset do: the ABORTED replies and their numbers, the
cells given back, the table entries released, and the state from which the line-side reset goes on. -/

namespace Sys2Proof.Machine

/-! ### Messages one after another -/

/-- The first of several messages takes the next sequence number (R146). -/
theorem State.numbered_cons (s : State) (m : Message) (ms : List Message) :
    s.numbered (m :: ms) = ⟨s.link.nextSeq, false, m⟩ ::
      ms.mapIdx (fun i m => (⟨s.link.nextSeq + 1 + BitVec.ofNat 8 i, false, m⟩ : OutEntry)) := by
  simp only [State.numbered, List.mapIdx_cons]
  congr 1
  · simp
  · congr 1
    funext i m
    congr 1
    rw [BitVec.add_assoc]
    congr 1
    apply BitVec.eq_of_toNat_eq
    simp
    omega

/-- The messages behind others take the numbers behind theirs (R146). -/
theorem State.numbered_append (s : State) (a b : List Message) :
    s.numbered (a ++ b) = s.numbered a ++ b.mapIdx (fun i m =>
      (⟨s.link.nextSeq + BitVec.ofNat 8 a.length + BitVec.ofNat 8 i, false, m⟩ : OutEntry)) := by
  simp only [State.numbered, List.mapIdx_append]
  congr 1
  congr 1
  funext i m
  congr 1
  rw [BitVec.add_assoc]
  congr 1
  apply BitVec.eq_of_toNat_eq
  simp
  omega

/-- The last of several messages takes the number behind theirs (R146). -/
theorem State.numbered_snoc (s : State) (a : List Message) (m : Message) :
    s.numbered (a ++ [m]) =
      s.numbered a ++ [⟨s.link.nextSeq + BitVec.ofNat 8 a.length, false, m⟩] := by
  rw [State.numbered_append]
  simp

/-! ### The deferred requests -/

/-- Every send entry's tag stands in the table (R124). -/
theorem DeferredLaw.holds {s : State} (h : DeferredLaw s) :
    ∀ e ∈ s.sender.queue, e.tag ∈ s.link.table.map (fun e => e.tag) := by
  intro e he
  exact List.mem_map.mpr
    ⟨⟨e.tag, .frameSend⟩, (h.2.2.1 e.tag).mpr (List.mem_map.mpr ⟨e, he, rfl⟩), rfl⟩

/-- A table entry has the tag of a send entry exactly when it is a FRAME_SEND's (R124). -/
theorem DeferredLaw.tag_iff {s : State} (h : DeferredLaw s) (x : TableEntry) (hx : x ∈ s.link.table) :
    x.tag ∈ s.sender.queue.map (fun e => e.tag) ↔ x.kind = .frameSend := by
  constructor
  · intro h1
    have h2 := List.inj_on_of_nodup_map h.1 hx ((h.2.2.1 x.tag).mpr h1) rfl
    rw [h2]
  · intro h1
    refine (h.2.2.1 x.tag).mp ?_
    rw [← h1]
    exact hx

/-- Of a kind of which one request at most is open, an entry has the kind exactly when it has its tag. -/
theorem DeferredLaw.kind_iff {s : State} (h : DeferredLaw s) (k : ReqKind) (tag : Byte)
    (hk : (⟨tag, k⟩ : TableEntry) ∈ s.link.table)
    (hu : ∀ t, (⟨t, k⟩ : TableEntry) ∈ s.link.table → t = tag) :
    ∀ x ∈ s.link.table, x.kind = k ↔ x.tag = tag := by
  intro x hx
  constructor
  · intro h'
    apply hu
    rw [← h']
    exact hx
  · intro h'
    have h2 := List.inj_on_of_nodup_map h.1 hx hk h'
    rw [h2]

/-! ### Step 3: the send queue -/

/-- What completing the send queue `es` ABORTED leaves of a state (R136, R127). -/
structure SendsAborted (s t : State) (es : List SendEntry) : Prop where
  line : t.line = s.line
  sieve : t.sieve = s.sieve
  classifier : t.classifier = s.classifier
  queues : t.queues = s.queues
  slots : t.slots = s.slots
  responder : t.responder = s.responder
  pins : t.pins = s.pins
  pending : t.pending = s.pending
  queue : t.sender.queue = []
  pass : t.sender.pass = if es = [] then s.sender.pass else 0
  pool : t.pool = s.pool.release .send ((es.map (fun e => e.frame.cells)).sum)
  outbox : t.link.outbox = s.link.outbox ++
    s.numbered (es.map (fun e => .reply 0xE0 e.tag [0x0E, byteOf e.attempts] []))
  nextSeq : t.link.nextSeq = s.link.nextSeq + BitVec.ofNat 8 es.length
  table : t.link.table = s.link.table.filter (fun e => decide (e.tag ∉ es.map (fun x => x.tag)))
  notices : t.link.notices = s.link.notices
  occupancy : t.link.occupancy = s.link.occupancy

/-- One send entry at the head completes ABORTED. -/
theorem State.completeSend_head (s : State) (e : SendEntry) (es : List SendEntry)
    (hq : s.sender.queue = e :: es) (hh : s.link.holdsTag e.tag = true) :
    s.completeSend e .aborted [byteOf e.attempts] =
      { s with
        sender := { queue := es, pass := if es = [] then 0 else s.sender.pass }
        pool := s.pool.release .send e.frame.cells
        link := { s.link with
          outbox := s.link.outbox ++
            [⟨s.link.nextSeq, false, .reply 0xE0 e.tag [0x0E, byteOf e.attempts] []⟩]
          nextSeq := s.link.nextSeq + 1
          table := s.link.table.eraseP (fun x => x.tag == e.tag) }
        presence := if s.link.outbox.length + 1 = s.presence.highMark then s.presence.give .outboxHigh
          else s.presence } := by
  have he : (e :: es).eraseP (fun x => x.tag == e.tag) = es := by simp
  unfold State.completeSend
  rw [hq, he]
  exact (State.complete_held (State.release { s with sender :=
    { queue := es, pass := if es = [] then 0 else s.sender.pass } } .send e.frame.cells) .frameSend e.tag
    [Status.aborted.code, byteOf e.attempts] hh).trans (by rw [State.append_eq]; rfl)

/-- Step 3 over the whole send queue (R136): the replies in order, the cells and the table entries. -/
theorem State.abortSends_all (es : List SendEntry) (s : State) (hq : s.sender.queue = es)
    (hn : (es.map (fun e => e.tag)).Nodup) (ht : (s.link.table.map (fun e => e.tag)).Nodup)
    (hm : ∀ e ∈ es, e.tag ∈ s.link.table.map (fun e => e.tag)) :
    SendsAborted s (s.abortSends es) es := by
  induction es generalizing s with
  | nil => constructor <;> simp [State.abortSends, hq, State.numbered]
  | cons e es ih =>
    have hh : s.link.holdsTag e.tag = true := by
      obtain ⟨x, hx, h⟩ := List.mem_map.mp (hm e (by simp))
      simp only [Link.holdsTag, List.any_eq_true]
      exact ⟨x, hx, by simp [h]⟩
    have hu' := State.completeSend_head s e es hq hh
    have hocc : (s.completeSend e .aborted [byteOf e.attempts]).link.occupancy = s.link.occupancy := by
      unfold State.completeSend
      simp [State.complete_occupancy, State.release]
    set u := s.completeSend e .aborted [byteOf e.attempts] with hu
    have hut : u.link.table = s.link.table.filter (fun x => x.tag != e.tag) := by
      rw [hu', ← eraseP_tag _ _ ht]
    have h := ih u (by rw [hu']) (List.nodup_cons.mp hn).2
      (by rw [hut]; exact List.Nodup.sublist (List.Sublist.map _ List.filter_sublist) ht)
      (by
        intro x hx
        rw [hut]
        obtain ⟨y, hy, h⟩ := List.mem_map.mp (hm x (by simp [hx]))
        refine List.mem_map.mpr ⟨y, List.mem_filter.mpr ⟨hy, ?_⟩, h⟩
        simp only [bne_iff_ne, ne_eq, h]
        intro hxe
        rw [List.map_cons, List.nodup_cons] at hn
        exact hn.1 (List.mem_map.mpr ⟨x, hx, hxe⟩))
    have hl : u.link.outbox = s.link.outbox ++
        [⟨s.link.nextSeq, false, .reply 0xE0 e.tag [0x0E, byteOf e.attempts] []⟩] := by rw [hu']
    have hns : u.link.nextSeq = s.link.nextSeq + 1 := by rw [hu']
    have hpl : u.pool = s.pool.release .send e.frame.cells := by rw [hu']
    have hps : u.sender.pass = if es = [] then 0 else s.sender.pass := by rw [hu']
    show SendsAborted s (u.abortSends es) (e :: es)
    constructor
    · rw [h.line, hu']
    · rw [h.sieve, hu']
    · rw [h.classifier, hu']
    · rw [h.queues, hu']
    · rw [h.slots, hu']
    · rw [h.responder, hu']
    · rw [h.pins, hu']
    · rw [h.pending, hu']
    · exact h.queue
    · rw [h.pass, hps]
      by_cases hes : es = [] <;> simp [hes]
    · rw [h.pool, hpl, Pool.release_release]
      simp
    · rw [h.outbox, hl, List.map_cons, State.numbered_cons]
      simp [State.numbered, hns]
    · rw [h.nextSeq, hns, List.length_cons, BitVec.add_assoc]
      congr 1
      apply BitVec.eq_of_toNat_eq
      simp
      omega
    · rw [h.table, hut, List.filter_filter]
      congr 1
      funext x
      simp only [List.map_cons, List.mem_cons, not_or]
      by_cases h1 : x.tag = e.tag <;> simp [h1]
    · rw [h.notices, hu']
    · rw [h.occupancy, hocc]

/-! ### Steps 2 to 6 -/

/-- What steps 2 to 5, or 2 to 6, leave of a state (R22, R119, R136): `l` the line, `ms` the messages appended
and `tab` the table. -/
structure Stopped (s t : State) (l : Line) (ms : List Message) (tab : List TableEntry) : Prop where
  line : t.line = l
  sieve : t.sieve = s.sieve
  classifier : t.classifier = s.classifier
  queues : t.queues = s.queues
  slots : t.slots = s.slots
  responder : t.responder = { s.responder with
    queue := []
    counters := { s.responder.counters with
      stopDiscarded := bumpBy s.responder.counters.stopDiscarded s.responder.queue.length } }
  pins : t.pins = s.pins
  pending : t.pending = s.pending
  queue : t.sender.queue = []
  pass : t.sender.pass = if s.sender.queue = [] then s.sender.pass else 0
  pool : t.pool = s.stoppedPool
  outbox : t.link.outbox = s.link.outbox ++ s.numbered ms
  nextSeq : t.link.nextSeq = s.link.nextSeq + BitVec.ofNat 8 ms.length
  table : t.link.table = tab

/-- An append adds its message at the end of a stopping sequence's messages. -/
theorem Stopped.append {s t : State} {l : Line} {ms : List Message} {tab : List TableEntry}
    (h : Stopped s t l ms tab) (m : Message) : Stopped s (t.append m) l (ms ++ [m]) tab := by
  constructor
  · rw [State.append_line, h.line]
  · rw [State.append_sieve, h.sieve]
  · rw [State.append_classifier, h.classifier]
  · rw [State.append_queues, h.queues]
  · rw [State.append_slots, h.slots]
  · rw [State.append_responder, h.responder]
  · rw [State.append_pins, h.pins]
  · rw [State.append_pending, h.pending]
  · rw [State.append_sender, h.queue]
  · rw [State.append_sender, h.pass]
  · rw [State.append_pool, h.pool]
  · rw [State.append_outbox, h.outbox, h.nextSeq, State.numbered_snoc, List.append_assoc]
  · rw [State.append_nextSeq, h.nextSeq, List.length_append, List.length_singleton, BitVec.add_assoc]
    congr 1
    apply BitVec.eq_of_toNat_eq
    simp
  · rw [State.append_table, h.table]

/-- Steps 2 to 4 (R22): the reception, the send queue and the reply queue. -/
theorem State.stoppedQueues (s : State) (hd : DeferredLaw s) :
    Stopped s (s.abandonReception.abortSends s.abandonReception.sender.queue).discardReplies
      { s.line with receiver := .idle } (s.abortedReplies (fun _ => false))
      (s.link.table.filter (fun e => decide (e.kind ≠ .frameSend))) ∧
    (s.abandonReception.abortSends s.abandonReception.sender.queue).discardReplies.link.notices =
      s.link.notices ∧
    (s.abandonReception.abortSends s.abandonReception.sender.queue).discardReplies.link.occupancy =
      s.link.occupancy := by
  have hA := State.abortSends_all s.sender.queue s.abandonReception rfl hd.2.1 hd.1 hd.holds
  have e1 : s.abandonReception.sender.queue = s.sender.queue := rfl
  rw [e1]
  generalize s.abandonReception.abortSends s.sender.queue = a at hA
  refine ⟨?_, hA.notices, hA.occupancy⟩
  constructor
  · exact hA.line
  · exact hA.sieve
  · exact hA.classifier
  · exact hA.queues
  · exact hA.slots
  · have h : a.responder = s.responder := hA.responder
    unfold State.discardReplies
    simp only [State.setReplies, State.release, State.setReplyCounters, h]
  · exact hA.pins
  · exact hA.pending
  · exact hA.queue
  · exact hA.pass
  · have h : a.responder = s.responder := hA.responder
    unfold State.discardReplies
    show a.pool.release .responder _ = _
    rw [hA.pool, h]
    rfl
  · show a.link.outbox = _
    rw [hA.outbox]
    simp only [State.abortedReplies, Bool.false_eq_true, if_false, Nat.add_zero]
    rfl
  · show a.link.nextSeq = _
    rw [hA.nextSeq]
    simp only [State.abortedReplies, List.length_map]
    rfl
  · show a.link.table = _
    rw [hA.table]
    apply List.filter_congr
    intro x hx
    simp only [decide_eq_decide]
    rw [not_iff_comm, not_not]
    exact (hd.tag_iff x hx).symm

/-- Steps 2 to 5 (R22): the slot closes, and the mode becomes STOPPED with LINE_STATE posted where it was not. -/
theorem State.enterStopped_stopped (s : State) (hd : DeferredLaw s)
    (ha : s.line.mode ≠ .stopped → s.appendsLineState 32) :
    Stopped s
      (s.abandonReception.abortSends s.abandonReception.sender.queue).discardReplies.enterStopped
      { s.line with receiver := .idle, slot := .none, mode := .stopped, resume := none }
      (s.abortedReplies (fun _ => false) ++
        (if s.line.mode = .stopped then [] else [.notice (.lineState .stopped none)]))
      (s.link.table.filter (fun e => decide (e.kind ≠ .frameSend))) := by
  obtain ⟨S, hn, ho⟩ := State.stoppedQueues s hd
  have hdq : (s.abandonReception.abortSends
      s.abandonReception.sender.queue).discardReplies.responder.queue = [] := rfl
  generalize (s.abandonReception.abortSends s.abandonReception.sender.queue).discardReplies = d at *
  have hc : d.closeSlot = { d with line := { d.line with slot := .none } } := by
    unfold State.closeSlot
    split
    · rename_i h
      rw [← h]
    · unfold State.closingReport
      simp [hdq]
    · rfl
  have hl : ({ d.line with slot := .none, receiver := .idle, mode := .stopped, resume := none } : Line) =
      { s.line with receiver := .idle, slot := .none, mode := .stopped, resume := none } := by rw [S.line]
  have hE : d.enterStopped = (if s.line.mode = .stopped then
      { d with line := { d.line with slot := .none, receiver := .idle, mode := .stopped, resume := none } }
      else State.post
        { d with line := { d.line with slot := .none, receiver := .idle, mode := .stopped, resume := none } }
        (.lineState .stopped none)) := by
    unfold State.enterStopped State.changeMode
    rw [hc]
    simp [S.line]
  have hT : Stopped s
      { d with line := { d.line with slot := .none, receiver := .idle, mode := .stopped, resume := none } }
      { s.line with receiver := .idle, slot := .none, mode := .stopped, resume := none }
      (s.abortedReplies (fun _ => false)) (s.link.table.filter (fun e => decide (e.kind ≠ .frameSend))) :=
    ⟨hl, S.sieve, S.classifier, S.queues, S.slots, S.responder, S.pins, S.pending, S.queue, S.pass, S.pool,
      S.outbox, S.nextSeq, S.table⟩
  by_cases hmo : s.line.mode = .stopped
  · rw [hE, if_pos hmo, if_pos hmo, List.append_nil]
    exact hT
  · obtain ⟨h1, h2, h3⟩ := ha hmo
    rw [hE, if_neg hmo, if_neg hmo, State.post_append]
    · exact hT.append _
    · intro x hx
      replace hx : x ∈ d.link.outbox := hx
      rw [S.outbox] at hx
      rcases List.mem_append.mp hx with hx | hx
      · exact h2 x hx
      · intro _ k hk
        simp only [State.numbered, State.abortedReplies] at hx
        obtain ⟨i, hi, rfl⟩ := List.mem_mapIdx.mp hx
        simp at hk
    · intro x hx
      replace hx : x ∈ d.link.notices := hx
      rw [hn] at hx
      exact h3 x hx
    · show d.link.occupancy < 32
      rw [ho]
      exact h1

/-- Steps 2 to 6 (R22): the state from which a line-side reset goes on to the classifier. -/
theorem State.finishStopping_stopped (s : State) (hd : DeferredLaw s)
    (ha : s.line.mode ≠ .stopped → s.appendsLineState 32) :
    ∃ w, s.finishStopping = w.toClassifier ∧ Stopped s w
      { s.line with receiver := .idle, slot := .none, mode := .stopped, resume := none, lineStop := none }
      (s.abortedReplies (fun _ => false) ++
        (if s.line.mode = .stopped then [] else [.notice (.lineState .stopped none)]) ++
        (match s.line.lineStop with
          | some tag => [.reply 0x93 tag [0x00] []]
          | none => []))
      (s.link.table.filter (fun e => decide (e.kind ≠ .frameSend ∧ e.kind ≠ .lineStop))) := by
  have S := State.enterStopped_stopped s hd ha
  refine ⟨_, rfl, ?_⟩
  generalize (s.abandonReception.abortSends
    s.abandonReception.sender.queue).discardReplies.enterStopped = v at *
  have hl : v.line.lineStop = s.line.lineStop := by rw [S.line]
  cases hs : s.line.lineStop with
  | none =>
    have hv : v.completeLineStop = v := by
      unfold State.completeLineStop
      rw [hl, hs]
    rw [hv, List.append_nil]
    refine ⟨by rw [S.line, ← hs], S.sieve, S.classifier, S.queues, S.slots, S.responder, S.pins, S.pending,
      S.queue, S.pass, S.pool, S.outbox, S.nextSeq, ?_⟩
    rw [S.table]
    apply List.filter_congr
    intro x hx
    have hk : x.kind ≠ .lineStop := by
      intro h
      have h2 := (hd.2.2.2.2.1 x.tag).mp (by rw [← h]; exact hx)
      rw [hs] at h2
      simp at h2
    simp [hk]
  | some tag =>
    have htab := (hd.2.2.2.2.1 tag).mpr hs
    have hk := hd.kind_iff .lineStop tag htab (fun t ht => by
      have h := (hd.2.2.2.2.1 t).mp ht
      rw [hs] at h
      simpa using h.symm)
    have hcl : v.completeLineStop =
        State.complete { v with line := { v.line with lineStop := none } } .lineStop tag [0x00] [] := by
      unfold State.completeLineStop
      rw [hl, hs]
      rfl
    have hv : Stopped s { v with line := { v.line with lineStop := none } }
        { s.line with receiver := .idle, slot := .none, mode := .stopped, resume := none, lineStop := none }
        (s.abortedReplies (fun _ => false) ++
          (if s.line.mode = .stopped then [] else [.notice (.lineState .stopped none)]))
        (s.link.table.filter (fun e => decide (e.kind ≠ .frameSend))) :=
      ⟨by simp only [S.line], S.sieve, S.classifier, S.queues, S.slots, S.responder, S.pins, S.pending,
        S.queue, S.pass, S.pool, S.outbox, S.nextSeq, S.table⟩
    rw [hcl, State.complete_onlyOfItsKind]
    · have h := hv.append (.reply 0x93 tag [0x00] [])
      refine ⟨h.line, h.sieve, h.classifier, h.queues, h.slots, h.responder, h.pins, h.pending, h.queue,
        h.pass, h.pool, h.outbox, h.nextSeq, ?_⟩
      simp only [S.table, List.filter_filter]
      apply List.filter_congr
      intro x hx
      simp [Bool.and_comm]
    · show (v.link.table.map _).Nodup
      rw [S.table]
      exact List.Nodup.sublist (List.Sublist.map _ List.filter_sublist) hd.1
    · intro x hx
      replace hx : x ∈ v.link.table := hx
      rw [S.table] at hx
      exact hk x (List.mem_filter.mp hx).1
    · refine ⟨⟨tag, .lineStop⟩, ?_, rfl⟩
      show _ ∈ v.link.table
      rw [S.table]
      exact List.mem_filter.mpr ⟨htab, by simp⟩

/-! ### Step 1 -/

/-- Step 1 with a transmitter that does not drive (R22, R116): a grant in GAP_WAIT is handed back, and steps 2 to
6 follow at once. -/
theorem State.beginStopping_eq (s : State) (hd : s.line.transmitter.drives = false) :
    ∃ q r, s.beginStopping = State.finishStopping { s with
        line := { s.line with transmitter := .idle }
        sender := { s.sender with queue := q }
        responder := { s.responder with queue := r } } ∧
      q.map (fun e => (e.tag, e.attempts, e.frame)) =
        s.sender.queue.map (fun e => (e.tag, e.attempts, e.frame)) ∧
      r.map (fun e => e.frame) = s.responder.queue.map (fun e => e.frame) := by
  cases ht : s.line.transmitter with
  | idle =>
    refine ⟨s.sender.queue, s.responder.queue, ?_, rfl, rfl⟩
    simp only [State.beginStopping, ht]
    rw [← ht]
  | gapWait g =>
    simp only [State.beginStopping, ht, State.notStarted]
    split
    · refine ⟨_, s.responder.queue, rfl, ?_, rfl⟩
      rw [changeFirst_map]
      exact fun _ => rfl
    · refine ⟨s.sender.queue, _, rfl, rfl, ?_⟩
      rw [changeFirst_map]
      exact fun _ => rfl
  | sending => simp [ht, Transmitter.drives] at hd
  | jamming => simp [ht, Transmitter.drives] at hd

/-- A stopping sequence that begins with a transmitter that does not drive runs through at once (R22). -/
theorem State.beginStopping_stopped (s : State) (hd : DeferredLaw s)
    (hdr : s.line.transmitter.drives = false) (ha : s.line.mode ≠ .stopped → s.appendsLineState 32) :
    ∃ w q r, s.beginStopping = w.toClassifier ∧
      Stopped { s with
          line := { s.line with transmitter := .idle }
          sender := { s.sender with queue := q }
          responder := { s.responder with queue := r } } w
        { s.line with
          transmitter := .idle, receiver := .idle, slot := .none, mode := .stopped, resume := none,
          lineStop := none }
        (s.abortedReplies (fun _ => false) ++
          (if s.line.mode = .stopped then [] else [.notice (.lineState .stopped none)]) ++
          (match s.line.lineStop with
            | some tag => [.reply 0x93 tag [0x00] []]
            | none => []))
        (s.link.table.filter (fun e => decide (e.kind ≠ .frameSend ∧ e.kind ≠ .lineStop))) ∧
      w.pool = s.stoppedPool ∧
      w.responder = { s.responder with
        queue := []
        counters := { s.responder.counters with
          stopDiscarded := bumpBy s.responder.counters.stopDiscarded s.responder.queue.length } } ∧
      w.sender.pass = if s.sender.queue = [] then s.sender.pass else 0 := by
  obtain ⟨q, r, h1, h3, h4⟩ := State.beginStopping_eq s hdr
  have hof : ∀ {β : Type} (g : Byte × Nat × Frame → β), q.map (fun e => g (e.tag, e.attempts, e.frame)) =
      s.sender.queue.map (fun e => g (e.tag, e.attempts, e.frame)) := by
    intro β g
    have h := congrArg (List.map g) h3
    simpa [List.map_map, Function.comp_def] using h
  have htag : q.map (fun e => e.tag) = s.sender.queue.map (fun e => e.tag) := hof (fun x => x.1)
  have hcells : q.map (fun e => e.frame.cells) = s.sender.queue.map (fun e => e.frame.cells) :=
    hof (fun x => x.2.2.cells)
  have hrep : q.map (fun e => (Message.reply 0xE0 e.tag [0x0E, byteOf e.attempts] [])) =
      s.sender.queue.map (fun e => (Message.reply 0xE0 e.tag [0x0E, byteOf e.attempts] [])) :=
    hof (fun x => Message.reply 0xE0 x.1 [0x0E, byteOf x.2.1] [])
  have hrc : r.map (fun e => e.frame.cells) = s.responder.queue.map (fun e => e.frame.cells) := by
    have h := congrArg (List.map (fun x : Frame => x.cells)) h4
    simpa [List.map_map, Function.comp_def] using h
  have hl : q.length = s.sender.queue.length := by simpa using congrArg List.length h3
  have hrl : r.length = s.responder.queue.length := by simpa using congrArg List.length h4
  have hdv : DeferredLaw { s with
      line := { s.line with transmitter := .idle }
      sender := { s.sender with queue := q }
      responder := { s.responder with queue := r } } := by
    refine ⟨hd.1, by simp only [htag]; exact hd.2.1, ?_, hd.2.2.2.1, hd.2.2.2.2.1, hd.2.2.2.2.2⟩
    intro tag
    simp only [htag]
    exact hd.2.2.1 tag
  obtain ⟨w, hw, S⟩ := State.finishStopping_stopped _ hdv ha
  have hx : State.abortedReplies { s with
      line := { s.line with transmitter := .idle }
      sender := { s.sender with queue := q }
      responder := { s.responder with queue := r } } (fun _ => false) =
      s.abortedReplies (fun _ => false) := by
    simp only [State.abortedReplies, Bool.false_eq_true, if_false, Nat.add_zero]
    exact hrep
  refine ⟨w, q, r, h1.trans hw, ?_, ?_, ?_, ?_⟩
  · rw [← hx]
    exact S
  · rw [S.pool]
    simp only [State.stoppedPool, hcells, hrc]
  · rw [S.responder]
    simp only [hrl]
  · rw [S.pass]
    simp only
    congr 1
    rw [eq_iff_iff, ← List.length_eq_zero_iff, hl, List.length_eq_zero_iff]

/-- The outcome STOPPED (R135): the send entry whose attempt was jammed off has made one attempt more. -/
theorem State.hand_stopped (s : State) (g : Grant) (hn : (s.sender.queue.map (fun e => e.tag)).Nodup) :
    ∃ r, s.hand g.source .stopped = { s with
        sender := { s.sender with queue := s.sender.queue.map (fun e =>
          if e.state = .onLine ∧ g.source = .send e.tag then
            { e with attempts := e.attempts + 1, state := .waiting }
          else e) }
        responder := { s.responder with queue := r } } ∧
      r.map (fun e => e.frame) = s.responder.queue.map (fun e => e.frame) := by
  unfold State.hand
  cases hs : g.source with
  | send tag =>
    have key : ∀ l : List SendEntry, (l.map (fun e => e.tag)).Nodup →
        changeFirst (fun x : SendEntry => x.tag == tag && x.state.isOnLine)
          (fun x => { x with attempts := x.attempts + 1, state := .waiting }) l =
        l.map (fun e => if e.state = .onLine ∧ Carried.send tag = .send e.tag then
          { e with attempts := e.attempts + 1, state := .waiting } else e) := by
      intro l
      induction l with
      | nil => exact fun _ => rfl
      | cons a l ih =>
        intro hn
        rw [List.map_cons, List.nodup_cons] at hn
        unfold changeFirst
        by_cases hc : a.tag = tag ∧ a.state = .onLine
        · rw [if_pos (by simp [TxState.isOnLine, hc.1, hc.2]), List.map_cons, if_pos ⟨hc.2, by rw [hc.1]⟩]
          congr 1
          symm
          rw [List.map_congr_left (g := id), List.map_id]
          intro x hx
          rw [if_neg, id]
          intro h
          apply hn.1
          have ht : tag = x.tag := by simpa using h.2
          rw [hc.1, ht]
          exact List.mem_map.mpr ⟨x, hx, rfl⟩
        · rw [if_neg, List.map_cons, if_neg, ih hn.2]
          · intro h
            have ht : tag = a.tag := by simpa using h.2
            exact hc ⟨ht.symm, h.1⟩
          · simp [TxState.isOnLine]
            exact fun h h' => hc ⟨h, h'⟩
    unfold State.handSend
    simp only
    split
    · rename_i hf
      refine ⟨s.responder.queue, ?_, rfl⟩
      rw [List.find?_eq_none] at hf
      rw [← key _ hn, changeFirst_none _ _ _ (by intro x hx; simpa using hf x hx)]
    · exact ⟨s.responder.queue, by rw [← key _ hn]; rfl, rfl⟩
  | reply =>
    have hq : s.sender.queue.map (fun e => if e.state = .onLine ∧ Carried.reply = .send e.tag then
        { e with attempts := e.attempts + 1, state := .waiting } else e) = s.sender.queue := by
      rw [List.map_congr_left (g := id), List.map_id]
      intro x hx
      simp
    unfold State.handReply
    simp only
    split
    · exact ⟨s.responder.queue, by rw [hq], rfl⟩
    · refine ⟨_, by rw [hq]; rfl, ?_⟩
      rw [changeFirst_map]
      exact fun _ => rfl

/-! ### The line-side reset -/

/-- Without a line-side reset nothing follows step 6. -/
theorem State.toClassifier_none (w : State) (h : w.line.lineSide = none) : w.toClassifier = w := by
  unfold State.toClassifier State.continueLineSide
  simp only [h, Option.map_none]
  rw [← h]

/-- A line-side reset waits for the frame under evaluation (R74). -/
theorem State.toClassifier_waits (w : State) (r : LineSideReset) (h : w.line.lineSide = some r)
    (he : w.classifier.eval.isSome = true) :
    w.toClassifier = { w with line := { w.line with lineSide := some { r with phase := .classifier } } } := by
  unfold State.toClassifier State.continueLineSide
  simp only [h, Option.map_some]
  rw [if_neg]
  intro hh
  rw [hh.2] at he
  simp at he

/-- A line-side reset ends at once with the classifier IDLE (R74, R158). -/
theorem State.toClassifier_ends (w : State) (r : LineSideReset) (h : w.line.lineSide = some r)
    (he : w.classifier.eval = none) :
    w.toClassifier = State.finishLineSide
      { w with line := { w.line with lineSide := some { r with phase := .classifier } } } r.tag := by
  unfold State.toClassifier State.continueLineSide
  simp only [h, Option.map_some, he]
  simp

/-- The end of a line-side reset (R74, R94, R158): a pending commit is applied, the classification queue and the
delivery queues are emptied with their cells given back, and RESET completes DONE. -/
theorem State.finishLineSide_eq (s : State) (tag : Byte) :
    s.finishLineSide tag = State.complete { s.applyCommit with
      line := { s.applyCommit.line with lineSide := none }
      classifier := { s.applyCommit.classifier with queue := [] }
      queues := s.applyCommit.queues.map (fun d => { d with records := [] })
      pool := ((((s.applyCommit.pool.release .classify
          ((s.applyCommit.classifier.queue.map (fun w => w.frame.cells)).sum)).release
        (.queue 0) (cellsOf s.applyCommit.queues[0].records)).release
        (.queue 1) (cellsOf s.applyCommit.queues[1].records)).release
        (.queue 2) (cellsOf s.applyCommit.queues[2].records)).release
        (.queue 3) (cellsOf s.applyCommit.queues[3].records) } .reset tag [0x00] [] := by
  unfold State.finishLineSide
  show State.complete _ _ _ _ _ = _
  generalize s.applyCommit = w
  congr 1
  have hv : ∀ v : Vector DeliveryQueue 4, (((v.set 0 { v[0] with records := [] }).set 1
      { v[1] with records := [] }).set 2 { v[2] with records := [] }).set 3 { v[3] with records := [] } =
      v.map (fun d => { d with records := [] }) := by
    intro v
    apply Vector.ext
    intro i hi
    rcases (by omega : i = 0 ∨ i = 1 ∨ i = 2 ∨ i = 3) with rfl | rfl | rfl | rfl <;> simp
  simp only [State.emptyClassification, State.emptyQueue, State.removeRecords, State.setQueue, State.release]
  simp [← hv]

end Sys2Proof.Machine
end

