-- ==== Sys2Proof/Tests/Slice0.lean ====
section
/-! SUPPORT. The model's own tests: the operand check refuses what is ill-formed, the CRC has its known value, small
steps of the commands, and for every statement a state and operands that meet its hypotheses together. -/

namespace Sys2Proof.Tests

open Sys2Proof Sys2Proof.Machine

/-! ### Small states -/

/-- A message of kind `k` with tag 1 stands HELD. -/
def heldOn (s : State) (k : ReqKind) (body : List Byte) : State :=
  { s with link := { s.link with buffer := .held k.code 1 body } }

/-- The state after reset in LISTENING. -/
def listening : State := { State.reset with line := { Line.initial with mode := .listening } }

/-- The state after reset in ACTIVE with the own address 1. -/
def active : State := { State.reset with line := { Line.initial with mode := .active, own := [1] } }

/-- The state after reset in FAULTED, to resume LISTENING. -/
def faulted : State :=
  { State.reset with line := { Line.initial with mode := .faulted, resume := some .listening } }

/-- A frame to address 1 from address 2 with two payload bytes, that opens a reply slot. -/
def frame : Frame := { dst := 1, src := 2, kind := 0x10, seq := 7, payload := [0xAA, 0xBB] }

/-- The record that frame leaves. -/
def record : Record :=
  { frame := frame, id := 1, stamp := 0, generation := 0, matched := none, answered := false,
    wake := false, captured := false }

/-- A send entry of that frame. -/
def send (st : TxState) : SendEntry := { tag := 5, frame := frame, attempts := 0, state := st }

/-- A reply entry of that frame. -/
def reply (late : LatePolicy) (window : Option Nat) (st : TxState) : ReplyEntry :=
  { frame := frame, template := 0, late := late, window := window, attempts := 0, state := st }

/-- ACTIVE with a send entry, whose FRAME_SEND stands in the table. -/
def sending (st : TxState) (tr : Transmitter) : State :=
  { active with
    line := { active.line with transmitter := tr }
    link := { active.link with table := [⟨5, .frameSend⟩] }
    sender := { queue := [send st], pass := 0 }
    pool := active.pool.claim .send 1 }

/-- ACTIVE with a reply entry. -/
def replying (late : LatePolicy) (window : Option Nat) (st : TxState) (tr : Transmitter) : State :=
  { active with
    line := { active.line with transmitter := tr }
    responder := { active.responder with queue := [reply late window st] }
    pool := active.pool.claim .responder 1 }

/-- The line clock stands at a point. -/
def atPoint (s : State) (p : Nat) : State := { s with line := { s.line with point := p } }

/-- Presence stands in a state with a cause set. -/
def present (st : PresenceState) (causes : BitVec 24) (doze : Option Byte) : State :=
  { State.reset with presence := { Presence.initial with state := st, causes := causes, dozeReply := doze } }

/-- A message HELD over a link with an empty table and a single entry in the outbox is accepted. -/
theorem accepted_heldOn (s : State) (k : ReqKind) (body : List Byte) (ht : s.link.table = [])
    (ho : s.link.outbox.length = 1) (hl : k.lengthOk body.length = true) :
    Accepted (heldOn s k body) k 1 body := by
  refine ⟨rfl, by decide, hl, ?_, ?_, ?_⟩
  · simp [heldOn, Link.holdsTag, ht]
  · simp [heldOn, ht]
  · simp [heldOn, Link.occupancy, ht, ho]

/-- The next state of a command, or the state itself where there is none. -/
def after (c : Instr) (s : State) : State :=
  match exec c s with
  | .next t => t
  | .fault _ => s
  | .refused _ => s

/-! ### The operand check -/

theorem test_wellFormed_messageHeld :
    Instr.wellFormed (.messageHeld [1, 1, 0, 0, 0]) = false ∧
    Instr.wellFormed (.messageHeld [1, 1, 0, 0, 0, 0]) = true := by decide

theorem test_wellFormed_rejectTooLong :
    Instr.wellFormed (.rejectTooLong [1, 1, 0x01, 0x40]) = false ∧
    Instr.wellFormed (.rejectTooLong [1, 1, 0x01, 0x41]) = true := by decide

theorem test_wellFormed_rejectShort :
    Instr.wellFormed (.rejectShort [1, 1, 0, 0, 0, 0]) = false ∧
    Instr.wellFormed (.rejectShort [1, 1, 0, 0, 0]) = true := by decide

theorem test_wellFormed_resend :
    Instr.wellFormed (.resend 0xFE) = false ∧ Instr.wellFormed (.resend 0x01) = true := by decide

set_option maxRecDepth 20000 in
theorem test_wellFormed_receiveClaim :
    Instr.wellFormed (.receiveClaim 0 []) = false ∧
    Instr.wellFormed (.receiveClaim 0 (List.replicate 256 0)) = false ∧
    Instr.wellFormed (.receiveClaim 0 [0]) = true := by decide

set_option maxRecDepth 20000 in
theorem test_wellFormed_malformed :
    Instr.wellFormed (.malformed 0 []) = false ∧
    Instr.wellFormed (.malformed 0 (List.replicate 8 0)) = false ∧
    Instr.wellFormed (.malformed 0 [0]) = true := by decide

set_option maxRecDepth 20000 in
theorem test_wellFormed_frameEnd :
    Instr.wellFormed (.frameEnd 0 (List.replicate 256 0) 0) = false ∧
    Instr.wellFormed (.frameEnd 0 [] 0) = true := by decide

theorem test_wellFormed_backoffEnd :
    Instr.wellFormed (.backoffEnd 0 (.send 0xFF)) = false ∧
    Instr.wellFormed (.backoffEnd 0 (.reply 4)) = false ∧
    Instr.wellFormed (.backoffEnd 0 (.reply 3)) = true := by decide

theorem test_wellFormed_stuckLine :
    Instr.wellFormed (.stuckLine 0 40 0) = false ∧ Instr.wellFormed (.stuckLine 0 41 0) = true := by
  decide

theorem test_wellFormed_expiry :
    Instr.wellFormed (.expiry 0 0 0) = false ∧ Instr.wellFormed (.expiry 0 0 1) = true := by decide

/-! ### Operand forms -/

set_option maxRecDepth 20000 in
/-- The CRC of the nine digits is the known value of this CRC (R2). -/
theorem test_crc : crc [0x31, 0x32, 0x33, 0x34, 0x35, 0x36, 0x37, 0x38, 0x39] = 0x29B1 := by decide

set_option maxRecDepth 20000 in
theorem test_frame_reads_back : Frame.ofBytes frame.bytes = frame := by decide

theorem test_cells : cellsFor 7 = 1 ∧ cellsFor 64 = 1 ∧ cellsFor 65 = 2 ∧ cellsFor 255 = 4 := by decide

theorem test_levels : byteLevels 0x01 =
    [true, false, true, true, true, true, true, true, true, false] := by decide

/-! ### Small steps -/

theorem test_powerUp : (after .powerUp State.reset).link.outbox =
    [⟨1, false, .notice (.ready .power)⟩] := by decide

theorem test_resetN : (after .resetNRelease (after .resetNAssert State.reset)).link.outbox =
    [⟨1, false, .notice (.ready .pin)⟩] := by decide

theorem test_put : (after (.put 43) State.reset).link.buffer = .filling [] ∧
    (after (.put 43) State.reset).line.timebase = 10 ∧
    (after (.put 43) State.reset).line.fraction = 3 ∧
    (after (.put 43) State.reset).pins.sdo = [0x00, 0x01] := by decide

theorem test_get : (after (.get 0) State.reset).link.exchange = .getAck := by decide

theorem test_badExchange : (after (.badExchange 0) State.reset).link.counters.badExchange = 1 := by
  decide

set_option maxRecDepth 20000 in
theorem test_messageHeld :
    (after (.messageHeld ([0x03, 1, 0, 0] ++ be16 (crc [0x03, 1, 0, 0]))) (after (.put 0) State.reset)).link.buffer =
      .held 0x03 1 [] ∧
    (after (.messageHeld ([0x03, 1, 0, 0] ++ be16 (crc [0x03, 1, 0, 0]))) (after (.put 0) State.reset)).pins.sdo =
      [0x00, 0x01, 0x00, 0x00, 0x00, 0x00, 0x00] := by decide

theorem test_rejectTooLong :
    (after (.rejectTooLong [0x02, 9, 0x01, 0x41]) (after (.put 0) State.reset)).link.outbox =
      [⟨1, false, .notice (.ready .power)⟩, ⟨2, false, .notice (.linkReject .tooLong 9 1)⟩] := by decide

theorem test_rejectShort :
    (after (.rejectShort [0x02]) (after (.put 0) State.reset)).link.outbox =
      [⟨1, false, .notice (.ready .power)⟩, ⟨2, false, .notice (.linkReject .short 0xFF 1)⟩] := by decide

theorem test_badAck : (after (.getAck 9) (after (.get 0) State.reset)).link.counters.rejectBadAck = 1 := by
  decide

theorem test_echo : (after .echo (heldOn State.reset .echo [7])).link.outbox =
    [⟨1, false, .notice (.ready .power)⟩, ⟨2, false, .reply 0x82 1 [0, 7] []⟩] := by decide

theorem test_timeRead : (after .timeRead (heldOn State.reset .timeRead [])).link.outbox =
    [⟨1, false, .notice (.ready .power)⟩, ⟨2, false, .reply 0x83 1 [0, 0, 0, 0, 0] []⟩] := by decide

theorem test_lineSetup :
    (after .lineSetup (heldOn State.reset .lineSetup [3])).line.rate = .r2000 := by decide

theorem test_addressSet :
    (after .addressSet (heldOn State.reset .addressSet [1, 1, 0, 1, 0xF0, 0])).line.own = [1] ∧
    (after .addressSet (heldOn State.reset .addressSet [1, 1, 0, 1, 0xF0, 0])).line.group = [0xF000] := by
  decide

theorem test_lineStart : (after .lineStart (heldOn State.reset .lineStart [1])).line.mode = .listening ∧
    (after .lineStart (heldOn State.reset .lineStart [1])).line.receiver = .discarding := by decide

theorem test_lineStop : (after .lineStop (heldOn active .lineStop [])).line.mode = .stopped := by decide

theorem test_poolSetup : (after .poolSetup (heldOn State.reset .poolSetup [64])).pool.quota = 64 ∧
    (after .poolSetup (heldOn State.reset .poolSetup [65])).pool.quota = 32 := by decide

theorem test_sieveDefault :
    (after .sieveDefault (heldOn State.reset .sieveDefault [2, 1])).sieve.staged.dflt = ⟨some 2, true⟩ := by
  decide

theorem test_sieveCommit :
    (after .sieveCommit (heldOn State.reset .sieveCommit [])).sieve.generation = 1 := by decide

theorem test_queueSetup :
    (after .queueSetup (heldOn State.reset .queueSetup [3, 1, 64, 192, 0, 5, 1, 64, 1])).queues[3].settings =
      ⟨true, 64, 192, 5, .dropOldest, 64, true⟩ := by decide

theorem test_slotWrite :
    (after .slotWrite (heldOn State.reset .slotWrite [15, 2, 8, 9])).slots[15].state =
      .held ⟨[8, 9], .loc, 0⟩ := by decide

theorem test_templatePut :
    (after .templatePut (heldOn State.reset .templatePut [2, 0, 0, 0, 0x10, 1, 0, 1, 2, 1, 5, 6, 3, 0])).responder.templates[2] =
      { defined := true, dest := .toSender, kind := 0x90, seqRule := .count, body := [5, 6],
        items := [.uses 0], late := .send, stale := .suppress, uses := 0 } := by decide

theorem test_frameSend :
    (after .frameSend (heldOn active .frameSend [0, 0, 9, 0x10, 4, 1, 0x55])).line.transmitter =
      .gapWait ⟨.send 1, 1, none⟩ ∧
    (after .frameSend (heldOn active .frameSend [0, 0, 9, 0x10, 4, 1, 0x55])).pool.send = 1 := by decide

theorem test_sleep : (after .sleep (heldOn State.reset .sleep [])).presence.dozeReply = some 2 := by decide

theorem test_presenceSetup :
    (after .presenceSetup (heldOn State.reset .presenceSetup [0, 1, 0, 1, 8, 0])).presence.highMark = 8 := by
  decide

theorem test_frameStart : (after (.frameStart 0) listening).line.receiver = .receiving [] := by decide

set_option maxRecDepth 20000 in
theorem test_reception :
    (after (.frameEnd 0 frame.bytes (crc frame.bytes)) (after (.frameStart 0) active)).classifier.eval.isSome = true ∧
    (after (.frameEnd 0 frame.bytes (crc frame.bytes)) (after (.frameStart 0) active)).line.slot = .own 0 ∧
    (after (.frameEnd 0 frame.bytes (crc frame.bytes)) (after (.frameStart 0) active)).pool.classify = 1 := by
  decide

set_option maxRecDepth 20000 in
theorem test_fcsError :
    (after (.frameEnd 0 frame.bytes (crc frame.bytes + 1)) (after (.frameStart 0) active)).line.counters.fcsError = 1 ∧
    (after (.frameEnd 0 frame.bytes (crc frame.bytes + 1)) (after (.frameStart 0) active)).pool.free = 192 := by
  decide

theorem test_malformed :
    (after (.malformed 0 [0, 1, 0, 0]) (after (.frameStart 0) active)).line.counters.malformed = 1 := by decide

theorem test_fragment : (after (.fragment 0 .firstByte) listening).line.counters.fragment = 1 := by decide

theorem test_stuckLine : (after (.stuckLine 0 41 0) listening).line.mode = .faulted ∧
    (after (.stuckLine 0 41 0) listening).line.resume = some .listening := by decide

theorem test_faultCleared : (after (.faultCleared 4096) faulted).line.mode = .listening ∧
    (after (.faultCleared 4095) faulted).line.mode = .faulted := by decide

theorem test_collision :
    (after (.collision 0) (sending .onLine (.sending ⟨.send 5, 1, none⟩ 0 frame.lineBytes))).line.transmitter =
      .jamming ⟨.send 5, 1, none⟩ 0 := by decide

theorem test_jamEnd :
    (after (.jamEnd 0 1) (atPoint (sending .onLine (.jamming ⟨.send 5, 1, none⟩ 0)) (bits 8))).sender.queue =
      [{ send (.backoff (bits 40)) with attempts := 1 }] := by decide

/-- A back-off of 0 leaves the frame to the arbiter's own next choice (R9). -/
theorem test_jamEnd_backoff_of_zero :
    (after (.jamEnd 0 0) (atPoint (sending .onLine (.jamming ⟨.send 5, 1, none⟩ 0)) (bits 8))).line.transmitter =
      .gapWait ⟨.send 5, 2, none⟩ := by decide

/-- At 2000 kbit/s a quarter microsecond is half a bit time, so every bit of a byte can be met at its middle: the
start bit, and the two lowest bits of 0x7E. -/
theorem test_drivesDominant_between_microseconds :
    (List.range 4).map (fun n => (({ (sending .onLine (.sending ⟨.send 5, 1, none⟩ 0 frame.lineBytes)).line with
      rate := .r2000 } : Line).elapse (2 * n + 1)).drivesDominant) = [true, true, false, false] := by decide

theorem test_slotStale :
    (after (.slotStale 8000 0)
      { State.reset with
        slots := State.reset.slots.set 0 ⟨.held ⟨[1], .loc, 0⟩, 1, true, false, false, 1⟩ }).slots[0].state = .stale ⟨[1], .loc, 0⟩ := by
  decide

/-! ### A state for the hypotheses of every statement -/

theorem meets_IdleStepIsOneMicrosecond :
    (State.reset.pending = [] ∧ State.reset.pins.resetLow = false ∧ State.reset.line.mode = .stopped) ∧
    (listening.pending = [] ∧ listening.pins.resetLow = false ∧ listening.line.mode ≠ .stopped) := by decide

/-- RESET_N held low. -/
def low : State := { State.reset with pins := ⟨true, false, false, []⟩ }

theorem meets_FullResetsEndInReady :
    State.reset.pins.resetLow = false ∧ low.pins.resetLow = true ∧
    (heldOn State.reset .reset [0]).pins.resetLow = false ∧
    Accepted (heldOn State.reset .reset [0]) .reset 1 [0] :=
  ⟨rfl, rfl, rfl, accepted_heldOn _ _ _ rfl rfl rfl⟩

/-- DOZE_REQUESTED with a message HELD is no state of a run; the buffer is EMPTY here. -/
def dozeRequested : State := present .dozeRequested 0 (some 1)

theorem meets_PutAnswersReadyOrBusy :
    (State.reset.pins.resetLow = false ∧ State.reset.presence.state = .awake ∧
      State.reset.presence.dozeReply = none ∧ State.reset.link.buffer = .empty) ∧
    (dozeRequested.pins.resetLow = false ∧ dozeRequested.presence.state = .dozeRequested ∧
      dozeRequested.link.buffer = .empty) ∧
    ((heldOn State.reset .timeRead []).pins.resetLow = false ∧
      (heldOn State.reset .timeRead []).presence.state = .awake ∧
      (heldOn State.reset .timeRead []).presence.dozeReply = none ∧
      (heldOn State.reset .timeRead []).link.buffer = .held 3 1 []) := by decide

/-- A message FILLING in the PUT that began it. -/
def filling : State :=
  { State.reset with link := { State.reset.link with buffer := .filling [], exchange := .put } }

theorem meets_GetIsCountedAndReturnsTheHost :
    (State.reset.pins.resetLow = false ∧ (∀ bs, State.reset.link.buffer ≠ .filling bs) ∧
      State.reset.presence.state = .awake) ∧
    ((present .dozing 0 none).presence.state = .dozing ∧
      (∀ bs, (present .dozing 0 none).link.buffer ≠ .filling bs) ∧
      (present .dozing 0 none).link.buffer = .empty ∧
      (present .dozing 0 none).link.outbox.any (OutEntry.isUnsentNotice .wakeCause) = false ∧
      (present .dozing 0 none).link.notices.any (fun m => m.id = .wakeCause) = false ∧
      (present .dozing 0 none).link.occupancy < 32) ∧
    ((present .waking 1 none).presence.state = .waking ∧ (present .waking 1 none).link.occupancy < 32) ∧
    (filling.pins.resetLow = false ∧ filling.link.buffer = .filling []) := by
  refine ⟨⟨rfl, ?_, rfl⟩, ⟨rfl, ?_, rfl, by decide, by decide, by decide⟩, ⟨rfl, by decide⟩, rfl, rfl⟩ <;>
    intro bs h <;> cases h

set_option maxRecDepth 20000 in
theorem meets_PutMessageIsJudged :
    filling.link.buffer = .filling [] ∧ filling.link.exchange = .put ∧ ([] : List Byte).length ≤ 320 ∧
    (List.replicate 320 (0 : Byte)).length ≤ 320 ∧ 320 < (321 : Half).toNat ∧
    crc [3, 1, 0, 0] ≠ crc [3, 1, 0, 0] + 1 ∧
    shortMessage [] = true ∧ shortMessage [2, 1, 0x01, 0x40, 0] = true := by
  refine ⟨rfl, rfl, by decide, by rw [List.length_replicate], by decide, by decide, by decide, by decide⟩

/-- A GET at its ACK byte, with the entries given in the outbox. -/
def getting (outbox : List OutEntry) (last : Byte) : State :=
  { State.reset with link := { Link.initial with
      exchange := .getAck, outbox := outbox, lastRemoved := last, nextSeq := last + 1 } }

theorem meets_AckRemovesOrIsIgnored :
    (∃ e : OutEntry, (getting [⟨1, true, .reply 0x83 1 [0] []⟩] 0).link.exchange = .getAck ∧
      (getting [⟨1, true, .reply 0x83 1 [0] []⟩] 0).link.outbox = [] ++ e :: [] ∧ e.sent = true ∧ e.seq = 1 ∧
      (getting [⟨1, true, .reply 0x83 1 [0] []⟩] 0).link.notices = []) ∧
    ((∀ x ∈ (getting [] 0).link.outbox, x.sent = true → x.seq ≠ 0) ∧ 0 = (getting [] 0).link.lastRemoved) ∧
    ((∀ x ∈ (getting [] 0).link.outbox, x.sent = true → x.seq ≠ 1) ∧ 1 ≠ (getting [] 0).link.lastRemoved) := by
  refine ⟨⟨_, rfl, rfl, rfl, rfl, rfl⟩, by decide, by decide⟩

theorem meets_ResendMakesUnsent :
    ∃ s : State, s.link.exchange = .getFlags ∧ s.link.notices = [] ∧ s.link.outbox ≠ [] ∧
      (∀ e ∈ s.link.outbox, ∀ n, e.msg ≠ .notice n) ∧ (1 : Byte).getLsbD 0 = true ∧
      (0xFE : Byte).getLsbD 0 = false := by
  refine ⟨{ getting [⟨1, true, .reply 0x83 1 [0] []⟩] 0 with
    link := { (getting [⟨1, true, .reply 0x83 1 [0] []⟩] 0).link with exchange := .getFlags } },
    rfl, rfl, by decide, ?_, by decide, by decide⟩
  intro e he n h
  simp [getting] at he
  subst he
  cases h

/-- A GET at its marker, with the entries given in the outbox. -/
def marking (outbox : List OutEntry) : State :=
  { State.reset with link := { Link.initial with exchange := .getMarker, outbox := outbox } }

theorem meets_SendingStepSendsTheOldestUnsent :
    ((marking [⟨1, true, .reply 0x83 1 [0] []⟩, ⟨2, false, .reply 0x83 2 [0] []⟩]).link.outbox =
        [⟨1, true, .reply 0x83 1 [0] []⟩] ++ ⟨2, false, .reply 0x83 2 [0] []⟩ :: [] ∧
      (marking [⟨1, true, .reply 0x83 1 [0] []⟩, ⟨2, false, .reply 0x83 2 [0] []⟩]).link.sentCount < 8) ∧
    ((∀ x ∈ (marking []).link.outbox, x.sent = true) ∧ (marking []).link.sentCount < 8) ∧
    8 ≤ (marking (List.replicate 8 ⟨1, true, .reply 0x83 1 [0] []⟩)).link.sentCount := by decide

/-- The link with `n` outbox entries, and a table of the given tags. -/
def crowded (n : Nat) (tags : List Byte) (k : ReqKind) (tag : Byte) (body : List Byte) : State :=
  { State.reset with link := { Link.initial with
      buffer := .held k.code tag body
      outbox := List.replicate n ⟨1, false, .reply 0x83 1 [0] []⟩
      table := tags.map (fun t => ⟨t, .frameSend⟩) } }

theorem meets_DispatchRefusesByTheFirstFailedCheck :
    ((crowded 1 [] .echo 0xFF []).link.occupancy < 32 ∧ (0xFF : Byte) = 0xFF) ∧
    ((crowded 1 [] .timeRead 1 [0]).link.occupancy < 32 ∧ ReqKind.lengthOk .timeRead 1 = false) ∧
    ((crowded 1 [1] .timeRead 1 []).link.occupancy < 32 ∧ ReqKind.lengthOk .timeRead 0 = true ∧
      (crowded 1 [1] .timeRead 1 []).link.holdsTag 1 = true) ∧
    ((crowded 1 [2, 3, 4, 5, 6, 7, 8, 9] .timeRead 1 []).link.occupancy < 32 ∧
      (crowded 1 [2, 3, 4, 5, 6, 7, 8, 9] .timeRead 1 []).link.holdsTag 1 = false ∧
      8 ≤ (crowded 1 [2, 3, 4, 5, 6, 7, 8, 9] .timeRead 1 []).link.table.length) ∧
    (crowded 32 [] .timeRead 1 []).link.occupancy = 32 := by decide

theorem meets_UnknownKindIsRefused :
    ∃ s : State, s.link.buffer = .held 0x05 1 [] ∧ (∀ k : ReqKind, k.code ≠ 0x05) ∧ s.link.occupancy < 32 := by
  refine ⟨{ State.reset with link := { State.reset.link with buffer := .held 0x05 1 [] } }, rfl, ?_, by decide⟩
  intro k
  cases k <;> decide

theorem meets_LinkRequestsReply :
    Accepted (heldOn State.reset .identify [0]) .identify 1 [0] ∧
    Accepted (heldOn State.reset .identify [1]) .identify 1 [1] ∧
    Accepted (heldOn State.reset .echo []) .echo 1 [] ∧
    Accepted (heldOn State.reset .timeRead []) .timeRead 1 [] :=
  ⟨accepted_heldOn _ _ _ rfl rfl rfl, accepted_heldOn _ _ _ rfl rfl rfl,
   accepted_heldOn _ _ _ rfl rfl rfl, accepted_heldOn _ _ _ rfl rfl rfl⟩

theorem meets_LineSetupSetsTheRateInStopped :
    (Accepted (heldOn State.reset .lineSetup [4]) .lineSetup 1 [4] ∧ 3 < (4 : Byte).toNat) ∧
    (Accepted (heldOn listening .lineSetup [3]) .lineSetup 1 [3] ∧ (3 : Byte).toNat ≤ 3 ∧
      (heldOn listening .lineSetup [3]).line.mode ≠ .stopped) ∧
    (Accepted (heldOn State.reset .lineSetup [3]) .lineSetup 1 [3] ∧ (3 : Byte) = BitRate.r2000.code ∧
      (heldOn State.reset .lineSetup [3]).line.mode = .stopped) := by
  refine ⟨⟨accepted_heldOn _ _ _ rfl rfl rfl, by decide⟩,
    ⟨accepted_heldOn _ _ _ rfl rfl rfl, by decide, by decide⟩,
    accepted_heldOn _ _ _ rfl rfl rfl, by decide, rfl⟩

theorem meets_AddressSetReplacesBothLists :
    (([0x0001, 0xEFFF] : List Half).length ≤ 4 ∧ ([0xF000, 0xFFFE] : List Half).length ≤ 8 ∧
      (∀ a ∈ ([0x0001, 0xEFFF] : List Half), 1 ≤ a.toNat ∧ a.toNat ≤ 0xEFFF) ∧
      (∀ a ∈ ([0xF000, 0xFFFE] : List Half), 0xF000 ≤ a.toNat ∧ a.toNat ≤ 0xFFFE) ∧
      ([0x0001, 0xEFFF] : List Half).Nodup ∧ ([0xF000, 0xFFFE] : List Half).Nodup ∧
      Accepted (heldOn State.reset .addressSet [2, 2, 0, 1, 0xEF, 0xFF, 0xF0, 0, 0xFF, 0xFE]) .addressSet 1
        ([byteOf 2, byteOf 2] ++ ([0x0001, 0xEFFF] : List Half).flatMap be16 ++
          ([0xF000, 0xFFFE] : List Half).flatMap be16)) ∧
    (Accepted (heldOn active .addressSet [0, 0]) .addressSet 1 [0, 0] ∧
      (heldOn active .addressSet [0, 0]).line.mode = .active) ∧
    ((∃ a ∈ ([0xF000] : List Half), a = 0 ∨ 0xF000 ≤ a.toNat) ∧
      Accepted (heldOn State.reset .addressSet [1, 0, 0xF0, 0]) .addressSet 1
        ([byteOf 1, byteOf 0] ++ ([0xF000] : List Half).flatMap be16 ++ ([] : List Half).flatMap be16)) ∧
    (Accepted (heldOn State.reset .addressSet [5, 0]) .addressSet 1 [5, 0] ∧ 4 < natAt [5, 0] 0) ∧
    (Accepted (heldOn State.reset .addressSet [4, 8]) .addressSet 1 [4, 8] ∧ natAt [4, 8] 0 ≤ 4 ∧
      natAt [4, 8] 1 ≤ 8 ∧ ([4, 8] : List Byte).length ≠ 2 + 2 * natAt [4, 8] 0 + 2 * natAt [4, 8] 1) := by
  have full : ([byteOf 2, byteOf 2] ++ ([0x0001, 0xEFFF] : List Half).flatMap be16 ++
      ([0xF000, 0xFFFE] : List Half).flatMap be16) = [2, 2, 0, 1, 0xEF, 0xFF, 0xF0, 0, 0xFF, 0xFE] := by decide
  have wrong : ([byteOf 1, byteOf 0] ++ ([0xF000] : List Half).flatMap be16 ++ ([] : List Half).flatMap be16) =
      [1, 0, 0xF0, 0] := by decide
  refine ⟨⟨by decide, by decide, by simp, by simp, by simp, by simp,
      by rw [full]; exact accepted_heldOn _ _ _ rfl rfl rfl⟩,
    ⟨accepted_heldOn _ _ _ rfl rfl rfl, rfl⟩,
    ⟨⟨0xF000, List.mem_singleton.mpr rfl, by decide⟩, by rw [wrong]; exact accepted_heldOn _ _ _ rfl rfl rfl⟩,
    ⟨accepted_heldOn _ _ _ rfl rfl rfl, by decide⟩,
    accepted_heldOn _ _ _ rfl rfl rfl, by decide, by decide, by decide⟩

theorem meets_LineStartChangesTheMode :
    (Accepted (heldOn State.reset .lineStart [1]) .lineStart 1 [HearMode.listening.mode.code] ∧
      State.reset.line.stoppingOrReset = false ∧ State.reset.line.mode = .stopped) ∧
    (Accepted (heldOn faulted .lineStart [1]) .lineStart 1 [HearMode.listening.mode.code] ∧
      faulted.line.mode = .faulted) ∧
    (Accepted (heldOn listening .lineStart [1]) .lineStart 1 [HearMode.listening.mode.code] ∧
      listening.line.mode = HearMode.listening.mode ∧ listening.line.resume = none ∧
      listening.line.transmitter = .idle ∧ listening.responder.queue = [] ∧ listening.sender.queue = []) ∧
    (Accepted (heldOn { listening with line := { listening.line with own := [1] } } .lineStart [2]) .lineStart 1
      [HearMode.active.mode.code] ∧ ([1] : List Half) ≠ []) ∧
    (Accepted (heldOn active .lineStart [1]) .lineStart 1 [HearMode.listening.mode.code] ∧
      active.line.mode = .active ∧ active.line.transmitter = .idle) ∧
    Accepted (heldOn State.reset .lineStart [3]) .lineStart 1 [3] ∧
    (Accepted (heldOn { listening with line := { listening.line with lineStop := some 9 } } .lineStart [1])
      .lineStart 1 [1] ∧
      Line.stoppingOrReset { listening.line with lineStop := some 9 } = true) ∧
    (Accepted (heldOn listening .lineStart [2]) .lineStart 1 [2] ∧ listening.line.own = []) ∧
    (Accepted (heldOn { active with line := { active.line with
        transmitter := .jamming ⟨.reply, 1, none⟩ 0 } } .lineStart [1]) .lineStart 1 [1]) := by
  refine ⟨⟨accepted_heldOn _ _ _ rfl rfl rfl, rfl, rfl⟩, ⟨accepted_heldOn _ _ _ rfl rfl rfl, rfl⟩,
    ⟨accepted_heldOn _ _ _ rfl rfl rfl, rfl, rfl, rfl, rfl, rfl⟩,
    ⟨accepted_heldOn _ _ _ rfl rfl rfl, by decide⟩, ⟨accepted_heldOn _ _ _ rfl rfl rfl, rfl, rfl⟩,
    accepted_heldOn _ _ _ rfl rfl rfl, ⟨accepted_heldOn _ _ _ rfl rfl rfl, rfl⟩,
    ⟨accepted_heldOn _ _ _ rfl rfl rfl, rfl⟩, accepted_heldOn _ _ _ rfl rfl rfl⟩

/-- ACTIVE with the transmitter given. -/
def transmitting (t : Transmitter) : State := { active with line := { active.line with transmitter := t } }

theorem meets_LineStopRunsTheSequence :
    (Accepted (heldOn { active with line := { active.line with lineStop := some 9 } } .lineStop []) .lineStop 1 [] ∧
      Line.stoppingOrReset { active.line with lineStop := some 9 } = true) ∧
    (Accepted (heldOn State.reset .lineStop []) .lineStop 1 [] ∧ State.reset.line.mode = .stopped) ∧
    (Accepted (heldOn (transmitting (.sending ⟨.reply, 1, none⟩ 0 [])) .lineStop []) .lineStop 1 [] ∧
      (transmitting (.sending ⟨.reply, 1, none⟩ 0 [])).line.stoppingOrReset = false ∧
      (transmitting (.sending ⟨.reply, 1, none⟩ 0 [])).line.mode ≠ .stopped) ∧
    (Accepted (heldOn active .lineStop []) .lineStop 1 [] ∧ active.line.transmitter.drives = false) := by
  refine ⟨⟨accepted_heldOn _ _ _ rfl rfl rfl, rfl⟩, ⟨accepted_heldOn _ _ _ rfl rfl rfl, rfl⟩,
    ⟨accepted_heldOn _ _ _ rfl rfl rfl, rfl, by decide⟩, accepted_heldOn _ _ _ rfl rfl rfl, rfl⟩

theorem meets_LineSideResetEmptiesTheLineSide :
    (Accepted (heldOn { active with line := { active.line with lineSide := some ⟨9, .stopping⟩ } } .reset [1])
      .reset 1 [1]) ∧
    (Accepted (heldOn active .reset [1]) .reset 1 [1] ∧ DeferredLaw (heldOn active .reset [1]) ∧
      active.line.lineSide = none ∧ active.line.lineStop = none ∧ active.line.transmitter.drives = false ∧
      active.classifier.eval = none ∧ active.sieve.commit = none) := by
  refine ⟨accepted_heldOn _ _ _ rfl rfl rfl, accepted_heldOn _ _ _ rfl rfl rfl, ?_, rfl, rfl, rfl, rfl, rfl⟩
  simp [DeferredLaw, heldOn, active, State.reset, State.cleared, Link.initial, Sieve.initial, Line.initial]

theorem meets_LineAndPoolReportsReply :
    (Accepted (heldOn active .lineStatus []) .lineStatus 1 [] ∧ active.line.own.length ≤ 4 ∧
      active.line.group.length ≤ 8) ∧
    Accepted (heldOn active .lineCounters [0]) .lineCounters 1 [0] ∧
    Accepted (heldOn active .lineCounters [1]) .lineCounters 1 [1] ∧
    Accepted (heldOn active .poolStatus []) .poolStatus 1 [] := by
  refine ⟨⟨accepted_heldOn _ _ _ rfl rfl rfl, by decide, by decide⟩, accepted_heldOn _ _ _ rfl rfl rfl,
    accepted_heldOn _ _ _ rfl rfl rfl, accepted_heldOn _ _ _ rfl rfl rfl⟩

theorem meets_PoolSetupSetsTheQuota :
    (Accepted (heldOn State.reset .poolSetup [64]) .poolSetup 1 [64] ∧ (64 : Byte).toNat ≤ 64) ∧
    (Accepted (heldOn State.reset .poolSetup [65]) .poolSetup 1 [65] ∧ 64 < (65 : Byte).toNat) := by
  refine ⟨⟨accepted_heldOn _ _ _ rfl rfl rfl, by decide⟩, accepted_heldOn _ _ _ rfl rfl rfl, by decide⟩

/-- An entry with every optional part, at the ends of its ranges. -/
def fullEntry : Entry :=
  { inUse := true, cls := .every, kindValue := 0x10, kindMask := 0x7F, window := some (0x0001, 0xEFFF),
    terms := [⟨247, .one, .ge, 0xFF, 0xFF⟩, ⟨244, .four, .anySet, 0xFFFFFFFF, 1⟩],
    deliver := some 3, answer := some 15, capture := some ⟨15, 232, 16⟩, wake := true, continue_ := true }

theorem meets_SieveEntryReadsBack :
    fullEntry.inUse = true ∧ fullEntry.terms.length ≤ 4 ∧
    (∀ w, fullEntry.window = some w → isStation w.1 = true ∧ isStation w.2 = true ∧ w.1.toNat ≤ w.2.toNat) ∧
    (∀ c, fullEntry.capture = some c → c.offset ≤ 247 ∧ 1 ≤ c.length ∧ c.length ≤ 16 ∧
      c.offset + c.length ≤ 248) ∧
    (∀ t ∈ fullEntry.terms, t.offset ≤ 247 ∧ t.offset + t.width.bytes ≤ 248 ∧ t.width.fits t.mask = true ∧
      t.width.fits t.operand = true) := by
  refine ⟨rfl, by decide, ?_, ?_, by decide⟩
  · intro w h
    cases h
    decide
  · intro c h
    cases h
    decide

set_option maxRecDepth 20000 in
theorem test_entry_reads_back : entry? fullEntry.bytes = some fullEntry := by decide

theorem meets_SieveEditsActOnStaged :
    (entry? Entry.empty.bytes = some { Entry.empty with inUse := true } ∧
      Entry.empty.bytes.length = entryLength Entry.empty.bytes ∧
      Accepted (heldOn State.reset .sievePut (byteOf 31 :: Entry.empty.bytes)) .sievePut 1
        (byteOf 31 :: Entry.empty.bytes)) ∧
    Accepted (heldOn State.reset .sieveClear [byteOf 31]) .sieveClear 1 [byteOf 31] ∧
    Accepted (heldOn State.reset .sieveClear [0xFF]) .sieveClear 1 [0xFF] ∧
    Accepted (heldOn State.reset .sieveCopy []) .sieveCopy 1 [] ∧
    Accepted (heldOn State.reset .sieveDefault [orNoneByte (some (3 : Fin 4)), yesNo true]) .sieveDefault 1
      [orNoneByte (some (3 : Fin 4)), yesNo true] := by
  refine ⟨⟨by decide, by decide, accepted_heldOn _ _ _ rfl rfl rfl⟩, accepted_heldOn _ _ _ rfl rfl rfl,
    accepted_heldOn _ _ _ rfl rfl rfl, accepted_heldOn _ _ _ rfl rfl rfl, accepted_heldOn _ _ _ rfl rfl rfl⟩

theorem meets_CommitInstallsStaged :
    Accepted (heldOn State.reset .sieveCommit []) .sieveCommit 1 [] ∧ State.reset.sieve.commit = none ∧
    State.reset.classifier.eval = none ∧
    (∀ (i : Fin 32) (t : Fin 16), State.reset.sieve.staged.entries[i].inUse = true →
      State.reset.sieve.staged.entries[i].answer = some t →
      State.reset.responder.templates[t].defined = true) := by
  refine ⟨accepted_heldOn _ _ _ rfl rfl rfl, rfl, rfl, ?_⟩
  intro i t
  revert i t
  decide

/-- STAGED whose entry 4 answers with a template that is UNDEFINED. -/
def failing : State :=
  { State.reset with sieve := { Sieve.initial with staged := { Bank.empty with
      entries := Bank.empty.entries.set 4 { Entry.empty with inUse := true, answer := some 6 } } } }

/-- The classifier evaluates the frame. -/
def evaluating (s : State) : State :=
  { s with classifier := { s.classifier with eval := some ⟨⟨frame, 1, 0, 0⟩, 0, [1], []⟩ } }

theorem meets_CommitFailsWaitsOrIsBusy :
    (Accepted (heldOn { State.reset with sieve := { Sieve.initial with commit := some 9 } } .sieveCommit [])
      .sieveCommit 1 []) ∧
    (Accepted (heldOn (evaluating State.reset) .sieveCommit []) .sieveCommit 1 [] ∧
      (evaluating State.reset).sieve.commit = none ∧ (evaluating State.reset).classifier.eval.isSome = true) ∧
    (Accepted (heldOn failing .sieveCommit []) .sieveCommit 1 [] ∧ failing.sieve.commit = none ∧
      failing.classifier.eval = none ∧ failing.sieve.staged.entries[(4 : Fin 32)].inUse = true ∧
      failing.sieve.staged.entries[(4 : Fin 32)].answer = some 6 ∧
      failing.responder.templates[(6 : Fin 16)].defined = false ∧
      (∀ j : Fin 32, j < 4 → failing.sieve.staged.entries[j].inUse = false)) := by
  refine ⟨accepted_heldOn _ _ _ rfl rfl rfl, ⟨accepted_heldOn _ _ _ rfl rfl rfl, rfl, rfl⟩,
    accepted_heldOn _ _ _ rfl rfl rfl, rfl, rfl, by decide, by decide, by decide, by decide⟩

theorem meets_SieveAndClassifierReportsReply :
    (31 + 1 ≤ 32 ∧ 31 ≤ 31 ∧ 1 ≤ 1 + true.toNat ∧ 1 + true.toNat ≤ 8 ∧
      Accepted (heldOn State.reset .hitsRead [byteOf 31, byteOf 1, yesNo true]) .hitsRead 1
        [byteOf 31, byteOf 1, yesNo true]) ∧
    (0 + 32 ≤ 32 ∧ 32 ≠ 0 ∧
      Accepted (heldOn State.reset .hitsClear [byteOf 0, byteOf 32, yesNo false]) .hitsClear 1
        [byteOf 0, byteOf 32, yesNo false]) ∧
    Accepted (heldOn State.reset .classifyStatus [yesNo true]) .classifyStatus 1 [yesNo true] ∧
    Accepted (heldOn State.reset .sieveGet [1, byteOf 31]) .sieveGet 1 [1, byteOf 31] ∧
    Accepted (heldOn State.reset .sieveGet [2, byteOf 31]) .sieveGet 1 [2, byteOf 31] := by
  refine ⟨⟨by decide, by decide, by decide, by decide, accepted_heldOn _ _ _ rfl rfl rfl⟩,
    ⟨by decide, by decide, accepted_heldOn _ _ _ rfl rfl rfl⟩, accepted_heldOn _ _ _ rfl rfl rfl,
    accepted_heldOn _ _ _ rfl rfl rfl, accepted_heldOn _ _ _ rfl rfl rfl⟩

/-- Queue 3 holds the records given, of one cell each, under the settings given. -/
def queued (rs : List Record) (c : QueueSettings) : State :=
  { State.reset with
    queues := State.reset.queues.set 3 { DeliveryQueue.initial 32 with records := rs, settings := c }
    pool := State.reset.pool.claim (.queue 3) rs.length }

/-- Settings at the ends of their ranges. -/
def settings : QueueSettings := ⟨true, 64, 192, 65535, .dropOldest, 64, true⟩

theorem meets_QueueSetupReplacesTheSettings :
    1 ≤ settings.depth ∧ settings.depth ≤ 64 ∧ settings.cells ≤ 192 ∧ settings.age ≤ 65535 ∧
    settings.fill ≤ 64 ∧
    Accepted (heldOn State.reset .queueSetup (byteOf 3 :: settings.bytes)) .queueSetup 1
      (byteOf 3 :: settings.bytes) := by
  refine ⟨by decide, by decide, by decide, by decide, by decide, accepted_heldOn _ _ _ rfl rfl rfl⟩

theorem meets_QueueReportsReply :
    Accepted (heldOn State.reset .queueStatus [byteOf 3, yesNo true]) .queueStatus 1 [byteOf 3, yesNo true] ∧
    (Accepted (heldOn State.reset .framePeek [byteOf 3]) .framePeek 1 [byteOf 3] ∧
      State.reset.queues[(3 : Fin 4)].records = []) ∧
    (Accepted (heldOn (queued [record] settings) .framePeek [byteOf 3]) .framePeek 1 [byteOf 3] ∧
      (queued [record] settings).queues[(3 : Fin 4)].records = record :: []) := by
  refine ⟨accepted_heldOn _ _ _ rfl rfl rfl, ⟨accepted_heldOn _ _ _ rfl rfl rfl, by decide⟩,
    accepted_heldOn _ _ _ rfl rfl rfl, by decide⟩

theorem meets_FrameTakeHandsOverTheHead :
    (Accepted (heldOn State.reset .frameTake [byteOf 3]) .frameTake 1 [byteOf 3] ∧
      State.reset.queues[(3 : Fin 4)].records = []) ∧
    (Accepted (heldOn (queued [record] settings) .frameTake [byteOf 3]) .frameTake 1 [byteOf 3] ∧
      (queued [record] settings).queues[(3 : Fin 4)].records = record :: []) := by
  refine ⟨⟨accepted_heldOn _ _ _ rfl rfl rfl, by decide⟩, accepted_heldOn _ _ _ rfl rfl rfl, by decide⟩

theorem meets_DiscardAndFlushRemove :
    (Accepted (heldOn State.reset .frameDiscard [byteOf 3, 65]) .frameDiscard 1 [byteOf 3, 65] ∧
      64 < (65 : Byte).toNat) ∧
    (Accepted (heldOn State.reset .frameDiscard [byteOf 3, 64]) .frameDiscard 1 [byteOf 3, 64] ∧
      1 ≤ (64 : Byte).toNat ∧ (64 : Byte).toNat ≤ 64) ∧
    Accepted (heldOn State.reset .queueFlush [byteOf 3]) .queueFlush 1 [byteOf 3] := by
  refine ⟨⟨accepted_heldOn _ _ _ rfl rfl rfl, by decide⟩,
    ⟨accepted_heldOn _ _ _ rfl rfl rfl, by decide, by decide⟩, accepted_heldOn _ _ _ rfl rfl rfl⟩

/-- Queue 3 holds one record, at the depth given. -/
def deep (enabled : Bool) (depth age : Nat) (policy : Overflow) : State :=
  queued [record] ⟨enabled, depth, 32, age, policy, 0, false⟩

theorem meets_ArrivalIsJudgedInOrder :
    ((deep false 1 0 .dropNewest).queues[(3 : Fin 4)].settings.enabled = false) ∧
    ((deep true 1 1 .dropNewest).queues[(3 : Fin 4)].settings.age ≠ 0 ∧
      (deep true 1 1 .dropNewest).queues[(3 : Fin 4)].settings.age <
        ((deep true 1 1 .dropNewest).line.timebase - (0 - 2000)).toNat / 1000) ∧
    ((deep true 1 0 .dropNewest).queues[(3 : Fin 4)].settings.depth <
        (deep true 1 0 .dropNewest).queues[(3 : Fin 4)].records.length + 1 ∧
      (deep true 1 0 .dropNewest).queues[(3 : Fin 4)].settings.policy = .dropNewest) ∧
    ((deep true 2 0 .dropNewest).queues[(3 : Fin 4)].records.length + 1 ≤
        (deep true 2 0 .dropNewest).queues[(3 : Fin 4)].settings.depth ∧
      (deep true 2 0 .dropNewest).pool.queue[3] + record.frame.cells ≤ 32) ∧
    ((deep true 1 0 .dropOldest).queues[(3 : Fin 4)].records = record :: [] ∧
      (deep true 1 0 .dropOldest).queues[(3 : Fin 4)].settings.policy = .dropOldest ∧
      (deep true 1 0 .dropOldest).queues[(3 : Fin 4)].settings.depth < ([] : List Record).length + 2 ∧
      ([] : List Record).length + 1 ≤ (deep true 1 0 .dropOldest).queues[(3 : Fin 4)].settings.depth) := by
  decide

/-- Slot 15 holds one byte, with the limit given. -/
def slotted (limit : Nat) : State :=
  { State.reset with slots := State.reset.slots.set 15 ⟨.held ⟨[1], .loc, 0⟩, 1, true, false, false, limit⟩ }

theorem meets_SlotRequestsReply :
    Accepted (heldOn (slotted 0) .slotRead [byteOf 15]) .slotRead 1 [byteOf 15] ∧
    (1 ≤ (List.replicate 16 (0 : Byte)).length ∧ (List.replicate 16 (0 : Byte)).length ≤ 16 ∧
      Accepted (heldOn State.reset .slotWrite ([byteOf 15, byteOf 16] ++ List.replicate 16 0)) .slotWrite 1
        ([byteOf 15, byteOf 16] ++ List.replicate 16 0)) ∧
    Accepted (heldOn State.reset .slotClear [byteOf 15]) .slotClear 1 [byteOf 15] ∧
    Accepted (heldOn State.reset .slotClear [0xFF]) .slotClear 1 [0xFF] ∧
    (Accepted (heldOn (slotted 0) .slotSetup ([byteOf 15, yesNo true, yesNo true] ++ be16 1)) .slotSetup 1
        ([byteOf 15, yesNo true, yesNo true] ++ be16 1) ∧
      (slotted 0).slots[(15 : Fin 16)].state = .held ⟨[1], .loc, 0⟩ ∧
      ((slotted 0).line.timebase - 0).toNat / 1000 ≤ (1 : Half).toNat ∧
      (1 : Half).toNat < ((2000 : Word) - 0).toNat / 1000) := by
  refine ⟨accepted_heldOn _ _ _ rfl rfl rfl, ⟨by decide, by decide, accepted_heldOn _ _ _ rfl rfl rfl⟩,
    accepted_heldOn _ _ _ rfl rfl rfl, accepted_heldOn _ _ _ rfl rfl rfl,
    accepted_heldOn _ _ _ rfl rfl rfl, by decide, by decide, by decide⟩

/-- A template with an item of every kind, at the ends of their ranges. -/
def template : Template :=
  { defined := true, dest := .fixed 0xFFFF, kind := 0x90, seqRule := .count, body := List.replicate 20 0,
    items := [.copy 4 232 16, .slot 4 15, .stamp 16, .uses 18], late := .send, stale := .suppress, uses := 0 }

/-- The template 15 is DEFINED and entry 0 of ACTIVE answers with it. -/
def answering : State :=
  { active with
    sieve := { Sieve.initial with active := { Bank.empty with
      entries := Bank.empty.entries.set 0 { Entry.empty with inUse := true, answer := some 15 } } }
    responder := { Responder.initial with
      templates := Responder.initial.templates.set 15 { template with items := [] } } }

theorem meets_TemplateRequestsReply :
    (template.kind.msb = true ∧ template.body.length ≤ 248 ∧ template.items.length ≤ 6 ∧
      template.dest ≠ .fixed 0 ∧ (∀ i ∈ template.items, i.InRange template.body.length) ∧
      Accepted (heldOn State.reset .templatePut (byteOf 15 :: template.bytes)) .templatePut 1
        (byteOf 15 :: template.bytes)) ∧
    Accepted (heldOn State.reset .templateGet [byteOf 15]) .templateGet 1 [byteOf 15] ∧
    (Accepted (heldOn answering .templateClear [byteOf 15]) .templateClear 1 [byteOf 15] ∧
      answering.sieve.active.entries[(0 : Fin 32)].inUse = true ∧
      answering.sieve.active.entries[(0 : Fin 32)].answer = some 15) ∧
    (Accepted (heldOn State.reset .templateClear [byteOf 15]) .templateClear 1 [byteOf 15] ∧
      (∀ i : Fin 32, State.reset.sieve.active.entries[i].inUse = true →
        State.reset.sieve.active.entries[i].answer ≠ some 15)) ∧
    Accepted (heldOn State.reset .responderStatus [yesNo true]) .responderStatus 1 [yesNo true] := by
  refine ⟨⟨by decide, by decide, by decide, by decide, ?_, accepted_heldOn _ _ _ rfl rfl rfl⟩,
    accepted_heldOn _ _ _ rfl rfl rfl, ⟨accepted_heldOn _ _ _ rfl rfl rfl, by decide, by decide⟩,
    ⟨accepted_heldOn _ _ _ rfl rfl rfl, by decide⟩, accepted_heldOn _ _ _ rfl rfl rfl⟩
  intro i hi
  simp only [template, List.mem_cons, List.not_mem_nil, or_false] at hi
  rcases hi with rfl | rfl | rfl | rfl <;> simp [Item.InRange, template]

theorem meets_FrameSendIsJudgedInOrder :
    (Accepted (heldOn active .frameSend [0, 0, 9, 0, 0, 1]) .frameSend 1 [0, 0, 9, 0, 0, 1] ∧
      ([0, 0, 9, 0, 0, 1] : List Byte).length ≠ 6 + natAt [0, 0, 9, 0, 0, 1] 5) ∧
    (Accepted (heldOn active .frameSend [4, 0, 9, 0, 0, 0]) .frameSend 1 [4, 0, 9, 0, 0, 0] ∧
      3 < natAt [4, 0, 9, 0, 0, 0] 0) ∧
    (Accepted (heldOn listening .frameSend [3, 0, 9, 0, 0, 0]) .frameSend 1 [3, 0, 9, 0, 0, 0] ∧
      listening.line.mode = .listening) ∧
    (Accepted (heldOn active .frameSend [3, 0, 9, 0, 0, 0]) .frameSend 1 [3, 0, 9, 0, 0, 0] ∧
      active.line.mode = .active ∧ active.line.stoppingOrReset = false ∧
      active.line.own.length ≤ natAt [3, 0, 9, 0, 0, 0] 0) ∧
    (Accepted (heldOn { active with pool := { Pool.initial with quota := 0 } } .frameSend [0, 0, 9, 0, 0, 0])
        .frameSend 1 [0, 0, 9, 0, 0, 0] ∧ 0 < 0 + (7 + 0 + 63) / 64) ∧
    (Accepted (heldOn active .frameSend [0, 0, 9, 0, 0, 0]) .frameSend 1 [0, 0, 9, 0, 0, 0] ∧
      halfAt [0, 0, 9, 0, 0, 0] 1 ≠ 0 ∧ active.line.own[natAt [0, 0, 9, 0, 0, 0] 0]? = some 1 ∧
      active.pool.ordinaryOk ((7 + natAt [0, 0, 9, 0, 0, 0] 5 + 63) / 64) = true ∧
      active.pool.send + (7 + natAt [0, 0, 9, 0, 0, 0] 5 + 63) / 64 ≤ active.pool.quota) := by
  refine ⟨⟨accepted_heldOn _ _ _ rfl rfl rfl, by decide⟩, ⟨accepted_heldOn _ _ _ rfl rfl rfl, by decide⟩,
    ⟨accepted_heldOn _ _ _ rfl rfl rfl, rfl⟩, ⟨accepted_heldOn _ _ _ rfl rfl rfl, rfl, rfl, by decide⟩,
    ⟨accepted_heldOn _ _ _ rfl rfl rfl, by decide⟩,
    accepted_heldOn _ _ _ rfl rfl rfl, by decide, by decide, by decide, by decide⟩

/-- A state with a send entry in which a message of kind SEND_CANCEL for its tag is HELD. -/
def cancelling (st : TxState) : State := heldOn (sending st .idle) .sendCancel [5]

theorem accepted_cancelling (st : TxState) : Accepted (cancelling st) .sendCancel 1 [5] :=
  ⟨rfl, by decide, rfl, rfl, by simp [cancelling, heldOn, sending],
    by simp [cancelling, heldOn, sending, active, State.reset, Link.occupancy, Link.initial]⟩

theorem meets_SendCancelAndStatusReply :
    (Accepted (heldOn active .sendCancel [5]) .sendCancel 1 [5] ∧ ∀ e ∈ active.sender.queue, e.tag ≠ 5) ∧
    (Accepted (cancelling .onLine) .sendCancel 1 [5] ∧
      (cancelling .onLine).sender.queue = [] ++ send .onLine :: [] ∧ (send .onLine).state = .onLine) ∧
    (Accepted (cancelling (.backoff 0)) .sendCancel 1 [5] ∧
      (cancelling (.backoff 0)).sender.queue = [] ++ send (.backoff 0) :: [] ∧
      (send (.backoff 0)).state ≠ .onLine ∧ (cancelling (.backoff 0)).link.holdsTag 5 = true) ∧
    Accepted (heldOn active .sendStatus []) .sendStatus 1 [] := by
  refine ⟨⟨accepted_heldOn _ _ _ rfl rfl rfl, by decide⟩, ⟨accepted_cancelling _, rfl, rfl⟩,
    ⟨accepted_cancelling _, rfl, by decide, rfl⟩, accepted_heldOn _ _ _ rfl rfl rfl⟩

theorem meets_SleepAndPresenceSetupReply :
    (Accepted (heldOn State.reset .sleep []) .sleep 1 [] ∧ State.reset.presence.state = .awake) ∧
    (8 ≤ 31 ∧ 31 ≤ 31 ∧ Accepted
      (heldOn State.reset .presenceSetup [yesNo true, yesNo false, yesNo true, yesNo false, byteOf 31, yesNo true])
      .presenceSetup 1 [yesNo true, yesNo false, yesNo true, yesNo false, byteOf 31, yesNo true]) := by
  refine ⟨⟨accepted_heldOn _ _ _ rfl rfl rfl, rfl⟩, by decide, by decide, accepted_heldOn _ _ _ rfl rfl rfl⟩

theorem meets_PresenceSettlesAndWakes :
    (WakeMask.admits ⟨false, false, false, false⟩ .lineFault = false ∧
      WakeMask.admits ⟨false, false, false, false⟩ .verdict = true) ∧
    (∃ (s : State) (e : OutEntry), s.link.exchange = .getAck ∧ s.link.outbox = e :: [] ∧ e.sent = true ∧
      e.seq = 1 ∧ s.link.notices = [] ∧ s.presence.state = .dozeRequested ∧
      s.presence.dozeReply = some 1 ∧ s.presence.causes = 0) ∧
    (∃ (s : State) (e : OutEntry), s.link.exchange = .getAck ∧ s.link.outbox = e :: [] ∧ e.sent = true ∧
      e.seq = 1 ∧ s.presence.state = .dozeRequested ∧ s.presence.dozeReply = some 1 ∧
      s.presence.causes ≠ 0) := by
  refine ⟨by decide,
    ⟨{ getting [⟨1, true, .reply 0xF0 1 [0, 0, 0, 0] []⟩] 0 with presence := dozeRequested.presence }, _,
      rfl, rfl, rfl, rfl, rfl, rfl, rfl, rfl⟩,
    ⟨{ getting [⟨1, true, .reply 0xF0 1 [0, 0, 0, 0] []⟩] 0 with
        presence := { dozeRequested.presence with causes := 1 } }, _, rfl, rfl, rfl, rfl, rfl, rfl, by decide⟩⟩

/-- LISTENING with the receiver given. -/
def hearing (r : Receiver) : State := { listening with line := { listening.line with receiver := r } }

theorem meets_ReceptionPlacesBytes :
    ((listening.elapse 0).line.hears = true ∧ listening.line.receiver = .idle ∧
      (transmitting (.sending ⟨.reply, 1, none⟩ 0 [])).line.transmitter = .sending ⟨.reply, 1, none⟩ 0 []) ∧
    (Pool.ordinaryOk { Pool.initial with free := 16 } 1 = false ∧ ([] : List Byte).length % 64 = 0) ∧
    ((hearing (.receiving [])).line.receiver = .receiving [] ∧ ([] : List Byte).length < 7 ∧
      (hearing (.receiving [])).pool.ordinaryOk 1 = true) ∧
    (([0, 1, 0] : List Byte).length = 3 ∧ isStation (halfAt ([0, 1, 0] ++ [0]) 2) = false) ∧
    (([0, 1, 0, 2, 0x10, 0] : List Byte).length = 6 ∧ 248 < (249 : Byte).toNat) := by decide

theorem meets_FragmentsAndEndsOfActivity :
    (listening.line.receiver = .idle ∧ (listening.elapse 0).line.hears = true) ∧
    (hearing (.receiving [1])).line.receiver = .receiving [1] ∧
    (hearing .discarding).line.receiver = .discarding := by decide

theorem meets_FrameEndJudgesTheFcs :
    (frame.payload.length ≤ 248 ∧ (hearing (.receiving frame.bytes)).line.receiver = .receiving frame.bytes) ∧
    ((evaluating (hearing (.receiving frame.bytes))).classifier.eval.isSome = true ∧
      (evaluating (hearing (.receiving frame.bytes))).classifier.queue.length < 4) ∧
    ((hearing (.receiving frame.bytes)).classifier.eval = none ∧
      (hearing (.receiving frame.bytes)).classifier.queue = [] ∧
      (hearing (.receiving frame.bytes)).line.lineSide = none ∧
      (hearing (.receiving frame.bytes)).sieve.commit = none) ∧
    ({ Classifier.initial with queue := List.replicate 4 ⟨frame, 1, 0, 0⟩ } : Classifier).queue.length = 4 := by
  decide

theorem meets_ReplySlotCloses :
    State.reset.line.slot = .none ∧
    ({ active.line with slot := .other 3 } : Line).slot = .other 3 ∧
    (∀ e ∈ active.responder.queue, e.window ≠ some 3) ∧
    ((replying .drop (some 3) .waiting .idle).responder.queue = [] ++ reply .drop (some 3) .waiting :: [] ∧
      (reply .drop (some 3) .waiting).window = some 3 ∧ (reply .drop (some 3) .waiting).state = .waiting) ∧
    (reply .send (some 3) .waiting).late = .send ∧
    ((replying .drop (some 3) .onLine (.gapWait ⟨.reply, 1, some 3⟩)).line.transmitter =
        .gapWait ⟨.reply, 1, some 3⟩ ∧
      (reply .drop (some 3) .onLine).state = .onLine) ∧
    State.reset.line.mode = .stopped ∧ active.line.mode ≠ .stopped ∧
    (3 + bits 48 ≤ ((atPoint active (3 + bits 48)).elapse 0).line.point) ∧
    (((atPoint active (2 + bits 48)).elapse 0).line.point < 3 + bits 48) := by decide

theorem meets_AttemptsBeginOnTime :
    ((sending .onLine (.gapWait ⟨.send 5, 1, none⟩)).grantedFrame ⟨.send 5, 1, none⟩ = some frame ∧
      active.line.mode = .active ∧ active.line.receiver = .idle ∧
      active.line.lastActivity + bits 64 ≤ ((atPoint active (bits 64)).elapse 0).line.point ∧
      ((atPoint active (bits 64 - 1)).elapse 0).line.point < active.line.lastActivity + bits 64) ∧
    ((replying .drop (some 3) .onLine (.gapWait ⟨.reply, 1, some 3⟩)).grantedFrame ⟨.reply, 1, some 3⟩ =
        some frame ∧
      ({ active.line with slot := .own 3 } : Line).slot = .own 3 ∧
      3 + bits 12 ≤ ((atPoint active (3 + bits 12)).elapse 0).line.point ∧
      ((atPoint active (3 + bits 48)).elapse 0).line.point ≤ 3 + bits 48 ∧
      ((atPoint active (2 + bits 12)).elapse 0).line.point < 3 + bits 12) := by decide

set_option maxRecDepth 20000 in
theorem meets_AttemptsAreSentOrCollide :
    ((replying .drop none .onLine (.sending ⟨.reply, 1, none⟩ 0 frame.lineBytes)).line.transmitter =
        .sending ⟨.reply, 1, none⟩ 0 frame.lineBytes ∧
      (replying .drop none .onLine (.sending ⟨.reply, 1, none⟩ 0 frame.lineBytes)).responder.queue =
        [] ++ reply .drop none .onLine :: []) ∧
    (0 + bits (10 * frame.lineBytes.length) ≤ ((atPoint active (bits 120)).elapse 0).line.point) ∧
    (((atPoint active (bits 120 - 1)).elapse 0).line.point < 0 + bits (10 * frame.lineBytes.length)) ∧
    ((sending .onLine (.sending ⟨.send 5, 1, none⟩ 0 frame.lineBytes)).sender.queue = [] ++ send .onLine :: [] ∧
      (send .onLine).tag = 5 ∧ (send .onLine).state = .onLine) ∧
    (sending .onLine .idle).link.table = [] ++ ⟨5, .frameSend⟩ :: [] := by decide

theorem meets_JamsEndInBackoff :
    ((sending .onLine (.jamming ⟨.send 5, 7, none⟩ 0)).line.transmitter = .jamming ⟨.send 5, 7, none⟩ 0 ∧
      (sending .onLine (.jamming ⟨.send 5, 7, none⟩ 0)).line.stopping = false ∧
      0 + bits 8 ≤ ((atPoint active (bits 8)).elapse 0).line.point ∧
      ((atPoint active (bits 8 - 1)).elapse 0).line.point < 0 + bits 8 ∧
      0 = (31 : BitVec 5).toNat % 2 ^ 0 ∧ 31 = (31 : BitVec 5).toNat % 2 ^ (if 7 < 5 then 7 else 5)) ∧
    ((sending .onLine (.jamming ⟨.send 5, 8, none⟩ 0)).sender.queue = [] ++ send .onLine :: []) ∧
    ((replying .drop (some 3) .onLine (.jamming ⟨.reply, 1, some 3⟩ 0)).responder.queue =
        [] ++ reply .drop (some 3) .onLine :: [] ∧
      (reply .drop (some 3) .onLine).window.isSome = true ∧ (reply .drop none .onLine).window = none) ∧
    ((sending (.backoff 40) .idle).sender.queue = [] ++ send (.backoff 40) :: [] ∧
      40 ≤ ((atPoint active 40).elapse 0).line.point) ∧
    ((replying .drop none (.backoff 40) .idle).responder.queue =
      [] ++ reply .drop none (.backoff 40) :: []) := by decide

theorem meets_StoppingEndsWithTheJam :
    ∃ s : State, s.line.transmitter = .jamming ⟨.reply, 1, none⟩ 0 ∧ s.line.stopping = true ∧
      s.line.mode = .active ∧ 0 + bits 8 ≤ (s.elapse 0).line.point :=
  ⟨{ active with line := { active.line with
      transmitter := .jamming ⟨.reply, 1, none⟩ 0, lineStop := some 9, point := bits 8 } },
    rfl, rfl, rfl, by decide⟩

theorem meets_StuckLineFaultsAndClears :
    (40 ≤ 40 ∧ State.reset.line.mode = .stopped) ∧
    (listening.line.mode = HearMode.listening.mode ∧ 40 < 41 ∧ listening.line.stopping = false ∧
      listening.line.transmitter = .idle ∧ listening.line.slot = .none) ∧
    (faulted.line.mode = .faulted ∧ faulted.line.resume = some .listening ∧
      faulted.line.lastActivity + bits 256 ≤ (faulted.elapse 4096).line.point ∧
      (faulted.elapse 4095).line.point < faulted.line.lastActivity + bits 256) := by decide

theorem meets_TheArbiterChoosesInOrder :
    (listening.line.mode ≠ .active) ∧
    (active.line.mode = .active ∧ active.line.stoppingOrReset = false ∧ active.line.transmitter = .idle) ∧
    ((replying .drop (some 3) .waiting .idle).responder.queue =
        [reply .drop none .waiting].drop 1 ++ reply .drop (some 3) .waiting :: [] ∧
      (reply .drop (some 3) .waiting).window.isSome = true) ∧
    ((replying .drop none .waiting .idle).responder.queue = [] ++ reply .drop none .waiting :: [] ∧
      (replying .drop none .waiting .idle).sender.pass < 4) ∧
    ((sending .waiting .idle).sender.queue = [] ++ send .waiting :: [] ∧
      (∀ x ∈ (sending .waiting .idle).responder.queue, x.state ≠ .waiting)) ∧
    (∀ x ∈ active.responder.queue, x.state ≠ .waiting) ∧
    ((sending .onLine (.gapWait ⟨.send 5, 1, none⟩)).line.transmitter = .gapWait ⟨.send 5, 1, none⟩ ∧
      (sending .onLine (.gapWait ⟨.send 5, 1, none⟩)).sender.queue = [] ++ send .onLine :: []) := by decide

theorem meets_VerdictsFollowTheScan :
    ([((0 : Fin 32), fullEntry)] ≠ []) ∧
    ([((0 : Fin 32), fullEntry)] = [] ++ ((0 : Fin 32), fullEntry) :: [] ∧ fullEntry.deliver = some 3 ∧
      fullEntry.answer = some 15) ∧
    (∀ m ∈ [((0 : Fin 32), Entry.empty)], m.2.deliver = none ∧ m.2.answer = none) := by decide

/-- ACTIVE bank with one entry, and the classifier evaluating the frame. -/
def judging (e : Entry) : State :=
  { evaluating State.reset with sieve := { Sieve.initial with active := { Bank.empty with
      entries := Bank.empty.entries.set 0 e } } }

/-- An entry that matches every frame and does nothing. -/
def absorbing : Entry := { Entry.empty with inUse := true }

theorem meets_EvaluationsBeginAndEnd :
    (∃ s : State, s.classifier.eval = none ∧ s.classifier.queue = ⟨frame, 1, 0, 0⟩ :: [] ∧
      s.line.lineSide = none ∧ s.sieve.commit = none) ∧
    (∃ s : State, s.classifier.eval = none ∧ s.classifier.queue = ⟨frame, 1, 0, 0⟩ :: [] ∧
      s.line.lineSide = none ∧ s.sieve.commit.isSome = true ∧
      s.sieve.staged.failing s.responder.templates = none) ∧
    ((evaluating State.reset).classifier.eval = some ⟨⟨frame, 1, 0, 0⟩, 0, [1], []⟩ ∧
      (∀ i : Fin 32, (evaluating State.reset).sieve.active.entries[i].matches [1] [] frame = false) ∧
      (evaluating State.reset).sieve.active.dflt = ⟨none, false⟩) ∧
    ((judging absorbing).sieve.active.entries[(0 : Fin 32)].matches [1] [] frame = true ∧
      (judging absorbing).sieve.active.entries[(0 : Fin 32)].continue_ = false ∧
      (judging absorbing).sieve.active.entries[(0 : Fin 32)].deliver = none ∧
      (judging absorbing).sieve.active.entries[(0 : Fin 32)].capture = none) ∧
    ((judging { absorbing with capture := some ⟨0, 0, 2⟩ }).sieve.active.entries[(0 : Fin 32)].capture =
        some ⟨0, 0, 2⟩ ∧ 0 + 2 ≤ frame.payload.length ∧ frame.payload.length < 0 + 3) := by
  refine ⟨⟨{ State.reset with classifier := { Classifier.initial with queue := [⟨frame, 1, 0, 0⟩] } },
      rfl, rfl, rfl, rfl⟩,
    ⟨{ State.reset with
        classifier := { Classifier.initial with queue := [⟨frame, 1, 0, 0⟩] }
        sieve := { Sieve.initial with commit := some 1 } }, rfl, rfl, rfl, rfl, by decide⟩,
    by decide, by decide, by decide⟩

set_option maxRecDepth 20000 in
theorem meets_BuildsPlaceTheReply :
    (4 ≤ (List.replicate 4 (reply .drop none .waiting)).length) ∧
    (answering.responder.queue.length < 4 ∧ answering.responder.templates[(15 : Fin 16)].items = [] ∧
      (Frame.cells { frame with payload := List.replicate 248 0 }) ≤ answering.pool.free) ∧
    (Item.copy 0 1 2 ∈ [Item.copy 0 1 2] ∧ frame.payload.length < 1 + 2) ∧
    (Item.slot 0 15 ∈ [Item.slot 0 15] ∧ State.reset.slots[(15 : Fin 16)].state = .empty) ∧
    ((isStation frame.dst && !frame.kind.msb) = true ∧ frame.dst ∈ answering.line.own) := by decide

theorem meets_AgesActOnRecordsAndSlots :
    ((queued [record] { settings with age := 1 }).queues[(3 : Fin 4)].records = [] ++ record :: [] ∧
      (queued [record] { settings with age := 1 }).queues[(3 : Fin 4)].settings.age ≠ 0 ∧
      (queued [record] { settings with age := 1 }).queues[(3 : Fin 4)].settings.age <
        ((State.reset.elapse 8000).line.timebase - record.stamp).toNat / 1000 ∧
      ((State.reset.elapse 7999).line.timebase - record.stamp).toNat / 1000 ≤ 1) ∧
    ((slotted 1).slots[(15 : Fin 16)].state = .held ⟨[1], .loc, 0⟩ ∧ (slotted 1).slots[(15 : Fin 16)].limit ≠ 0 ∧
      (slotted 1).slots[(15 : Fin 16)].limit < (((slotted 1).elapse 8000).line.timebase - 0).toNat / 1000 ∧
      (slotted 0).slots[(15 : Fin 16)].limit = 0) := by decide

theorem meets_FieldsOutOfRangeAreBadFields :
    (Accepted (heldOn State.reset .identify [2]) .identify 1 [2] ∧ 1 < natAt [2] 0) ∧
    (Accepted (heldOn State.reset .queueFlush [4]) .queueFlush 1 [4] ∧ 3 < natAt [4] 0) ∧
    (Accepted (heldOn State.reset .slotClear [254]) .slotClear 1 [254] ∧ 15 < natAt [254] 0 ∧
      natAt [254] 0 ≠ 255) ∧
    (Accepted (heldOn State.reset .hitsRead [31, 2, 0]) .hitsRead 1 [31, 2, 0] ∧
      32 < natAt [31, 2, 0] 0 + natAt [31, 2, 0] 1) ∧
    (Accepted (heldOn State.reset .presenceSetup [0, 0, 0, 0, 7, 0]) .presenceSetup 1 [0, 0, 0, 0, 7, 0] ∧
      natAt [0, 0, 0, 0, 7, 0] 4 < 8) := by
  refine ⟨⟨accepted_heldOn _ _ _ rfl rfl rfl, by decide⟩, ⟨accepted_heldOn _ _ _ rfl rfl rfl, by decide⟩,
    ⟨accepted_heldOn _ _ _ rfl rfl rfl, by decide, by decide⟩,
    ⟨accepted_heldOn _ _ _ rfl rfl rfl, by decide⟩, accepted_heldOn _ _ _ rfl rfl rfl, by decide⟩

/-- The part in its full-reset state before READY, with a command waiting: a state that keeps every law. -/
def lawful : State := { State.cleared with pending := [.put 0] }

theorem meets_StepsKeep :
    PoolLaw lawful ∧ ReserveLaw lawful ∧ TableLaw lawful ∧ SentLaw lawful ∧ SequenceLaw lawful ∧
    NoticeLaw lawful ∧ PassLaw lawful ∧ FourLaw lawful ∧ (∃ t, step lawful = .next t) := by
  refine ⟨rfl, by unfold ReserveLaw; decide, ⟨by decide, by decide, by decide⟩, ⟨by decide, by decide⟩,
    ⟨rfl, by decide⟩, by unfold NoticeLaw; decide, ⟨by decide, by decide⟩, ⟨by decide, by decide⟩, _, rfl⟩

theorem meets_StepsKeepTheHolders :
    DeferredLaw lawful ∧ HoldersLaw lawful ∧ ModeLaw lawful ∧ StoppedLaw lawful ∧ PresenceLaw lawful ∧
    QueueLaw lawful ∧ TemplateLaw lawful ∧ lawful.frameIds.Nodup := by
  refine ⟨?_, ⟨rfl, rfl, by decide, rfl, rfl, rfl, fun _ => rfl⟩, ?_, fun _ => ⟨rfl, rfl⟩, ?_,
    by unfold QueueLaw; decide, by unfold TemplateLaw; decide, by decide⟩
  · simp [DeferredLaw, lawful, State.cleared, Link.initial, Sieve.initial, Line.initial]
  · simp [ModeLaw, lawful, State.cleared, Line.initial]
  · simp [PresenceLaw, lawful, State.cleared, Link.initial, Presence.initial]

/-- The values out of range in the clauses of SieveEditsActOnStaged, SieveAndClassifierReportsReply,
SlotRequestsReply, TemplateRequestsReply and SleepAndPresenceSetupReply. -/
theorem meets_theClausesOfRefusedValues :
    (31 < (32 : Byte).toNat ∧ (32 : Byte) ≠ 0xFF ∧
      Accepted (heldOn State.reset .sieveClear [32]) .sieveClear 1 [32]) ∧
    (3 < (4 : Byte).toNat ∧ (4 : Byte) ≠ 0xFF ∧
      Accepted (heldOn State.reset .sieveDefault [4, 0]) .sieveDefault 1 [4, 0]) ∧
    (8 < (8 : Byte).toNat + (1 : Byte).toNat ∧
      Accepted (heldOn State.reset .hitsRead [0, 8, 1]) .hitsRead 1 [0, 8, 1]) ∧
    (32 < (31 : Byte).toNat + (2 : Byte).toNat ∧
      Accepted (heldOn State.reset .hitsClear [31, 2, 0]) .hitsClear 1 [31, 2, 0]) ∧
    (16 < (17 : Byte).toNat ∧
      Accepted (heldOn State.reset .slotWrite (15 :: 17 :: [0])) .slotWrite 1 (15 :: 17 :: [0])) ∧
    ((15 : Byte).toNat ≤ 15 ∧ (16 : Byte) ≠ 0 ∧ (16 : Byte).toNat ≤ 16 ∧ ([0] : List Byte).length ≠ (16 : Byte).toNat ∧
      Accepted (heldOn State.reset .slotWrite (15 :: 16 :: [0])) .slotWrite 1 (15 :: 16 :: [0])) ∧
    (1 < (2 : Byte).toNat ∧
      Accepted (heldOn State.reset .slotSetup ([0, 2, 0] ++ be16 7)) .slotSetup 1 ([0, 2, 0] ++ be16 7)) ∧
    (15 < (16 : Byte).toNat ∧ Accepted (heldOn State.reset .templateClear [16]) .templateClear 1 [16]) ∧
    (31 < (32 : Byte).toNat ∧
      Accepted (heldOn State.reset .presenceSetup [1, 1, 1, 1, 32, 1]) .presenceSetup 1 [1, 1, 1, 1, 32, 1]) := by
  refine ⟨⟨by decide, by decide, accepted_heldOn _ _ _ rfl rfl rfl⟩,
    ⟨by decide, by decide, accepted_heldOn _ _ _ rfl rfl rfl⟩,
    ⟨by decide, accepted_heldOn _ _ _ rfl rfl rfl⟩, ⟨by decide, accepted_heldOn _ _ _ rfl rfl rfl⟩,
    ⟨by decide, accepted_heldOn _ _ _ rfl rfl rfl⟩,
    ⟨by decide, by decide, by decide, by decide, accepted_heldOn _ _ _ rfl rfl rfl⟩,
    ⟨by decide, accepted_heldOn _ _ _ rfl rfl rfl⟩, ⟨by decide, accepted_heldOn _ _ _ rfl rfl rfl⟩,
    by decide, accepted_heldOn _ _ _ rfl rfl rfl⟩

/-! ### States for the clauses on stopping, on notices and on the verdict -/

/-- The link with the entries, the pending set and the exchange given. -/
def noticing (outbox : List OutEntry) (notices : List Notice) (x : Exchange) : State :=
  { State.reset with link := { Link.initial with outbox := outbox, notices := notices, exchange := x } }

/-- LINE_STATE of the mode ACTIVE. -/
def lineNotice : Notice := .lineState .active none

theorem meets_PutMessageIsJudged_post :
    ((noticing [⟨1, false, .notice lineNotice⟩] [] .put).link.outbox =
        [] ++ ⟨1, false, .notice lineNotice⟩ :: [] ∧ lineNotice.id = (Notice.lineState .stopped none).id) ∧
    ((noticing [] [lineNotice] .put).link.notices = [] ++ lineNotice :: [] ∧
      (noticing [] [lineNotice] .put).link.outbox = []) ∧
    ((noticing [] [] .put).link.notices = [] ∧
      (noticing [] [] .put).link.outbox.length + (noticing [] [] .put).link.table.length < 32 ∧
      32 ≤ (crowded 32 [] .echo 1 []).link.outbox.length + (crowded 32 [] .echo 1 []).link.table.length) ∧
    ((Notice.ready .power).id = (Notice.ready .pin).id ∧ (Notice.ready .pin).id ≠ .wakeCause ∧
      (Notice.ready .pin).id ≠ .linkReject) := by decide

theorem meets_AckRemovesOrIsIgnored_move :
    ((noticing [⟨1, true, .reply 0x83 1 [0] []⟩] [lineNotice] .getAck).link.outbox =
        [] ++ ⟨1, true, .reply 0x83 1 [0] []⟩ :: [] ∧
      (noticing [⟨1, true, .reply 0x83 1 [0] []⟩] [lineNotice] .getAck).presence.dozeReply = none) ∧
    ((noticing [] [lineNotice] .getAck).link.notices = lineNotice :: [] ∧
      (noticing [] [lineNotice] .getAck).link.outbox.length +
        (noticing [] [lineNotice] .getAck).link.table.length < 32) ∧
    ((crowded 23 [] .echo 1 []).link.outbox.length + 1 = (crowded 23 [] .echo 1 []).presence.highMark ∧
      (crowded 22 [] .echo 1 []).link.outbox.length + 1 ≠ (crowded 22 [] .echo 1 []).presence.highMark) := by
  decide

theorem meets_ResendMakesUnsent_notices :
    (∃ s : State, s.link.exchange = .getFlags ∧ s.link.outbox = [⟨1, true, .notice lineNotice⟩] ∧
      [lineNotice.id].Nodup ∧ (∀ n ∈ s.link.notices, n.id ∉ [lineNotice.id])) ∧
    (∃ s : State, s.link.exchange = .getFlags ∧
      s.link.outbox = [] ++ ⟨1, true, .notice lineNotice⟩ :: ([] ++ ⟨2, false, .notice lineNotice⟩ :: []) ∧
      (∀ k ∈ s.link.notices, k.id ∉ [lineNotice.id])) ∧
    (∃ s : State, s.link.exchange = .getFlags ∧ s.link.outbox = [] ++ ⟨1, true, .notice lineNotice⟩ :: [] ∧
      s.link.notices = [] ++ lineNotice :: [] ∧ (∀ k ∈ ([] ++ [] : List Notice), k.id ∉ [lineNotice.id])) :=
  ⟨⟨noticing [⟨1, true, .notice lineNotice⟩] [] .getFlags, rfl, rfl, by decide, by decide⟩,
    ⟨noticing [⟨1, true, .notice lineNotice⟩, ⟨2, false, .notice lineNotice⟩] [] .getFlags, rfl, rfl, by decide⟩,
    ⟨noticing [⟨1, true, .notice lineNotice⟩] [lineNotice] .getFlags, rfl, rfl, rfl, by decide⟩⟩

/-- With READY alone in the outbox a LINE_STATE posting is an append. -/
theorem active_appendsLineState (k : ReqKind) (body : List Byte) :
    (heldOn active k body).appendsLineState 31 := by
  refine ⟨by show 1 < 31; decide, ?_, ?_⟩
  · intro e he _ n hn
    simp only [heldOn, active, State.reset, State.cleared, Link.initial, List.mem_singleton] at he
    subst he
    cases hn
    decide
  · intro n hn
    cases hn

/-- The deferred requests of a state with none open. -/
theorem active_deferred (k : ReqKind) (body : List Byte) : DeferredLaw (heldOn active k body) := by
  simp [DeferredLaw, heldOn, active, State.reset, State.cleared, Link.initial, Sieve.initial, Line.initial]

theorem meets_LineStopRunsTheSequence_clauses :
    (Accepted (heldOn (transmitting (.jamming ⟨.reply, 1, none⟩ 0)) .lineStop []) .lineStop 1 [] ∧
      (transmitting (.jamming ⟨.reply, 1, none⟩ 0)).line.stoppingOrReset = false ∧
      (transmitting (.jamming ⟨.reply, 1, none⟩ 0)).line.mode ≠ .stopped) ∧
    (DeferredLaw (heldOn active .lineStop []) ∧ (heldOn active .lineStop []).appendsLineState 31 ∧
      Accepted (heldOn active .lineStop []) .lineStop 1 [] ∧ active.line.stoppingOrReset = false ∧
      active.line.mode ≠ .stopped ∧ active.line.transmitter.drives = false) :=
  ⟨⟨accepted_heldOn _ _ _ rfl rfl rfl, rfl, by decide⟩, active_deferred _ _, active_appendsLineState _ _,
    accepted_heldOn _ _ _ rfl rfl rfl, rfl, by decide, rfl⟩

theorem meets_LineSideReset_clauses :
    (Accepted (heldOn { active with line := { active.line with lineStop := some 9 } } .reset [1]) .reset 1 [1]) ∧
    (Accepted (heldOn (transmitting (.sending ⟨.reply, 1, none⟩ 0 [])) .reset [1]) .reset 1 [1]) ∧
    (Accepted (heldOn (transmitting (.jamming ⟨.reply, 1, none⟩ 0)) .reset [1]) .reset 1 [1]) ∧
    (DeferredLaw (heldOn active .reset [1]) ∧ (heldOn active .reset [1]).appendsLineState 31 ∧
      Accepted (heldOn active .reset [1]) .reset 1 [1] ∧ active.line.transmitter.drives = false) ∧
    (∃ s : State, Accepted s .reset 1 [1] ∧ DeferredLaw s ∧ s.appendsLineState 31 ∧ s.sieve.commit = some 9 ∧
      s.classifier.eval = none ∧ s.line.transmitter.drives = false ∧
      ∀ (i : Fin 32) (n : Fin 16), s.sieve.staged.entries[i].inUse = true →
        s.sieve.staged.entries[i].answer = some n → s.responder.templates[n].defined = true) ∧
    (∃ s : State, Accepted s .reset 1 [1] ∧ DeferredLaw s ∧ s.appendsLineState 31 ∧
      s.classifier.eval.isSome = true ∧ s.line.transmitter.drives = false) := by
  refine ⟨accepted_heldOn _ _ _ rfl rfl rfl, accepted_heldOn _ _ _ rfl rfl rfl,
    accepted_heldOn _ _ _ rfl rfl rfl,
    ⟨active_deferred _ _, active_appendsLineState _ _, accepted_heldOn _ _ _ rfl rfl rfl, rfl⟩,
    ⟨{ heldOn active .reset [1] with
        sieve := { Sieve.initial with commit := some 9 }
        link := { (heldOn active .reset [1]).link with table := [⟨9, .sieveCommit⟩] } }, ?_, ?_, ?_, rfl, rfl, rfl,
      by decide⟩,
    ⟨{ heldOn active .reset [1] with classifier := (evaluating State.reset).classifier },
      accepted_heldOn active _ _ rfl rfl rfl, active_deferred .reset [1], active_appendsLineState .reset [1], rfl,
      rfl⟩⟩
  · refine ⟨rfl, by decide, rfl, by decide, by decide, by decide⟩
  · simp [DeferredLaw, heldOn, active, State.reset, State.cleared, Link.initial, Sieve.initial, Line.initial,
      eq_comm]
  · obtain ⟨_, h2, h3⟩ := active_appendsLineState .reset [1]
    exact ⟨by show 2 < 31; decide, h2, h3⟩

/-- A pending commit is applied within a line-side reset, and its reply stands ahead of the DONE (R74). -/
theorem test_lineSide_commit :
    ((after .resetLineSide { heldOn active .reset [1] with
      sieve := { Sieve.initial with commit := some 9 }
      link := { (heldOn active .reset [1]).link with table := [⟨9, .sieveCommit⟩] } }).link.outbox.map
        (fun e => (e.seq, e.msg.kind, e.msg.tag))) =
      [(1, 0xF8, 0xFF), (2, 0xF9, 0xFF), (3, 0xA5, 9), (4, 0x84, 1)] := by decide

/-- A jam in a stopping sequence of LINE_STOP with tag 9, with one send jammed off; and a line-side reset with tag
8 where `r` gives it. -/
def jammed (r : Option LineSideReset) (eval : Option Evaluation) : State :=
  { sending .onLine (.jamming ⟨.send 5, 1, none⟩ 0) with
    line := { (sending .onLine (.jamming ⟨.send 5, 1, none⟩ 0)).line with
      lineStop := some 9, lineSide := r, point := bits 8 }
    classifier := { Classifier.initial with eval := eval }
    link := { active.link with table := [⟨5, .frameSend⟩, ⟨9, .lineStop⟩] ++
      (r.toList.map (fun x => (⟨x.tag, .reset⟩ : TableEntry))) } }

theorem jammed_deferred (eval : Option Evaluation) :
    DeferredLaw (jammed none eval) ∧ DeferredLaw (jammed (some ⟨8, .stopping⟩) eval) := by
  constructor <;>
    simp [DeferredLaw, jammed, sending, send, active, State.reset, State.cleared, Link.initial, Sieve.initial,
      Line.initial, eq_comm]

theorem jammed_appends (r : Option LineSideReset) (eval : Option Evaluation) :
    (jammed r eval).appendsLineState 32 := by
  obtain ⟨_, h2, h3⟩ := active_appendsLineState .echo []
  refine ⟨?_, h2, h3⟩
  cases r with
  | none => show 1 + 2 < 32; decide
  | some x => show 1 + 3 < 32; decide

theorem meets_StoppingEndsWithTheJam_clauses :
    ((jammed none none).line.transmitter = .jamming ⟨.send 5, 1, none⟩ 0 ∧
      (jammed none none).line.stopping = true ∧ (jammed none none).line.mode = .active ∧
      0 + bits 8 ≤ ((jammed none none).elapse 0).line.point) ∧
    (DeferredLaw (jammed none none) ∧ (jammed none none).appendsLineState 32 ∧
      (jammed none none).line.lineSide = none) ∧
    (DeferredLaw (jammed (some ⟨8, .stopping⟩) none) ∧ (jammed (some ⟨8, .stopping⟩) none).appendsLineState 32 ∧
      (jammed (some ⟨8, .stopping⟩) none).line.lineSide = some ⟨8, .stopping⟩ ∧
      (jammed (some ⟨8, .stopping⟩) none).classifier.eval = none ∧
      (jammed (some ⟨8, .stopping⟩) none).sieve.commit = none) ∧
    (DeferredLaw (jammed (some ⟨8, .stopping⟩) (evaluating State.reset).classifier.eval) ∧
      (jammed (some ⟨8, .stopping⟩) (evaluating State.reset).classifier.eval).classifier.eval.isSome = true) ∧
    (∃ j : SendEntry → Bool, ∀ e, j e = true ↔ e.state = .onLine ∧ Carried.send 5 = .send e.tag) :=
  ⟨by decide, ⟨(jammed_deferred _).1, jammed_appends _ _, rfl⟩,
    ⟨(jammed_deferred _).2, jammed_appends _ _, rfl, rfl, rfl⟩, ⟨(jammed_deferred _).2, rfl⟩,
    ⟨fun e => decide (e.state = .onLine ∧ Carried.send 5 = .send e.tag), fun e => decide_eq_true_iff⟩⟩

/-- The jammed frame's FRAME_SEND, LINE_STATE, and the two replies stand in this order (R22, R135, R158). -/
theorem test_stopping_order :
    ((after (.jamEnd 0 0) (jammed (some ⟨8, .stopping⟩) none)).link.outbox.drop 1).map
        (fun e => (e.msg.kind, e.msg.tag, e.msg.body)) =
      [(0xE0, 5, [0x0E, 1]), (0xF9, 0xFF, [0, 0xFF]), (0x93, 9, [0]), (0x84, 8, [0])] := by
  decide

/-- A stuck line in the jam of a stopping sequence: LINE_STATE carries STOPPED ahead of the replies (R15, R22). -/
theorem test_stuckLine_stopping :
    ((after (.stuckLine 0 41 0) (jammed none none)).link.outbox.drop 1).map
        (fun e => (e.msg.kind, e.msg.tag, e.msg.body)) =
      [(0xF9, 0xFF, [0, 0xFF]), (0xE0, 5, [0x0E, 1]), (0x93, 9, [0])] := by decide

/-- The same jam in the sequence of a line-side reset alone. -/
def jammedReset : State :=
  { jammed none none with
    line := { (jammed none none).line with lineStop := none, lineSide := some ⟨8, .stopping⟩ }
    link := { active.link with table := [⟨5, .frameSend⟩, ⟨8, .reset⟩] } }

theorem test_stuckLine_reset :
    ((after (.stuckLine 0 41 0) jammedReset).link.outbox.drop 1).map
        (fun e => (e.msg.kind, e.msg.tag, e.msg.body)) =
      [(0xF9, 0xFF, [0, 0xFF]), (0xE0, 5, [0x0E, 1]), (0x84, 8, [0])] := by decide

theorem meets_StuckLineFaultsAndClears_reset :
    DeferredLaw jammedReset ∧ jammedReset.appendsLineState 32 ∧ jammedReset.line.mode = .active ∧
    jammedReset.line.transmitter = .jamming ⟨.send 5, 1, none⟩ 0 ∧ jammedReset.line.lineStop = none ∧
    jammedReset.line.lineSide = some ⟨8, .stopping⟩ ∧ jammedReset.classifier.eval = none ∧
    jammedReset.sieve.commit = none := by
  refine ⟨?_, ?_, rfl, rfl, rfl, rfl, rfl, rfl⟩
  · simp [DeferredLaw, jammedReset, jammed, sending, send, active, State.reset, State.cleared, Link.initial,
      Sieve.initial, Line.initial, eq_comm]
  · obtain ⟨_, h2, h3⟩ := jammed_appends none none
    exact ⟨by show 1 + 2 < 32; decide, h2, h3⟩

theorem meets_StuckLineFaultsAndClears_clauses :
    (∃ (s c a b : State) (ended : Grant → AttemptEnd), s.line.mode = HearMode.active.mode ∧
      s.line.stopping = false ∧
      c = State.closeSlot { s.elapse 0 with line := { (s.elapse 0).line with
        lastActivity := (s.elapse 0).line.point, gap := .long, stuckCount := 41
        counters := { s.line.counters with stuckEvents := bump s.line.counters.stuckEvents } } } ∧
      a = { c with
        line := { c.line with receiver := .idle }
        pool := c.pool.release .receive c.pool.receive } ∧
      (∀ g, ended g = if g.attempt < 8 then .collided ((s.elapse 0).line.point +
        bits (32 * ((0 : BitVec 5).toNat % 2 ^ (if g.attempt < 5 then g.attempt else 5)))) else .exhausted) ∧
      c.line.transmitter = .sending ⟨.send 5, 1, none⟩ 0 frame.lineBytes ∧
      b = State.hand { a with line := { a.line with
          transmitter := .idle
          counters := { a.line.counters with collisions := bump a.line.counters.collisions } } }
        (.send 5) (ended ⟨.send 5, 1, none⟩)) ∧
    (DeferredLaw (jammed none none) ∧ (jammed none none).appendsLineState 32 ∧ 40 < 41 ∧
      (jammed none none).line.lineStop = some 9 ∧ (jammed none none).line.lineSide = none) ∧
    ((sending .onLine .idle).sender.queue = [] ++ send .onLine :: [] ∧ (send .onLine).state = .onLine) ∧
    ((replying .drop (some 3) .onLine .idle).responder.queue = [] ++ reply .drop (some 3) .onLine :: [] ∧
      (reply .drop (some 3) .onLine).window.isSome = true ∧ (reply .send none .onLine).window = none) :=
  ⟨⟨sending .onLine (.sending ⟨.send 5, 1, none⟩ 0 frame.lineBytes), _, _, _, _, rfl, rfl, rfl, rfl,
      fun g => rfl, rfl, rfl⟩,
    ⟨(jammed_deferred _).1, jammed_appends _ _, by decide, rfl, rfl⟩, by decide, by decide⟩

theorem meets_ClaimsAreJudgedByTheReserve :
    2 ≤ (State.reset.pool.claim .send 2).held .send ∧ Holder.outbox ≠ Holder.send ∧
    Holder.classify ≠ Holder.send ∧ Holder.classify ≠ Holder.outbox := by decide

/-- A body whose index is no index carries no entry in range. -/
theorem meets_SieveEditsActOnStaged_refusals :
    (Accepted (heldOn State.reset .sievePut (byteOf 0 :: Entry.empty.bytes ++ [0])) .sievePut 1
        (byteOf 0 :: Entry.empty.bytes ++ [0]) ∧ (byteOf 0 :: Entry.empty.bytes ++ [0]).length ≠ 10) ∧
    (Accepted (heldOn State.reset .sievePut (32 :: Entry.empty.bytes)) .sievePut 1 (32 :: Entry.empty.bytes) ∧
      (32 :: Entry.empty.bytes).length = 10 ∧
      ∀ (i : Fin 32) (e : Entry), 32 :: Entry.empty.bytes ≠ byteOf i.val :: e.bytes) := by
  refine ⟨⟨accepted_heldOn _ _ _ rfl rfl rfl, by decide⟩, accepted_heldOn _ _ _ rfl rfl rfl, by decide, ?_⟩
  intro i e h
  have h1 : (32 : Byte) = byteOf i.val := (List.cons.inj h).1
  have h2 := congrArg BitVec.toNat h1
  simp only [byteOf, BitVec.toNat_ofNat] at h2
  have := i.isLt
  have h3 : (32 : BitVec 8).toNat = 32 := rfl
  omega

/-- Queue 3 holds two records above a depth of 1: both leave; and an empty queue whose fill threshold is 1. -/
theorem meets_ArrivalIsJudgedInOrder_general :
    ((queued [record, record] ⟨true, 1, 32, 0, .dropOldest, 0, false⟩).queues[(3 : Fin 4)].records =
        [record, record] ++ [] ∧
      (∀ a b, [record, record] = a ++ b → b ≠ [] → 1 < (b ++ []).length + 1) ∧
      ([] : List Record).length + 1 ≤ 1 ∧
      ((queued [record, record] ⟨true, 1, 32, 0, .dropOldest, 0, false⟩).pool.release (.queue 3)
        (cellsOf [record, record])).queue[(3 : Fin 4)] + record.frame.cells ≤ 32) ∧
    ((queued [] ⟨true, 1, 32, 1000, .dropNewest, 1, true⟩).queues[(3 : Fin 4)].records = [] ++ [] ∧
      ((queued [] ⟨true, 1, 32, 1000, .dropNewest, 1, true⟩).line.timebase - record.stamp).toNat / 1000 ≤ 1000 ∧
      (1 : Nat) ≠ 0 ∧ ([] : List Record).length < 1 ∧ 1 ≤ ([] : List Record).length + 1) := by
  refine ⟨⟨rfl, ?_, by decide, by decide⟩, by decide⟩
  intro a b _ hb
  have := List.length_pos_of_ne_nil hb
  simp only [List.append_nil]
  omega

/-- A TEMPLATE_PUT with the reply flag clear and a TO_SENDER rule whose address is not 0; one whose item is
missing; and one whose template number is none. -/
theorem meets_TemplateRequestsReply_clauses :
    ({ template with dest := .toSender }.kind = (0x10 : Byte) ||| 0x80 ∧
      (∀ i ∈ template.items, i.InRange template.body.length) ∧
      Accepted (heldOn State.reset .templatePut (byteOf 15 :: 0 :: (be16 7 ++ [0x10, 1, 1, 1, 20, 4] ++
        template.body ++ template.items.flatMap Item.bytes))) .templatePut 1 (byteOf 15 :: 0 :: (be16 7 ++
          [0x10, 1, 1, 1, 20, 4] ++ template.body ++ template.items.flatMap Item.bytes))) ∧
    (Accepted (heldOn State.reset .templatePut [15, 0, 0, 0, 0x90, 0, 0, 0, 0, 1]) .templatePut 1
        [15, 0, 0, 0, 0x90, 0, 0, 0, 0, 1] ∧
      ∀ items : List (List Byte), ¬ (items.length = 1 ∧ [] = items.flatten ∧
        ∀ i ∈ items, i.length = (if natAt i 0 = 0 then 4 else if natAt i 0 = 1 then 3 else 2))) ∧
    (Accepted (heldOn State.reset .templatePut [16, 0, 0, 0, 0x90, 0, 0, 0, 0, 0]) .templatePut 1
        [16, 0, 0, 0, 0x90, 0, 0, 0, 0, 0] ∧
      (∃ items : List (List Byte), items.length = 0 ∧ [] = items.flatten) ∧
      ∀ (m : Fin 16) (rest : List Byte), [16, 0, 0, 0, 0x90, 0, 0, 0, 0, 0] ≠ byteOf m.val :: rest) := by
  refine ⟨⟨by decide, ?_, accepted_heldOn _ _ _ rfl rfl rfl⟩, ⟨accepted_heldOn _ _ _ rfl rfl rfl, ?_⟩,
    accepted_heldOn _ _ _ rfl rfl rfl, ⟨[], rfl, rfl⟩, ?_⟩
  · intro i hi
    simp only [template, List.mem_cons, List.not_mem_nil, or_false] at hi
    rcases hi with rfl | rfl | rfl | rfl <;> simp [Item.InRange, template]
  · rintro items ⟨h1, h2, h3⟩
    obtain ⟨i, rfl⟩ := List.length_eq_one_iff.mp h1
    have hi : i = [] := by simpa using h2.symm
    have h4 := h3 i (by simp)
    subst hi
    revert h4
    decide
  · intro m rest h
    have h1 : (16 : Byte) = byteOf m.val := (List.cons.inj h).1
    have h2 := congrArg BitVec.toNat h1
    simp only [byteOf, BitVec.toNat_ofNat] at h2
    have := m.isLt
    have h3 : (16 : BitVec 8).toNat = 16 := rfl
    omega

theorem meets_JamsEndInBackoff_of_zero :
    0 = (16 : BitVec 5).toNat % 2 ^ (if 4 < 5 then 4 else 5) ∧
    16 = (16 : BitVec 5).toNat % 2 ^ (if 5 < 5 then 5 else 5) := by decide

/-- A reply that contends holds the grant in GAP_WAIT, and a reply IN_WINDOW waits. -/
theorem meets_TheArbiterChoosesInOrder_withdrawal :
    ∃ s : State, s.line.mode = .active ∧ s.line.stoppingOrReset = false ∧
      s.line.transmitter = .gapWait ⟨.reply, 1, none⟩ ∧
      s.responder.queue = [reply .drop none .onLine] ++ reply .drop (some 3) .waiting :: [] ∧
      (∀ x ∈ [reply .drop none .onLine], x.state = .waiting → x.window = none) ∧
      ([reply .drop none .onLine] ++ ([] : List ReplyEntry)).countP (fun x : ReplyEntry => decide (x.state = .onLine)) ≤ 1 ∧
      (∀ x ∈ [reply .drop none .onLine] ++ ([] : List ReplyEntry), x.state = .onLine → x.window = none) :=
  ⟨{ replying .drop none .onLine (.gapWait ⟨.reply, 1, none⟩) with
      responder := { Responder.initial with
        queue := [reply .drop none .onLine, reply .drop (some 3) .waiting] } },
    rfl, rfl, rfl, rfl, by decide, by decide, by decide⟩

theorem meets_EvaluationsBeginAndEnd_clauses :
    ((evaluating State.reset).classifier.eval.isSome = true) ∧
    (State.reset.line.mode ≠ .active ∧ active.line.mode = .active ∧ active.line.stoppingOrReset = false) ∧
    (0 + 2 ≤ frame.payload.length ∧ frame.payload.length < 1 + 2) ∧
    (∃ u : State, u.sieve.commit = some 9 ∧ u.sieve.staged.failing u.responder.templates = some (0, 15)) ∧
    (∃ u : State, u.sieve.commit = some 9 ∧ u.sieve.staged.failing u.responder.templates = none) ∧
    (∃ u : State, u.classifier.eval = none ∧ u.line.lineSide = some ⟨8, .classifier⟩) :=
  ⟨rfl, by decide, by decide,
    ⟨{ State.reset with sieve := { Sieve.initial with commit := some 9, staged := answering.sieve.active } }, rfl,
      by decide⟩,
    ⟨{ State.reset with sieve := { Sieve.initial with commit := some 9 } }, rfl, by decide⟩,
    ⟨{ State.reset with line := { Line.initial with lineSide := some ⟨8, .classifier⟩ } }, rfl, rfl⟩⟩

theorem meets_BuildsPlaceTheReply_items :
    (slotted 0).slots[(15 : Fin 16)].state = .held ⟨[1], .loc, 0⟩ ∧
    0 + ([1] : List Byte).length ≤ ([0] : List Byte).length := by decide

theorem meets_StepsKeep_grant_and_window :
    GrantLaw lawful ∧ WindowLaw lawful ∧ FrameEndsInOrder lawful ∧
    FrameEndsInOrder { lawful with pending := [.frameEnd 0 [] 0] } := by
  refine ⟨?_, ?_, ?_, ?_⟩
  · simp [GrantLaw, lawful, State.cleared, Line.initial, Responder.initial, Transmitter.grant?]
  · simp [WindowLaw, State.frameEnds, lawful, State.cleared, Line.initial, Responder.initial, Classifier.initial]
  · intro dt bytes fcs rest h
    cases h
  · intro dt bytes fcs rest _
    refine ⟨rfl, ?_, ?_⟩
    · intro fe hfe
      cases hfe
    · intro e he
      cases he

end Sys2Proof.Tests
end

section
/-! The cell pool's request (section 2.5 of the spec): POOL_SETUP sets the send quota, or is refused (R36). -/

namespace Sys2Proof.Machine

/-- The command POOL_SETUP has the meaning `execPoolSetup`. -/
theorem exec_poolSetup (s : State) : exec .poolSetup s = execPoolSetup s := rfl

/-- The send quota is replaced, and nothing else of the part is changed. -/
def State.setQuota (s : State) (n : Nat) : State := { s with pool := { s.pool with quota := n } }

/-- An accepted POOL_SETUP whose value is in range becomes the send quota and is answered DONE (R36). -/
theorem execPoolSetup_inRange {s : State} {tag value : Byte} (h : Accepted s .poolSetup tag [value])
    (hv : value.toNat ≤ 64) :
    execPoolSetup s = done ((s.setQuota value.toNat).withReply .poolSetup tag [Status.done.code] []) := by
  have hn : ¬ 64 < natAt [value] 0 := Nat.not_lt.mpr hv
  unfold execPoolSetup
  rw [State.dispatch_accepted h, if_neg hn]
  exact congrArg done
    (h.answerInline [] (State.setQuota · value.toNat) (fun _ => rfl) (fun _ => rfl) (Nat.zero_le 47))

/-- An accepted POOL_SETUP whose value is above 64 is refused BAD_FIELD and has no effect (R36). -/
theorem execPoolSetup_outOfRange {s : State} {tag value : Byte} (h : Accepted s .poolSetup tag [value])
    (hv : 64 < value.toNat) :
    execPoolSetup s = done (s.withReply .poolSetup tag [Status.badField.code] []) := by
  have hn : 64 < natAt [value] 0 := hv
  unfold execPoolSetup
  rw [State.dispatch_accepted h, if_pos hn, h.refuse]

end Sys2Proof.Machine

namespace Sys2Proof

open Machine

/-- Settles O21: the request is accepted, and its value is either in range or above 64; the line mode is never
looked at. -/
theorem poolSetupSetsTheQuota : Obligations.PoolSetupSetsTheQuota := by
  intro s tag value h
  rw [exec_poolSetup]
  constructor
  · intro hv
    rw [execPoolSetup_inRange h hv]
    rfl
  · intro hv
    rw [execPoolSetup_outOfRange h hv]
    rfl

end Sys2Proof
end

section
/-! The readings of a sieve entry run backwards (Tables 3-4 and 11-11): an entry that a reading gives is in range,
and the bytes it was read from are the bytes in which it is carried. -/

namespace Sys2Proof.Machine

/-! ### Bytes at an offset -/

/-- A body after its first byte, read at an offset. -/
theorem byteAt_drop_one (bs : List Byte) (i : Nat) : byteAt (bs.drop 1) i = byteAt bs (i + 1) := by
  cases bs <;> rfl

theorem byteOf_toNat (b : Byte) : byteOf b.toNat = b := BitVec.ofNat_toNat 8 b

theorem toNat_byteOf {n : Nat} (h : n < 256) : (byteOf n).toNat = n := by
  simp only [byteOf, BitVec.toNat_ofNat]
  exact Nat.mod_eq_of_lt h

/-- One byte stands at an offset inside the body. -/
theorem drop_eq_byteAt {bs : List Byte} {i : Nat} (h : i < bs.length) :
    bs.drop i = byteAt bs i :: bs.drop (i + 1) := by
  rw [List.drop_eq_getElem_cons h, byteAt, List.getD_eq_getElem _ _ h]

/-- A body's first `n` bytes, one by one. -/
theorem eq_map_byteAt_append_drop {bs : List Byte} {n : Nat} (h : n ≤ bs.length) :
    bs = (List.range n).map (byteAt bs) ++ bs.drop n := by
  have htake : bs.take n = (List.range n).map (byteAt bs) := by
    apply List.ext_getElem
    · simp [h]
    · intro i hi _
      have hib : i < bs.length := by
        rw [List.length_take] at hi
        omega
      simp [byteAt, hib]
  rw [← htake, List.take_append_drop]

theorem be16_append (a b : Byte) : be16 (a ++ b) = [a, b] :=
  congrArg₂ (fun high low => [high, low]) BitVec.extractLsb'_append_eq_left BitVec.extractLsb'_append_eq_right

/-- Two bytes stand at an offset inside the body. -/
theorem drop_eq_halfAt {bs : List Byte} {i : Nat} (h : i + 2 ≤ bs.length) :
    bs.drop i = be16 (halfAt bs i) ++ bs.drop (i + 2) := by
  rw [halfAt, be16_append, drop_eq_byteAt (by omega), drop_eq_byteAt (i := i + 1) (by omega)]
  rfl

theorem be32_append (a b : Half) : be32 (a ++ b) = be16 a ++ be16 b := by
  have high (n : Nat) (h : 16 ≤ n) : (a ++ b).extractLsb' n 8 = a.extractLsb' (n - 16) 8 :=
    BitVec.extractLsb'_append_eq_of_le h
  have low (n : Nat) (h : n + 8 ≤ 16) : (a ++ b).extractLsb' n 8 = b.extractLsb' n 8 :=
    BitVec.extractLsb'_append_eq_of_add_le h
  exact congrArg₂ (· ++ ·)
    (congrArg₂ (fun x y => [x, y]) (high 24 (by omega)) (high 16 (by omega)))
    (congrArg₂ (fun x y => [x, y]) (low 8 (by omega)) (low 0 (by omega)))

/-- Four bytes stand at an offset inside the body. -/
theorem drop_eq_wordAt {bs : List Byte} {i : Nat} (h : i + 4 ≤ bs.length) :
    bs.drop i = be32 (wordAt bs i) ++ bs.drop (i + 4) := by
  rw [wordAt, be32_append, drop_eq_halfAt (by omega), drop_eq_halfAt (i := i + 2) (by omega),
    List.append_assoc]

/-! ### Numbers and codes -/

/-- The reading of a number below `n`, the common form of `queue?`, `sixteen?` and `index?`. -/
def number? (n : Nat) (b : Byte) : Option (Fin n) := if h : b.toNat < n then some ⟨b.toNat, h⟩ else none

theorem queue?_eq : queue? = number? 4 := rfl

theorem sixteen?_eq : sixteen? = number? 16 := rfl

theorem index?_eq : index? = number? 32 := rfl

theorem number?_byteOf {n : Nat} (hn : n ≤ 256) (i : Fin n) : number? n (byteOf i.val) = some i := by
  have h := toNat_byteOf (Nat.lt_of_lt_of_le i.isLt hn)
  simp [number?, h]

theorem number?_eq_none {n : Nat} {b : Byte} (h : n ≤ b.toNat) : number? n b = none :=
  dif_neg (Nat.not_lt.mpr h)

theorem eq_byteOf_of_number? {n : Nat} {b : Byte} {i : Fin n} (h : number? n b = some i) :
    b = byteOf i.val := by
  unfold number? at h
  split at h
  · cases h
    exact (byteOf_toNat b).symm
  · cases h

/-- 0xFF is no number below `n`, so a field that may be none reads back (Table 11-10). -/
theorem orNone?_orNoneByte {n : Nat} (hn : n ≤ 255) (v : Option (Fin n)) :
    orNone? (number? n) (orNoneByte v) = some v := by
  cases v with
  | none => rfl
  | some i =>
    have hb : byteOf i.val ≠ 0xFF := by
      intro h
      have hi := i.isLt
      have h255 : i.val = 255 := (toNat_byteOf (by omega)).symm.trans (congrArg BitVec.toNat h)
      omega
    unfold orNone? orNoneByte
    rw [if_neg hb, number?_byteOf (Nat.le_succ_of_le hn)]
    rfl

theorem orNone?_eq_none {n : Nat} {b : Byte} (h : n ≤ b.toNat) (hb : b ≠ 0xFF) :
    orNone? (number? n) b = none := by
  unfold orNone?
  rw [if_neg hb, number?_eq_none h]
  rfl

theorem eq_orNoneByte_of_orNone? {n : Nat} {b : Byte} {v : Option (Fin n)}
    (h : orNone? (number? n) b = some v) : b = orNoneByte v := by
  unfold orNone? at h
  split at h
  · cases h
    assumption
  · obtain ⟨i, hi, rfl⟩ := Option.map_eq_some_iff.mp h
    exact eq_byteOf_of_number? hi

@[simp] theorem yesNo?_yesNo (v : Bool) : yesNo? (yesNo v) = some v := by
  cases v <;> rfl

theorem eq_yesNo_of_yesNo? {b : Byte} {v : Bool} (h : yesNo? b = some v) : b = yesNo v := by
  unfold yesNo? at h
  split_ifs at h <;> cases h <;> assumption

theorem AddrClass.eq_code_of_ofByte? {b : Byte} {c : AddrClass} (h : AddrClass.ofByte? b = some c) :
    b = c.code := by
  unfold AddrClass.ofByte? at h
  split_ifs at h <;> cases h <;> assumption

theorem TermOp.eq_code_of_ofByte? {b : Byte} {o : TermOp} (h : TermOp.ofByte? b = some o) : b = o.code := by
  unfold TermOp.ofByte? at h
  split_ifs at h <;> cases h <;> assumption

theorem TermWidth.eq_byteOf_of_ofByte? {b : Byte} {w : TermWidth} (h : TermWidth.ofByte? b = some w) :
    b = byteOf w.bytes := by
  unfold TermWidth.ofByte? at h
  split_ifs at h <;> cases h <;> assumption

/-- The flag byte of an entry below 4 holds its two flags and nothing else (Table 11-11). -/
theorem eq_flags_of_lt_four {b : Byte} (h : b.toNat < 4) :
    b = yesNo (b.getLsbD 0) ||| (yesNo (b.getLsbD 1) <<< 1) := by
  have hb : b = 0 ∨ b = 1 ∨ b = 2 ∨ b = 3 := by bv_omega
  rcases hb with rfl | rfl | rfl | rfl <;> rfl

/-! ### The parts of an entry -/

/-- The ranges of a term (Table 3-4). -/
def Term.InRange (t : Term) : Prop :=
  t.offset ≤ 247 ∧ t.offset + t.width.bytes ≤ 248 ∧ t.width.fits t.mask = true ∧ t.width.fits t.operand = true

/-- The range of a source window (Table 3-4). -/
def WindowInRange (w : Half × Half) : Prop :=
  isStation w.1 = true ∧ isStation w.2 = true ∧ w.1.toNat ≤ w.2.toNat

/-- The ranges of a capture (Table 3-4). -/
def Capture.InRange (c : Capture) : Prop :=
  c.offset ≤ 247 ∧ 1 ≤ c.length ∧ c.length ≤ 16 ∧ c.offset + c.length ≤ 248

/-- The bytes of the optional source window in an entry (Table 11-11). -/
def windowField : Option (Half × Half) → List Byte
  | none => []
  | some (low, high) => be16 low ++ be16 high

/-- The bytes of the optional capture in an entry (Table 11-11). -/
def captureField : Option Capture → List Byte
  | none => []
  | some c => [byteOf c.slot.val, byteOf c.offset, byteOf c.length]

/-- The nine bytes in front of an entry's optional parts (Table 11-11). -/
def Entry.header (e : Entry) : List Byte :=
  [e.cls.code, e.kindValue, e.kindMask, byteOf e.terms.length, yesNo e.window.isSome,
   yesNo e.capture.isSome, orNoneByte e.deliver, orNoneByte e.answer,
   yesNo e.wake ||| (yesNo e.continue_ <<< 1)]

theorem Entry.bytes_eq (e : Entry) :
    e.bytes = e.header ++ windowField e.window ++ captureField e.capture ++ e.terms.flatMap Term.bytes := rfl

/-- A term that is read is in range, and it stands at the front of the bytes. -/
theorem term?_eq_some {bs : List Byte} {t : Term} (h : term? bs = some t) (hl : 11 ≤ bs.length) :
    t.InRange ∧ bs = t.bytes ++ bs.drop 11 := by
  simp only [term?, Option.bind_eq_bind, Option.bind_eq_some_iff] at h
  obtain ⟨width, hw, op, ho, h⟩ := h
  split at h
  case isFalse => cases h
  case isTrue hr =>
    cases h
    refine ⟨hr, ?_⟩
    have hb : bs = [byteAt bs 0, byteAt bs 1, byteAt bs 2] ++
        (be32 (wordAt bs 3) ++ (be32 (wordAt bs 7) ++ bs.drop 11)) := by
      rw [← drop_eq_wordAt (i := 7) (by omega), ← drop_eq_wordAt (i := 3) (by omega)]
      exact eq_map_byteAt_append_drop (n := 3) (by omega)
    simpa [Term.bytes, natAt, byteOf_toNat, ← TermWidth.eq_byteOf_of_ofByte? hw,
      ← TermOp.eq_code_of_ofByte? ho] using hb

/-- The terms that are read are in range, and they stand one after the other at the front of the bytes. -/
theorem terms?_eq_some {n : Nat} {bs : List Byte} {ts : List Term} (h : terms? n bs = some ts)
    (hl : 11 * n ≤ bs.length) :
    ts.length = n ∧ (∀ t ∈ ts, t.InRange) ∧ bs = ts.flatMap Term.bytes ++ bs.drop (11 * n) := by
  induction n generalizing bs ts with
  | zero =>
    cases h
    simp
  | succ n ih =>
    simp only [terms?, Option.bind_eq_bind, Option.bind_eq_some_iff] at h
    obtain ⟨t, ht, us, hus, h⟩ := h
    cases h
    obtain ⟨hr, hb⟩ := term?_eq_some ht (by omega)
    obtain ⟨hlen, hrs, hbs⟩ := ih hus (by rw [List.length_drop]; omega)
    refine ⟨by simp [hlen], by simpa using ⟨hr, hrs⟩, ?_⟩
    rw [List.drop_drop, show 11 + 11 * n = 11 * (n + 1) by omega] at hbs
    rw [List.flatMap_cons, List.append_assoc, ← hbs]
    exact hb

/-- A window that is read is in range, its presence code says whether it is there, and it stands at the front of
the bytes. -/
theorem window?_eq_some {p : Byte} {bs : List Byte} {w : Option (Half × Half)} (h : window? p bs = some w)
    (hl : windowBytes p ≤ bs.length) :
    (∀ x, w = some x → WindowInRange x) ∧ p = yesNo w.isSome ∧
      bs = windowField w ++ bs.drop (windowBytes p) := by
  simp only [window?, Option.bind_eq_bind, Option.bind_eq_some_iff] at h
  obtain ⟨present, hp, h⟩ := h
  obtain rfl := eq_yesNo_of_yesNo? hp
  cases present with
  | false =>
    cases h
    exact ⟨by simp, rfl, rfl⟩
  | true =>
    simp only [if_true] at h
    split at h
    case isFalse => cases h
    case isTrue hr =>
      cases h
      have hl4 : 4 ≤ bs.length := hl
      refine ⟨by rintro _ ⟨⟩; exact hr, rfl, ?_⟩
      calc bs = be16 (halfAt bs 0) ++ bs.drop 2 := drop_eq_halfAt (i := 0) (by omega)
        _ = be16 (halfAt bs 0) ++ (be16 (halfAt bs 2) ++ bs.drop 4) := by
            rw [← drop_eq_halfAt (i := 2) (by omega)]
        _ = _ := (List.append_assoc ..).symm

/-- A capture that is read is in range, its presence code says whether it is there, and it stands at the front of
the bytes. -/
theorem capture?_eq_some {p : Byte} {bs : List Byte} {c : Option Capture} (h : capture? p bs = some c)
    (hl : captureBytes p ≤ bs.length) :
    (∀ x, c = some x → x.InRange) ∧ p = yesNo c.isSome ∧
      bs = captureField c ++ bs.drop (captureBytes p) := by
  simp only [capture?, Option.bind_eq_bind, Option.bind_eq_some_iff] at h
  obtain ⟨present, hp, h⟩ := h
  obtain rfl := eq_yesNo_of_yesNo? hp
  cases present with
  | false =>
    cases h
    exact ⟨by simp, rfl, rfl⟩
  | true =>
    simp only [if_true, Option.bind_eq_some_iff] at h
    obtain ⟨slot, hs, h⟩ := h
    split at h
    case isFalse => cases h
    case isTrue hr =>
      cases h
      have hl3 : 3 ≤ bs.length := hl
      refine ⟨by rintro _ ⟨⟩; exact hr, rfl, ?_⟩
      simp only [captureField, natAt, byteOf_toNat]
      rw [← eq_byteOf_of_number? hs]
      exact eq_map_byteAt_append_drop hl3

/-! ### The entry -/

/-- An IN_USE entry whose fields are in range (Table 3-4). -/
structure Entry.InRange (e : Entry) : Prop where
  inUse : e.inUse = true
  terms_length : e.terms.length ≤ 4
  window : ∀ w, e.window = some w → WindowInRange w
  capture : ∀ c, e.capture = some c → c.InRange
  terms : ∀ t ∈ e.terms, t.InRange

/-- An entry that is read from bytes of the length they declare is in range, and the bytes are its own: the
reading loses nothing (R42, R172). -/
theorem entry?_eq_some {bs : List Byte} {e : Entry} (h : entry? bs = some e)
    (hl : bs.length = entryLength bs) : e.InRange ∧ bs = e.bytes := by
  unfold entryLength at hl
  simp only [entry?, Option.bind_eq_bind, Option.bind_eq_some_iff] at h
  obtain ⟨cls, hcls, window, hwin, capture, hcap, deliver, hdel, answer, hans, h⟩ := h
  split at h
  case isFalse => cases h
  case isTrue hr =>
    obtain ⟨hn, hflags⟩ := hr
    simp only [Option.bind_eq_some_iff] at h
    obtain ⟨terms, hterms, h⟩ := h
    cases h
    obtain ⟨hwr, hwp, hwb⟩ := window?_eq_some hwin (by rw [List.length_drop]; omega)
    obtain ⟨hcr, hcp, hcb⟩ := capture?_eq_some hcap (by rw [List.length_drop]; omega)
    obtain ⟨htl, htr, htb⟩ := terms?_eq_some hterms (by rw [List.length_drop]; omega)
    rw [List.drop_drop] at hwb hcb
    have hend : bs.drop (9 + windowBytes (byteAt bs 4) + captureBytes (byteAt bs 5)) =
        terms.flatMap Term.bytes := by
      rw [List.drop_drop, List.drop_eq_nil_of_le hl.le, List.append_nil] at htb
      exact htb
    refine ⟨⟨rfl, htl ▸ hn, hwr, hcr, htr⟩, ?_⟩
    rw [Entry.bytes_eq, List.append_assoc, List.append_assoc, ← hend, ← hcb, ← hwb]
    simp only [Entry.header, htl, ← hwp, ← hcp, natAt, byteOf_toNat]
    rw [← AddrClass.eq_code_of_ofByte? hcls, ← eq_orNoneByte_of_orNone? hdel,
      ← eq_orNoneByte_of_orNone? hans, ← eq_flags_of_lt_four hflags]
    exact eq_map_byteAt_append_drop (n := 9) (by omega)

end Sys2Proof.Machine
end

section
/-! The edits of STAGED (R44, R45, R47 to R49): SIEVE_PUT, SIEVE_CLEAR, SIEVE_COPY and SIEVE_DEFAULT of an accepted
request, each by what its body holds. -/

namespace Sys2Proof.Machine

theorem exec_sievePut (s : State) : exec .sievePut s = execSievePut s := rfl

theorem exec_sieveClear (s : State) : exec .sieveClear s = execSieveClear s := rfl

theorem exec_sieveCopy (s : State) : exec .sieveCopy s = execSieveCopy s := rfl

theorem exec_sieveDefault (s : State) : exec .sieveDefault s = execSieveDefault s := rfl

/-- What an accepted edit of STAGED leaves: BUSY and no effect while a commit is pending, otherwise the bank `b` in
STAGED and DONE with its content (R44). -/
def State.edited (s : State) (k : ReqKind) (tag : Byte) (b : Bank) (content : List Byte) : State :=
  if s.sieve.commit.isSome then s.withReply k tag [Status.busy.code] []
  else (s.setStaged b).withReply k tag (Status.done.code :: content) []

/-- An accepted edit whose reply is held inline. -/
theorem Accepted.edit {s : State} {k : ReqKind} {tag : Byte} {body : List Byte} (h : Accepted s k tag body)
    (b : Bank) (content : List Byte) (hc : content.length ≤ 47) :
    (s.emptyBuffer.enterTable k tag).edit k tag b content = s.edited k tag b content := by
  have hs : (s.emptyBuffer.enterTable k tag).sieve = s.sieve := rfl
  unfold State.edit State.edited
  rw [hs, h.refuse, h.answerInline content (State.setStaged · b) (fun _ => rfl) (fun _ => rfl) hc]

/-! ### SIEVE_PUT -/

/-- SIEVE_PUT of a length that its counts and presence codes do not give is refused BAD_LENGTH (R45). -/
theorem execSievePut_badLength {s : State} {tag : Byte} {body : List Byte} (h : Accepted s .sievePut tag body)
    (hl : body.length ≠ 1 + entryLength (body.drop 1)) :
    execSievePut s = done (s.withReply .sievePut tag [Status.badLength.code] []) := by
  unfold execSievePut
  rw [State.dispatch_accepted h, if_pos hl, h.refuse]

/-- SIEVE_PUT whose index and entry are read writes that entry (R45). -/
theorem execSievePut_entry {s : State} {tag : Byte} {body : List Byte} {i : Fin 32} {e : Entry}
    (h : Accepted s .sievePut tag body) (hl : body.length = 1 + entryLength (body.drop 1))
    (hi : index? (byteAt body 0) = some i) (he : entry? (body.drop 1) = some e) :
    execSievePut s = done (s.edited .sievePut tag
      { s.sieve.staged with entries := s.sieve.staged.entries.set i e } []) := by
  unfold execSievePut
  rw [State.dispatch_accepted h, if_neg (not_not_intro hl), hi, he]
  exact congrArg done (h.edit _ [] (Nat.zero_le 47))

/-- SIEVE_PUT of the right length whose index or entry is not read is refused BAD_FIELD (R45). -/
theorem execSievePut_badField {s : State} {tag : Byte} {body : List Byte} (h : Accepted s .sievePut tag body)
    (hl : body.length = 1 + entryLength (body.drop 1))
    (hn : ∀ i e, index? (byteAt body 0) = some i → entry? (body.drop 1) ≠ some e) :
    execSievePut s = done (s.withReply .sievePut tag [Status.badField.code] []) := by
  unfold execSievePut
  rw [State.dispatch_accepted h, if_neg (not_not_intro hl)]
  split
  · rename_i i e hi he
    exact absurd he (hn i e hi)
  · rw [h.refuse]

/-- The length SIEVE_PUT declares, with its index byte: its term count stands at offset 4 and its presence codes
at 5 and 6 (Table 11-11, R172). -/
theorem one_add_entryLength_drop (body : List Byte) :
    1 + entryLength (body.drop 1) = 10 + 11 * natAt body 4 + (if natAt body 5 = 0 then 0 else 4) +
      (if natAt body 6 = 0 then 0 else 3) := by
  have hz : ∀ b : Byte, b.toNat = 0 ↔ b = 0 := fun b =>
    ⟨fun h => BitVec.eq_of_toNat_eq h, fun h => h ▸ rfl⟩
  simp only [entryLength, windowBytes, captureBytes, natAt, byteAt_drop_one, Nat.reduceAdd, hz]
  omega

/-- A SIEVE_PUT body of the right length from which an index and an entry are read carries an entry in range. -/
theorem sievePut_body_eq {body : List Byte} {i : Fin 32} {e : Entry}
    (hl : body.length = 1 + entryLength (body.drop 1)) (hi : index? (byteAt body 0) = some i)
    (he : entry? (body.drop 1) = some e) : e.InRange ∧ body = byteOf i.val :: e.bytes := by
  have hpos : 0 < body.length := by omega
  obtain ⟨hr, hb⟩ := entry?_eq_some he (by rw [List.length_drop]; omega)
  refine ⟨hr, ?_⟩
  rw [← eq_byteOf_of_number? hi, ← hb, ← drop_eq_byteAt hpos, List.drop_zero]

/-! ### SIEVE_CLEAR -/

/-- SIEVE_CLEAR of an index makes that entry UNUSED (R47). -/
theorem execSieveClear_index {s : State} {tag : Byte} {i : Fin 32}
    (h : Accepted s .sieveClear tag [byteOf i.val]) :
    execSieveClear s = done (s.edited .sieveClear tag
      { s.sieve.staged with entries := s.sieve.staged.entries.set i Entry.empty } []) := by
  have hi : orNone? index? (byteAt [byteOf i.val] 0) = some (some i) :=
    orNone?_orNoneByte (by omega) (some i)
  unfold execSieveClear
  rw [State.dispatch_accepted h, hi]
  exact congrArg done (h.edit _ [] (Nat.zero_le 47))

/-- SIEVE_CLEAR of 0xFF makes every entry UNUSED (R47). -/
theorem execSieveClear_all {s : State} {tag : Byte} (h : Accepted s .sieveClear tag [0xFF]) :
    execSieveClear s = done (s.edited .sieveClear tag
      { s.sieve.staged with entries := Vector.replicate 32 Entry.empty } []) := by
  have hi : orNone? index? (byteAt [0xFF] 0) = some none := rfl
  unfold execSieveClear
  rw [State.dispatch_accepted h, hi]
  exact congrArg done (h.edit _ [] (Nat.zero_le 47))

/-- SIEVE_CLEAR of any other index is refused BAD_FIELD (R47). -/
theorem execSieveClear_badField {s : State} {tag v : Byte} (h : Accepted s .sieveClear tag [v])
    (hv : 31 < v.toNat) (hff : v ≠ 0xFF) :
    execSieveClear s = done (s.withReply .sieveClear tag [Status.badField.code] []) := by
  have hi : orNone? index? (byteAt [v] 0) = none := orNone?_eq_none hv hff
  unfold execSieveClear
  rw [State.dispatch_accepted h, hi]
  exact congrArg done (h.refuse .badField)

/-! ### SIEVE_COPY and SIEVE_DEFAULT -/

/-- SIEVE_COPY puts ACTIVE in STAGED and reports the generation (R48). -/
theorem execSieveCopy_active {s : State} {tag : Byte} (h : Accepted s .sieveCopy tag []) :
    execSieveCopy s = done (s.edited .sieveCopy tag s.sieve.active (be16 s.sieve.generation)) := by
  unfold execSieveCopy
  rw [State.dispatch_accepted h]
  exact congrArg done (h.edit _ _ (show 2 ≤ 47 by omega))

/-- SIEVE_DEFAULT sets the default verdict (R49). -/
theorem execSieveDefault_verdict {s : State} {tag : Byte} {d : Option (Fin 4)} {w : Bool}
    (h : Accepted s .sieveDefault tag [orNoneByte d, yesNo w]) :
    execSieveDefault s = done (s.edited .sieveDefault tag { s.sieve.staged with dflt := ⟨d, w⟩ } []) := by
  have hd : orNone? queue? (byteAt [orNoneByte d, yesNo w] 0) = some d := orNone?_orNoneByte (by omega) d
  have hw : yesNo? (byteAt [orNoneByte d, yesNo w] 1) = some w := yesNo?_yesNo w
  unfold execSieveDefault
  rw [State.dispatch_accepted h, hd, hw]
  exact congrArg done (h.edit _ [] (Nat.zero_le 47))

/-- SIEVE_DEFAULT of a deliver-to that is no queue and not none is refused BAD_FIELD (R49). -/
theorem execSieveDefault_badField {s : State} {tag v w : Byte} (h : Accepted s .sieveDefault tag [v, w])
    (hv : 3 < v.toNat) (hff : v ≠ 0xFF) :
    execSieveDefault s = done (s.withReply .sieveDefault tag [Status.badField.code] []) := by
  have hd : orNone? queue? (byteAt [v, w] 0) = none := orNone?_eq_none hv hff
  unfold execSieveDefault
  rw [State.dispatch_accepted h, hd]
  exact congrArg done (h.refuse .badField)

end Sys2Proof.Machine

namespace Sys2Proof

open Machine

/-- Settles O24: each edit by what its body holds.  The one clause with an idea is the last: a body of the right
length from which an index and an entry are read is that index before the bytes of an entry in range, which the
clause's premise rules out. -/
theorem sieveEditsActOnStaged : Obligations.SieveEditsActOnStaged := by
  intro s tag
  refine ⟨?put, ?clear, ?clearAll, ?copy, ?default, ?clearRefused, ?defaultRefused, ?putRefused⟩
  case put =>
    intro i bytes e he hl h
    rw [exec_sievePut, execSievePut_entry h (by simpa [Nat.add_comm] using hl)
      (number?_byteOf (by omega) i) he]
    rfl
  case clear =>
    intro i h
    rw [exec_sieveClear, execSieveClear_index h]
    rfl
  case clearAll =>
    intro h
    rw [exec_sieveClear, execSieveClear_all h]
    rfl
  case copy =>
    intro h
    rw [exec_sieveCopy, execSieveCopy_active h]
    rfl
  case default =>
    intro d w h
    rw [exec_sieveDefault, execSieveDefault_verdict h]
    rfl
  case clearRefused =>
    intro v hv hff h
    rw [exec_sieveClear, execSieveClear_badField h hv hff]
    rfl
  case defaultRefused =>
    intro v w hv hff h
    rw [exec_sieveDefault, execSieveDefault_badField h hv hff]
    rfl
  case putRefused =>
    intro body n h hn
    rw [← one_add_entryLength_drop] at hn
    subst hn
    constructor
    · intro hl
      rw [exec_sievePut, execSievePut_badLength h hl]
      rfl
    · intro hl hnone
      have hunread : ∀ i e, index? (byteAt body 0) = some i → entry? (body.drop 1) ≠ some e := by
        intro i e hi he
        obtain ⟨hr, hb⟩ := sievePut_body_eq hl hi he
        exact hnone i e hr.inUse hr.terms_length hr.window hr.capture hr.terms hb
      rw [exec_sievePut, execSievePut_badField h hl hunread]
      rfl

end Sys2Proof
end

section
/-! The reports and clearings of the classifier (R71 to R73) and SIEVE_GET (R46): each accepted request by what its
body holds. -/

namespace Sys2Proof.Machine

theorem exec_hitsRead (s : State) : exec .hitsRead s = execHitsRead s := rfl

theorem exec_hitsClear (s : State) : exec .hitsClear s = execHitsClear s := rfl

theorem exec_classifyStatus (s : State) : exec .classifyStatus s = execClassifyStatus s := rfl

theorem exec_sieveGet (s : State) : exec .sieveGet s = execSieveGet s := rfl

/-! ### Option bytes -/

theorem toNat_yesNo (v : Bool) : (yesNo v).toNat = v.toNat := by
  cases v <;> rfl

/-- A byte is no option, or it is the byte of one (R173). -/
theorem yesNo?_eq_none_or (b : Byte) : yesNo? b = none ∨ ∃ v, b = yesNo v := by
  cases h : yesNo? b with
  | none => exact .inl rfl
  | some v => exact .inr ⟨v, eq_yesNo_of_yesNo? h⟩

/-! ### HITS_READ -/

/-- With an option that is read, the range is judged by its two numbers (R71). -/
theorem hitsReadRange?_yesNo (first count : Byte) (o : Bool) :
    hitsReadRange? [first, count, yesNo o] =
      if first.toNat ≤ 31 ∧ count.toNat ≤ 8 ∧ first.toNat + count.toNat ≤ 32 ∧
          1 ≤ count.toNat + o.toNat ∧ count.toNat + o.toNat ≤ 8 then
        some (first.toNat, count.toNat, o)
      else none := by
  have ho : yesNo? (byteAt [first, count, yesNo o] 2) = some o := yesNo?_yesNo o
  rw [hitsReadRange?, ho]
  rfl

theorem hitsReadRange?_eq_some {first count : Nat} {o : Bool} (hsum : first + count ≤ 32) (hfirst : first ≤ 31)
    (hlow : 1 ≤ count + o.toNat) (hhigh : count + o.toNat ≤ 8) :
    hitsReadRange? [byteOf first, byteOf count, yesNo o] = some (first, count, o) := by
  rw [hitsReadRange?_yesNo, toNat_byteOf (by omega), toNat_byteOf (by omega), if_pos (by omega)]

theorem hitsReadRange?_eq_none {first count o : Byte}
    (h : 31 < first.toNat ∨ 8 < count.toNat ∨ 1 < o.toNat ∨ 32 < first.toNat + count.toNat ∨
      count.toNat + o.toNat < 1 ∨ 8 < count.toNat + o.toNat) :
    hitsReadRange? [first, count, o] = none := by
  obtain ho | ⟨v, rfl⟩ := yesNo?_eq_none_or o
  · have hbyte : yesNo? (byteAt [first, count, o] 2) = none := ho
    rw [hitsReadRange?, hbyte]
  · have hv : v.toNat ≤ 1 := Bool.toNat_le v
    rw [toNat_yesNo] at h
    rw [hitsReadRange?_yesNo, if_neg (by omega)]

theorem length_flatMap_be32 (ws : List Word) : (ws.flatMap be32).length = 4 * ws.length := by
  induction ws with
  | nil => rfl
  | cons w ws ih => simp [be32, ih]; omega

/-- What HITS_READ reports after its status: the generation, the range, its hit counters, and the default's with
the option (R71). -/
def State.hitsContent (s : State) (first count : Nat) (o : Bool) : List Byte :=
  be16 s.sieve.generation ++ [byteOf first, byteOf count] ++
    ((s.classifier.hits.toList.drop first).take count).flatMap be32 ++
    (if o then be32 s.classifier.defaultHits else [])

/-- Four bytes stand in front of the counters, which take four bytes each (Table 11-15). -/
theorem State.length_hitsContent_le (s : State) (first count : Nat) (o : Bool) :
    (s.hitsContent first count o).length ≤ 4 + 4 * (count + o.toNat) := by
  have hlast : (if o then be32 s.classifier.defaultHits else []).length = 4 * o.toNat := by
    cases o <;> rfl
  have htaken : ((s.classifier.hits.toList.drop first).take count).length ≤ count := List.length_take_le ..
  simp only [State.hitsContent, List.length_append, length_flatMap_be32, hlast, be16, List.length_cons,
    List.length_nil]
  omega

/-- HITS_READ of a range of at most 8 counters reports them (R71). -/
theorem execHitsRead_range {s : State} {tag : Byte} {body : List Byte} {first count : Nat} {o : Bool}
    (h : Accepted s .hitsRead tag body) (hr : hitsReadRange? body = some (first, count, o))
    (hc : count + o.toNat ≤ 8) :
    execHitsRead s =
      done (s.withReply .hitsRead tag (Status.done.code :: s.hitsContent first count o) []) := by
  have hl := s.length_hitsContent_le first count o
  unfold execHitsRead
  rw [State.dispatch_accepted h, hr]
  exact congrArg done (h.answerInline (s.hitsContent first count o) id (fun _ => rfl) (fun _ => rfl) (by omega))

/-- HITS_READ of a range that is not read is refused BAD_FIELD (R71). -/
theorem execHitsRead_badField {s : State} {tag : Byte} {body : List Byte} (h : Accepted s .hitsRead tag body)
    (hr : hitsReadRange? body = none) :
    execHitsRead s = done (s.withReply .hitsRead tag [Status.badField.code] []) := by
  unfold execHitsRead
  rw [State.dispatch_accepted h, hr]
  exact congrArg done (h.refuse .badField)

/-! ### HITS_CLEAR -/

/-- With an option that is read, the range is judged by its two numbers (R72). -/
theorem hitsClearRange?_yesNo (first count : Byte) (o : Bool) :
    hitsClearRange? [first, count, yesNo o] =
      if first.toNat ≤ 31 ∧ count.toNat ≤ 32 ∧ first.toNat + count.toNat ≤ 32 ∧
          (count.toNat ≠ 0 ∨ o = true) then
        some (first.toNat, count.toNat, o)
      else none := by
  have ho : yesNo? (byteAt [first, count, yesNo o] 2) = some o := yesNo?_yesNo o
  rw [hitsClearRange?, ho]
  rfl

theorem hitsClearRange?_eq_some {first count : Nat} {o : Bool} (hsum : first + count ≤ 32)
    (hfirst : first ≤ 31) (hsome : count ≠ 0 ∨ o = true) :
    hitsClearRange? [byteOf first, byteOf count, yesNo o] = some (first, count, o) := by
  rw [hitsClearRange?_yesNo, toNat_byteOf (by omega), toNat_byteOf (by omega),
    if_pos ⟨hfirst, by omega, hsum, hsome⟩]

theorem hitsClearRange?_eq_none {first count o : Byte}
    (h : 31 < first.toNat ∨ 32 < count.toNat ∨ 1 < o.toNat ∨ 32 < first.toNat + count.toNat ∨
      (count = 0 ∧ o ≠ 1)) :
    hitsClearRange? [first, count, o] = none := by
  obtain ho | ⟨v, rfl⟩ := yesNo?_eq_none_or o
  · have hbyte : yesNo? (byteAt [first, count, o] 2) = none := ho
    rw [hitsClearRange?, hbyte]
  · rw [hitsClearRange?_yesNo, if_neg]
    rintro ⟨hfirst, hcount, hsum, hsome⟩
    have hv : v.toNat ≤ 1 := Bool.toNat_le v
    rw [toNat_yesNo] at h
    have hnone : count = 0 ∧ yesNo v ≠ 1 := by
      by_contra hn
      simp only [hn, or_false] at h
      omega
    obtain ⟨rfl, hv1⟩ := hnone
    obtain hc | rfl := hsome
    · exact hc rfl
    · exact hv1 rfl

/-- HITS_CLEAR of a range that is read sets its counters to 0 and is answered DONE (R72). -/
theorem execHitsClear_range {s : State} {tag : Byte} {body : List Byte} {first count : Nat} {o : Bool}
    (h : Accepted s .hitsClear tag body) (hr : hitsClearRange? body = some (first, count, o)) :
    execHitsClear s =
      done ((s.clearHits first count o).withReply .hitsClear tag [Status.done.code] []) := by
  unfold execHitsClear
  rw [State.dispatch_accepted h, hr]
  exact congrArg done
    (h.answerInline [] (State.clearHits · first count o) (fun _ => rfl) (fun _ => rfl) (Nat.zero_le 47))

/-- HITS_CLEAR of a range that is not read is refused BAD_FIELD (R72). -/
theorem execHitsClear_badField {s : State} {tag : Byte} {body : List Byte}
    (h : Accepted s .hitsClear tag body) (hr : hitsClearRange? body = none) :
    execHitsClear s = done (s.withReply .hitsClear tag [Status.badField.code] []) := by
  unfold execHitsClear
  rw [State.dispatch_accepted h, hr]
  exact congrArg done (h.refuse .badField)

/-! ### CLASSIFY_STATUS -/

/-- The five classifier counters are set to 0 where the option asks for it (R73). -/
def State.clearCountersIf (s : State) (o : Bool) : State :=
  if o then s.setClassifierCounters ⟨0, 0, 0, 0, 0⟩ else s

/-- CLASSIFY_STATUS reports the classifier as it stood before the counters are cleared (R73). -/
theorem execClassifyStatus_option {s : State} {tag : Byte} {o : Bool}
    (h : Accepted s .classifyStatus tag [yesNo o]) :
    execClassifyStatus s = done ((s.clearCountersIf o).withReply .classifyStatus tag
      (Status.done.code :: s.classifyContent) []) := by
  have ho : yesNo? (byteAt [yesNo o] 0) = some o := yesNo?_yesNo o
  have hl : s.classifyContent.length ≤ 47 := by
    simp [State.classifyContent, ClassifierCounters.bytes, be16, be32]
  unfold execClassifyStatus
  rw [State.dispatch_accepted h, ho]
  exact congrArg done (h.answerInline s.classifyContent (State.clearCountersIf · o)
    (fun _ => by cases o <;> rfl) (fun _ => by cases o <;> rfl) hl)

/-! ### SIEVE_GET -/

theorem Sieve.bank?_eq_some (v : Sieve) {bank : Byte} (hb : bank = 0 ∨ bank = 1) :
    v.bank? bank = some (if bank = 0 then v.active else v.staged) := by
  obtain rfl | rfl := hb <;> rfl

theorem Sieve.bank?_eq_none (v : Sieve) {bank : Byte} (h0 : bank ≠ 0) (h1 : bank ≠ 1) :
    v.bank? bank = none := by
  rw [Sieve.bank?, if_neg h0, if_neg h1]

/-- SIEVE_GET of an index in a bank reports that entry (R46). -/
theorem execSieveGet_entry {s : State} {tag bank : Byte} {i : Fin 32} {b : Bank}
    (h : Accepted s .sieveGet tag [bank, byteOf i.val]) (hb : s.sieve.bank? bank = some b) :
    execSieveGet s =
      done (s.answered .sieveGet tag (s.sieve.getContent bank i b.entries[i]) id) := by
  have hbank : (s.emptyBuffer.enterTable .sieveGet tag).sieve.bank? (byteAt [bank, byteOf i.val] 0) =
      some b := hb
  have hi : index? (byteAt [bank, byteOf i.val] 1) = some i := number?_byteOf (by omega) i
  unfold execSieveGet
  rw [State.dispatch_accepted h, hbank, hi]
  exact congrArg done
    (h.answer (s.sieve.getContent bank i b.entries[i]) id (fun _ => rfl) (fun _ => rfl))

/-- SIEVE_GET of a bank code that names no bank is refused BAD_FIELD (R46). -/
theorem execSieveGet_badField {s : State} {tag bank index : Byte}
    (h : Accepted s .sieveGet tag [bank, index]) (hb : s.sieve.bank? bank = none) :
    execSieveGet s = done (s.withReply .sieveGet tag [Status.badField.code] []) := by
  have hbank : (s.emptyBuffer.enterTable .sieveGet tag).sieve.bank? (byteAt [bank, index] 0) = none := hb
  unfold execSieveGet
  rw [State.dispatch_accepted h, hbank]
  exact congrArg done (h.refuse .badField)

end Sys2Proof.Machine

namespace Sys2Proof

open Machine

/-- Settles O27: each request by what its body holds.  The readings of the ranges decide the replies of HITS_READ
and HITS_CLEAR, and the reading of the bank code those of SIEVE_GET. -/
theorem sieveAndClassifierReportsReply : Obligations.SieveAndClassifierReportsReply := by
  intro s tag
  refine ⟨?hitsRead, ?hitsClear, ?classifyStatus, ?sieveGet, ?hitsReadRefused, ?hitsClearRefused⟩
  case hitsRead =>
    intro first count o hsum hfirst hlow hhigh h
    rw [exec_hitsRead, execHitsRead_range h (hitsReadRange?_eq_some hsum hfirst hlow hhigh) hhigh]
    rfl
  case hitsClear =>
    intro first count o hsum hfirst hsome h
    rw [exec_hitsClear, execHitsClear_range h (hitsClearRange?_eq_some hsum hfirst hsome)]
    rfl
  case classifyStatus =>
    intro o h
    rw [exec_classifyStatus, execClassifyStatus_option h]
    rfl
  case sieveGet =>
    intro bank i h
    constructor
    · intro hb
      rw [exec_sieveGet, execSieveGet_entry h (s.sieve.bank?_eq_some hb)]
      rfl
    · intro h0 h1
      rw [exec_sieveGet, execSieveGet_badField h (s.sieve.bank?_eq_none h0 h1)]
      rfl
  case hitsReadRefused =>
    intro first count o hbad h
    rw [exec_hitsRead, execHitsRead_badField h (hitsReadRange?_eq_none hbad)]
    rfl
  case hitsClearRefused =>
    intro first count o hbad h
    rw [exec_hitsClear, execHitsClear_badField h (hitsClearRange?_eq_none hbad)]
    rfl

end Sys2Proof
end

section
/-! The evaluation as a function of the bank, the address lists and the frame: when an entry matches (R62, R63), which
entries a scan takes (R64), and what their verdict is (R65). -/

namespace Sys2Proof.Machine

/-! ### Matching -/

/-- The destinations that an address class admits (Table 3-2). -/
def AddrClass.Admits (c : AddrClass) (own group : List Half) (dst : Half) : Prop :=
  match c with
  | .own => dst ∈ own
  | .group => dst ∈ group
  | .all => dst = 0xFFFF
  | .addressed => dst ∈ own ∨ dst ∈ group ∨ dst = 0xFFFF
  | .others => dst ∉ own ∧ dst ∉ group ∧ dst ≠ 0xFFFF
  | .every => True

theorem AddrClass.admits_iff (c : AddrClass) (own group : List Half) (dst : Half) :
    c.admits own group dst = true ↔ c.Admits own group dst := by
  cases c with
  | own | group | all | every => simp [admits, Admits]
  | addressed => simp [admits, Admits, or_assoc]
  | others => simp [admits, Admits, and_assoc]

theorem inWindow_iff (w : Option (Half × Half)) (src : Half) :
    inWindow w src = true ↔ ∀ x, w = some x → x.1.toNat ≤ src.toNat ∧ src.toNat ≤ x.2.toNat := by
  cases w with
  | none => simp [inWindow]
  | some x => simp [inWindow]

/-- The comparison that a term operator makes of a masked field `v` and its operand (Table 3-3). -/
def TermOp.Compares (op : TermOp) (v operand : Word) : Prop :=
  match op with
  | .eq => v = operand
  | .ne => v ≠ operand
  | .lt => v.toNat < operand.toNat
  | .ge => operand.toNat ≤ v.toNat
  | .allSet => v &&& operand = operand
  | .anySet => v &&& operand ≠ 0

theorem TermOp.judge_iff (op : TermOp) (v operand : Word) :
    op.judge v operand = true ↔ op.Compares v operand := by
  cases op with
  | eq | allSet => exact beq_iff_eq
  | ne | anySet => exact bne_iff_ne
  | lt | ge => exact decide_eq_true_iff

theorem Term.holds_iff (t : Term) (payload : List Byte) :
    t.holds payload = true ↔ t.offset + t.width.bytes ≤ payload.length ∧
      t.op.Compares (t.field payload &&& t.mask) t.operand := by
  rw [Term.holds, Bool.and_eq_true, decide_eq_true_iff, TermOp.judge_iff]

theorem Entry.matches_iff (e : Entry) (own group : List Half) (f : Frame) :
    e.matches own group f = true ↔
      e.inUse = true ∧ e.cls.Admits own group f.dst ∧
      f.kind &&& e.kindMask = e.kindValue &&& e.kindMask ∧
      (∀ w, e.window = some w → w.1.toNat ≤ f.src.toNat ∧ f.src.toNat ≤ w.2.toNat) ∧
      ∀ t ∈ e.terms, t.offset + t.width.bytes ≤ f.payload.length ∧
        t.op.Compares (t.field f.payload &&& t.mask) t.operand := by
  simp only [Entry.matches, Bool.and_eq_true, AddrClass.admits_iff, beq_iff_eq, inWindow_iff, List.all_eq_true,
    Term.holds_iff, and_assoc]

/-! ### The scan -/

/-- A scan of the indices `is` takes entry `i`: it matches, and no matching entry of a smaller index among them is
terminal (R64). -/
def Bank.takes (b : Bank) (own group : List Half) (f : Frame) (is : List (Fin 32)) (i : Fin 32) : Bool :=
  decide (b.entries[i].matches own group f = true ∧
    ∀ j ∈ is, j < i → b.entries[j].matches own group f = true → b.entries[j].continue_ = true)

/-- The first index is taken where its entry matches. -/
theorem Bank.takes_head (b : Bank) (own group : List Half) (f : Frame) {i : Fin 32} {is : List (Fin 32)}
    (hi : ∀ j ∈ is, i < j) :
    b.takes own group f (i :: is) i = b.entries[i].matches own group f := by
  have hnone : ∀ j ∈ i :: is, ¬ j < i := by
    intro j hj
    obtain rfl | hj := List.mem_cons.mp hj
    · exact lt_irrefl j
    · exact (hi j hj).asymm
  rw [Bank.takes, Bool.eq_iff_iff, decide_eq_true_iff]
  exact and_iff_left fun j hj hlt => absurd hlt (hnone j hj)

/-- A later index is taken where a scan that begins behind the first takes it, and the first is not terminal. -/
theorem Bank.takes_later (b : Bank) (own group : List Half) (f : Frame) {i k : Fin 32} {is : List (Fin 32)}
    (hik : i < k) :
    b.takes own group f (i :: is) k =
      (decide (b.entries[i].matches own group f = true → b.entries[i].continue_ = true) &&
        b.takes own group f is k) := by
  rw [Bool.eq_iff_iff, Bool.and_eq_true]
  simp only [Bank.takes, decide_eq_true_iff, List.forall_mem_cons, hik, true_implies]
  exact and_left_comm

/-- A scan of increasing indices is the entries it takes, in their order (R64). -/
theorem Bank.scan_eq_takes (b : Bank) (own group : List Half) (f : Frame) {is : List (Fin 32)}
    (his : is.Pairwise (· < ·)) :
    b.scan own group f is = (is.filter (b.takes own group f is)).map (fun i => (i, b.entries[i])) := by
  induction is with
  | nil => rfl
  | cons i is ih =>
    obtain ⟨hi, his⟩ := List.pairwise_cons.mp his
    have htail : is.filter (b.takes own group f (i :: is)) =
        is.filter (fun k =>
          decide (b.entries[i].matches own group f = true → b.entries[i].continue_ = true) &&
            b.takes own group f is k) :=
      List.filter_congr fun k hk => b.takes_later own group f (hi k hk)
    rw [Bank.scan, List.filter_cons, b.takes_head own group f hi, htail, ih his]
    by_cases hm : b.entries[i].matches own group f = true
    · by_cases hc : b.entries[i].continue_ = true
      · simp only [hm, hc, if_true, imp_self, decide_true, Bool.true_and, List.map_cons]
      · simp only [hm, hc, if_true, if_false, forall_const, Bool.false_eq_true, decide_false, Bool.false_and,
          List.filter_false, List.map_cons, List.map_nil]
    · simp only [hm, Bool.false_eq_true, if_false, false_implies, decide_true, Bool.true_and]

/-! ### The verdict -/

theorem verdictOf_nil (d : DefaultVerdict) :
    verdictOf [] d = ⟨d.deliver, none, none, [], 0, d.wake, false⟩ := rfl

/-- The verdict of a scan that matched, field by field (R65). -/
theorem verdictOf_of_ne_nil {ms : List (Fin 32 × Entry)} (h : ms ≠ []) (d : DefaultVerdict) :
    verdictOf ms d =
      { deliver := ms.findSome? (fun m => m.2.deliver)
        matched := (ms.find? (fun m => m.2.deliver.isSome)).map (fun m => m.1)
        answer := ms.findSome? (fun m => m.2.answer)
        captures := (capturesOf ms).take 4
        excess := (capturesOf ms).length - 4
        wake := ms.any (fun m => m.2.wake)
        absorbed := (ms.findSome? (fun m => m.2.deliver)).isNone &&
          (ms.findSome? (fun m => m.2.answer)).isNone } :=
  if_neg h

/-- The captures are as many as the entries that name one. -/
theorem length_capturesOf (ms : List (Fin 32 × Entry)) :
    (capturesOf ms).length = (ms.filterMap (fun m => m.2.capture)).length := by
  induction ms with
  | nil => rfl
  | cons m ms ih =>
    rw [capturesOf] at ih ⊢
    cases hm : m.2.capture with
    | none => simpa [hm] using ih
    | some c => simpa [hm] using ih

/-- The first entry that delivers supplies deliver-to and is the matched entry (R65). -/
theorem verdictOf_deliver_first {ms a c : List (Fin 32 × Entry)} {m : Fin 32 × Entry} {q : Fin 4}
    (d : DefaultVerdict) (hms : ms = a ++ m :: c) (ha : ∀ x ∈ a, x.2.deliver = none)
    (hm : m.2.deliver = some q) :
    (verdictOf ms d).deliver = some q ∧ (verdictOf ms d).matched = some m.1 := by
  have hfirst : ms.find? (fun m => m.2.deliver.isSome) = some m :=
    List.find?_eq_some_iff_append.mpr
      ⟨Option.isSome_of_eq_some hm, a, c, hms, fun x hx => by simp [ha x hx]⟩
  rw [verdictOf_of_ne_nil (by simp [hms])]
  exact ⟨List.findSome?_eq_some_iff.mpr ⟨a, m, c, hms, hm, ha⟩, congrArg (Option.map Prod.fst) hfirst⟩

/-- Where no matching entry delivers, neither deliver-to nor a matched entry stands in the verdict (R65). -/
theorem verdictOf_deliver_none {ms : List (Fin 32 × Entry)} (d : DefaultVerdict) (hne : ms ≠ [])
    (h : ∀ m ∈ ms, m.2.deliver = none) :
    (verdictOf ms d).deliver = none ∧ (verdictOf ms d).matched = none := by
  have hnone : ms.find? (fun m => m.2.deliver.isSome) = none :=
    List.find?_eq_none.mpr fun x hx => by simp [h x hx]
  rw [verdictOf_of_ne_nil hne]
  exact ⟨List.findSome?_eq_none_iff.mpr h, congrArg (Option.map Prod.fst) hnone⟩

/-- The first entry that answers supplies answer-with (R65). -/
theorem verdictOf_answer_first {ms a c : List (Fin 32 × Entry)} {m : Fin 32 × Entry} {n : Fin 16}
    (d : DefaultVerdict) (hms : ms = a ++ m :: c) (ha : ∀ x ∈ a, x.2.answer = none)
    (hm : m.2.answer = some n) : (verdictOf ms d).answer = some n := by
  rw [verdictOf_of_ne_nil (by simp [hms])]
  exact List.findSome?_eq_some_iff.mpr ⟨a, m, c, hms, hm, ha⟩

end Sys2Proof.Machine

namespace Sys2Proof

open Machine

/-- Settles O49: matching test by test, the scan by induction on its indices, and the verdict of a scan that matched
field by field. -/
theorem verdictsFollowTheScan : Obligations.VerdictsFollowTheScan := by
  refine ⟨fun e own group f => e.matches_iff own group f, ?scan, verdictOf_nil, ?verdict⟩
  case scan =>
    intro b own group f
    rw [b.scan_eq_takes own group f (List.pairwise_lt_finRange 32)]
    refine congrArg (List.map _) (List.filter_congr fun i _ => ?_)
    rw [Bank.takes, decide_eq_decide]
    simp only [List.mem_finRange, true_implies]
  case verdict =>
    intro ms d hne
    refine ⟨verdictOf_deliver_none d hne, fun a m c q hms ha hm => verdictOf_deliver_first d hms ha hm, ?_,
      fun a m c n hms ha hm => verdictOf_answer_first d hms ha hm, ?_⟩
    · intro h
      rw [verdictOf_of_ne_nil hne]
      exact List.findSome?_eq_none_iff.mpr h
    · rw [verdictOf_of_ne_nil hne]
      refine ⟨rfl, congrArg (· - 4) (length_capturesOf ms), ?wake, ?absorbed⟩
      case wake => simp only [List.any_eq_true]
      case absorbed => simp only [Bool.and_eq_true, Option.isNone_iff_eq_none]

end Sys2Proof
end

section
/-! The requests of the delivery queues that report and remove (R86 to R90): QUEUE_STATUS, FRAME_PEEK, FRAME_TAKE,
FRAME_DISCARD and QUEUE_FLUSH of an accepted request, each by what its body and its queue hold. -/

namespace Sys2Proof.Machine

theorem exec_queueStatus (s : State) : exec .queueStatus s = execQueueStatus s := rfl

theorem exec_framePeek (s : State) : exec .framePeek s = execFramePeek s := rfl

theorem exec_frameTake (s : State) : exec .frameTake s = execFrameTake s := rfl

theorem exec_frameDiscard (s : State) : exec .frameDiscard s = execFrameDiscard s := rfl

theorem exec_queueFlush (s : State) : exec .queueFlush s = execQueueFlush s := rfl

/-! ### What the requests share -/

/-- A queue number at the front of a body is read as that queue. -/
theorem queue?_byteOf (q : Fin 4) (body : List Byte) : queue? (byteAt (byteOf q.val :: body) 0) = some q :=
  number?_byteOf (by omega) q

/-- Whether a message is accepted is decided by the link alone (R142). -/
theorem Accepted.of_link_eq {s t : State} {k : ReqKind} {tag : Byte} {body : List Byte}
    (h : Accepted s k tag body) (hl : t.link = s.link) : Accepted t k tag body := by
  unfold Accepted
  rw [hl]
  exact h

/-- A record without its frame takes 18 bytes (Table 11-12). -/
theorem Record.length_bytes (r : Record) (q : Fin 4) (count : Nat) (now : Word) :
    (r.bytes q count now).length = 18 := by
  simp [Record.bytes, be16, be32]

theorem QueueSettings.length_bytes (c : QueueSettings) : c.bytes.length = 8 := by
  simp [QueueSettings.bytes, be16]

theorem QueueCounters.length_bytes (c : QueueCounters) : c.bytes.length = 28 :=
  length_flatMap_be32 _

/-- The report of a queue fits a reply inline (Table 11-15). -/
theorem State.length_queueContent (s : State) (q : Fin 4) : (s.queueContent q).length = 43 := by
  simp [State.queueContent, QueueSettings.length_bytes, QueueCounters.length_bytes, be32]

/-! ### QUEUE_STATUS -/

/-- The seven counters of a queue are set to 0 where the option asks for it (R90). -/
def State.clearQueueCountersIf (s : State) (q : Fin 4) (o : Bool) : State :=
  if o then s.setQueueCounters q ⟨0, 0, 0, 0, 0, 0, 0⟩ else s

/-- QUEUE_STATUS reports the queue as it stood before the counters are cleared (R90). -/
theorem execQueueStatus_option {s : State} {tag : Byte} {q : Fin 4} {o : Bool}
    (h : Accepted s .queueStatus tag [byteOf q.val, yesNo o]) :
    execQueueStatus s = done ((s.clearQueueCountersIf q o).withReply .queueStatus tag
      (Status.done.code :: s.queueContent q) []) := by
  have hl : (s.queueContent q).length ≤ 47 := by
    rw [s.length_queueContent q]
    omega
  have ho : yesNo? (byteAt [byteOf q.val, yesNo o] 1) = some o := yesNo?_yesNo o
  unfold execQueueStatus
  rw [State.dispatch_accepted h, queue?_byteOf, ho]
  exact congrArg done (h.answerInline (s.queueContent q) (State.clearQueueCountersIf · q o)
    (fun _ => by cases o <;> rfl) (fun _ => by cases o <;> rfl) hl)

/-! ### FRAME_PEEK -/

/-- FRAME_PEEK of an empty queue is answered EMPTY with the record count 0 (R86). -/
theorem execFramePeek_nil {s : State} {tag : Byte} {q : Fin 4} (h : Accepted s .framePeek tag [byteOf q.val])
    (hr : s.queues[q].records = []) :
    execFramePeek s = done (s.withReply .framePeek tag [Status.empty.code, byteOf q.val, 0] []) := by
  unfold execFramePeek
  simp only [State.dispatch_accepted h, queue?_byteOf, State.enterTable_queues, State.emptyBuffer_queues, hr]
  rw [h.complete]

/-- FRAME_PEEK reports the head record with the record count (R86). -/
theorem execFramePeek_cons {s : State} {tag : Byte} {q : Fin 4} {r : Record} {rest : List Record}
    (h : Accepted s .framePeek tag [byteOf q.val]) (hr : s.queues[q].records = r :: rest) :
    execFramePeek s = done (s.withReply .framePeek tag
      (Status.done.code :: r.bytes q (rest.length + 1) s.line.timebase) []) := by
  have hl : (r.bytes q (rest.length + 1) s.line.timebase).length ≤ 47 := by
    rw [r.length_bytes]
    omega
  unfold execFramePeek
  simp only [State.dispatch_accepted h, queue?_byteOf, State.enterTable_queues, State.emptyBuffer_queues, hr]
  exact congrArg done (h.answerInline _ id (fun _ => rfl) (fun _ => rfl) hl)

/-! ### FRAME_TAKE -/

/-- The head record `r` leaves queue `q` counted in TAKEN, the records `rest` stay, and the chain of `r` moves to
OUTBOX (R87). -/
def State.takeHead (s : State) (q : Fin 4) (r : Record) (rest : List Record) : State :=
  (s.setQueue q { s.queues[q] with
      records := rest
      counters := { s.queues[q].counters with taken := bump s.queues[q].counters.taken } }).moveCells
    (.queue q) .outbox r.frame.cells

/-- FRAME_TAKE of an empty queue is answered EMPTY with the record count 0 (R87). -/
theorem execFrameTake_nil {s : State} {tag : Byte} {q : Fin 4} (h : Accepted s .frameTake tag [byteOf q.val])
    (hr : s.queues[q].records = []) :
    execFrameTake s = done (s.withReply .frameTake tag [Status.empty.code, byteOf q.val, 0] []) := by
  unfold execFrameTake
  simp only [State.dispatch_accepted h, queue?_byteOf, State.enterTable_queues, State.emptyBuffer_queues, hr]
  rw [h.complete]

/-- FRAME_TAKE hands over the head record, and its reply carries the record inline and the frame in the chain
(R87). -/
theorem execFrameTake_cons {s : State} {tag : Byte} {q : Fin 4} {r : Record} {rest : List Record}
    (h : Accepted s .frameTake tag [byteOf q.val]) (hr : s.queues[q].records = r :: rest) :
    execFrameTake s = done ((s.takeHead q r rest).withReply .frameTake tag
      (Status.done.code :: r.bytes q rest.length s.line.timebase) r.frame.bytes) := by
  have htaken : Accepted (s.takeHead q r rest) .frameTake tag [byteOf q.val] := h.of_link_eq rfl
  unfold execFrameTake
  simp only [State.dispatch_accepted h, queue?_byteOf, State.enterTable_queues, State.emptyBuffer_queues, hr]
  exact congrArg done (htaken.complete _ _)

/-! ### FRAME_DISCARD and QUEUE_FLUSH -/

/-- What a discard of `n` records leaves: the queue without them, counted in REMOVED, and the pool with their
cells released (R85, R88). -/
theorem State.discard_eq (s : State) (q : Fin 4) (n : Nat) :
    s.discard q n = { s with
      queues := s.queues.set q { s.queues[q] with
        records := s.queues[q].records.drop n
        counters := { s.queues[q].counters with
          removed := bumpBy s.queues[q].counters.removed (s.queues[q].records.take n).length } }
      pool := s.pool.release (.queue q) (cellsOf (s.queues[q].records.take n)) } := by
  simp [State.discard, State.removeRecords, State.setQueueCounters, State.setQueue, State.release]

/-- A discard of as many records as a queue holds empties it (R89). -/
theorem State.discard_all (s : State) (q : Fin 4) :
    s.discard q s.queues[q].records.length = { s with
      queues := s.queues.set q { s.queues[q] with
        records := []
        counters := { s.queues[q].counters with
          removed := bumpBy s.queues[q].counters.removed s.queues[q].records.length } }
      pool := s.pool.release (.queue q) (cellsOf s.queues[q].records) } := by
  rw [State.discard_eq, List.drop_length, List.take_length]

/-- A discard for an accepted request is answered inline after it, with a content of at most 47 bytes. -/
theorem Accepted.answerDiscard {s : State} {k : ReqKind} {tag : Byte} {body : List Byte}
    (h : Accepted s k tag body) (q : Fin 4) (n : Nat) (content : List Byte) (hc : content.length ≤ 47) :
    ((s.emptyBuffer.enterTable k tag).discard q n).answer k tag content id =
      (s.discard q n).withReply k tag (Status.done.code :: content) [] :=
  (h.of_link_eq (t := s.discard q n) rfl).answerInline content id (fun _ => rfl) (fun _ => rfl) hc

/-- FRAME_DISCARD of 1 to 64 records discards them and reports how many left and how many stay (R88). -/
theorem execFrameDiscard_inRange {s : State} {tag n : Byte} {q : Fin 4}
    (h : Accepted s .frameDiscard tag [byteOf q.val, n]) (hlow : 1 ≤ n.toNat) (hhigh : n.toNat ≤ 64) :
    execFrameDiscard s = done ((s.discard q n.toNat).withReply .frameDiscard tag
      [Status.done.code, byteOf (min n.toNat s.queues[q].records.length),
        byteOf (s.queues[q].records.length - n.toNat)] []) := by
  have hn : 1 ≤ natAt [byteOf q.val, n] 1 ∧ natAt [byteOf q.val, n] 1 ≤ 64 := ⟨hlow, hhigh⟩
  unfold execFrameDiscard
  simp only [State.dispatch_accepted h, queue?_byteOf, if_pos hn]
  exact congrArg done (h.answerDiscard q n.toNat [_, _] (show 2 ≤ 47 by omega))

/-- FRAME_DISCARD of no record or of more than 64 is refused BAD_FIELD (R88). -/
theorem execFrameDiscard_badField {s : State} {tag n : Byte} {q : Fin 4}
    (h : Accepted s .frameDiscard tag [byteOf q.val, n]) (hn : n.toNat = 0 ∨ 64 < n.toNat) :
    execFrameDiscard s = done (s.withReply .frameDiscard tag [Status.badField.code] []) := by
  have hbad : ¬ (1 ≤ natAt [byteOf q.val, n] 1 ∧ natAt [byteOf q.val, n] 1 ≤ 64) := by
    change ¬ (1 ≤ n.toNat ∧ n.toNat ≤ 64)
    omega
  unfold execFrameDiscard
  simp only [State.dispatch_accepted h, queue?_byteOf, if_neg hbad]
  rw [h.refuse]

/-- QUEUE_FLUSH discards every record and reports how many left (R89). -/
theorem execQueueFlush_all {s : State} {tag : Byte} {q : Fin 4}
    (h : Accepted s .queueFlush tag [byteOf q.val]) :
    execQueueFlush s = done ((s.discard q s.queues[q].records.length).withReply .queueFlush tag
      [Status.done.code, byteOf s.queues[q].records.length] []) := by
  unfold execQueueFlush
  rw [State.dispatch_accepted h, queue?_byteOf]
  exact congrArg done (h.answerDiscard q s.queues[q].records.length [_] (show 1 ≤ 47 by omega))

end Sys2Proof.Machine

namespace Sys2Proof

open Machine

/-- Settles O29: QUEUE_STATUS by its option, FRAME_PEEK by whether the queue holds a record. -/
theorem queueReportsReply : Obligations.QueueReportsReply := by
  intro s tag q
  refine ⟨?status, ?peekEmpty, ?peekHead⟩
  case status =>
    intro o h
    rw [exec_queueStatus, execQueueStatus_option h]
    rfl
  case peekEmpty =>
    intro h hr
    rw [exec_framePeek, execFramePeek_nil h hr]
    rfl
  case peekHead =>
    intro r rest h hr
    rw [exec_framePeek, execFramePeek_cons h hr]
    rfl

/-- Settles O30, by whether the queue holds a record. -/
theorem frameTakeHandsOverTheHead : Obligations.FrameTakeHandsOverTheHead := by
  intro s tag q h
  refine ⟨?empty, ?head⟩
  case empty =>
    intro hr
    rw [exec_frameTake, execFrameTake_nil h hr]
    rfl
  case head =>
    intro r rest hr
    rw [exec_frameTake, execFrameTake_cons h hr]
    rfl

/-- Settles O31: what a discard leaves is stated once, and a flush is the discard of every record. -/
theorem discardAndFlushRemove : Obligations.DiscardAndFlushRemove := by
  intro s tag q
  refine ⟨fun n h => ⟨?outOfRange, ?inRange⟩, ?flush⟩
  case outOfRange =>
    intro hn
    rw [exec_frameDiscard, execFrameDiscard_badField h hn]
    rfl
  case inRange =>
    intro hlow hhigh
    rw [exec_frameDiscard, execFrameDiscard_inRange h hlow hhigh, State.discard_eq]
    rfl
  case flush =>
    intro h
    rw [exec_queueFlush, execQueueFlush_all h, State.discard_all]
    rfl

end Sys2Proof
end

section
/-! The requests of the capture slots (R101 to R104): SLOT_READ, SLOT_WRITE, SLOT_CLEAR and SLOT_SETUP of an accepted
request, each by what its body holds. -/

namespace Sys2Proof.Machine

theorem exec_slotRead (s : State) : exec .slotRead s = execSlotRead s := rfl

theorem exec_slotWrite (s : State) : exec .slotWrite s = execSlotWrite s := rfl

theorem exec_slotClear (s : State) : exec .slotClear s = execSlotClear s := rfl

theorem exec_slotSetup (s : State) : exec .slotSetup s = execSlotSetup s := rfl

/-! ### What the requests share -/

/-- A slot number at the front of a body is read as that slot. -/
theorem sixteen?_byteOf (n : Fin 16) (body : List Byte) :
    sixteen? (byteAt (byteOf n.val :: body) 0) = some n :=
  number?_byteOf (by omega) n

/-- A number above 1 is no yes/no code (R173). -/
theorem yesNo?_eq_none {b : Byte} (h : 1 < b.toNat) : yesNo? b = none := by
  obtain hb | ⟨v, rfl⟩ := yesNo?_eq_none_or b
  · exact hb
  · have hv : v.toNat ≤ 1 := Bool.toNat_le v
    rw [toNat_yesNo] at h
    omega

/-- Two bytes, high byte first, join to the half they were cut from. -/
theorem halfAt_be16 (v : Half) : halfAt (be16 v) 0 = v :=
  (BitVec.extractLsb'_append_extractLsb'_eq_extractLsb' rfl).trans BitVec.extractLsb'_eq_self

/-! ### SLOT_READ -/

/-- SLOT_READ reports the slot as it stood before its unread flag is cleared (R101). -/
theorem execSlotRead_slot {s : State} {tag : Byte} {n : Fin 16} (h : Accepted s .slotRead tag [byteOf n.val]) :
    execSlotRead s = done (s.answered .slotRead tag (s.slots[n].bytes n s.line.timebase)
      (fun t => t.setSlot n { t.slots[n] with unread := false })) := by
  unfold execSlotRead
  rw [State.dispatch_accepted h, sixteen?_byteOf]
  exact congrArg done (h.answer _ (fun t => t.setSlot n { t.slots[n] with unread := false })
    (fun _ => rfl) (fun _ => rfl))

/-! ### SLOT_WRITE -/

/-- SLOT_WRITE of 1 to 16 bytes, as many as it says, writes them LOCAL and reports the update count (R102). -/
theorem execSlotWrite_data {s : State} {tag : Byte} {n : Fin 16} {data : List Byte} (hlow : 1 ≤ data.length)
    (hhigh : data.length ≤ 16) (h : Accepted s .slotWrite tag (byteOf n.val :: byteOf data.length :: data)) :
    execSlotWrite s = done ((s.setSlot n (s.slots[n].write data .loc s.line.timebase)).withReply .slotWrite tag
      (Status.done.code :: byteOf n.val :: be16 (s.slots[n].updates + 1)) []) := by
  have hlen : natAt (byteOf n.val :: byteOf data.length :: data) 1 = data.length := toNat_byteOf (by omega)
  have hbody : (byteOf n.val :: byteOf data.length :: data).length = 2 + data.length :=
    Nat.add_comm data.length 2
  unfold execSlotWrite
  rw [State.dispatch_accepted h, sixteen?_byteOf]
  simp only [hlen]
  rw [if_neg (by omega), if_neg (not_not_intro hbody)]
  exact congrArg done (h.answerInline _ (fun t => t.setSlot n (t.slots[n].write data .loc t.line.timebase))
    (fun _ => rfl) (fun _ => rfl) (show 3 ≤ 47 by omega))

/-- SLOT_WRITE of a slot above 15, or of a length that is not 1 to 16, is refused BAD_FIELD (R102). -/
theorem execSlotWrite_badField {s : State} {tag m len : Byte} {data : List Byte}
    (h : Accepted s .slotWrite tag (m :: len :: data))
    (hbad : 15 < m.toNat ∨ len.toNat < 1 ∨ 16 < len.toNat) :
    execSlotWrite s = done (s.withReply .slotWrite tag [Status.badField.code] []) := by
  unfold execSlotWrite
  rw [State.dispatch_accepted h]
  split
  · rw [h.refuse]
  · rename_i n hn
    have hm : m = byteOf n.val := eq_byteOf_of_number? hn
    have hrange : natAt (m :: len :: data) 1 < 1 ∨ 16 < natAt (m :: len :: data) 1 :=
      hbad.resolve_left (by rw [hm, toNat_byteOf (by omega)]; omega)
    rw [if_pos hrange, h.refuse]

/-- SLOT_WRITE in range with another number of bytes than it says is refused BAD_LENGTH (R102). -/
theorem execSlotWrite_badLength {s : State} {tag m len : Byte} {data : List Byte}
    (h : Accepted s .slotWrite tag (m :: len :: data)) (hm : m.toNat ≤ 15) (hlow : 1 ≤ len.toNat)
    (hhigh : len.toNat ≤ 16) (hl : data.length ≠ len.toNat) :
    execSlotWrite s = done (s.withReply .slotWrite tag [Status.badLength.code] []) := by
  have hn : sixteen? (byteAt (m :: len :: data) 0) = some ⟨m.toNat, by omega⟩ := dif_pos (Nat.lt_succ_of_le hm)
  have hlen : natAt (m :: len :: data) 1 = len.toNat := rfl
  have hbody : (m :: len :: data).length ≠ 2 + len.toNat := by
    rw [List.length_cons, List.length_cons]
    omega
  unfold execSlotWrite
  rw [State.dispatch_accepted h, hn]
  simp only [hlen]
  rw [if_neg (by omega), if_pos hbody, h.refuse]

/-! ### SLOT_CLEAR -/

/-- SLOT_CLEAR of a slot makes that slot EMPTY (R103). -/
theorem execSlotClear_slot {s : State} {tag : Byte} {n : Fin 16} (h : Accepted s .slotClear tag [byteOf n.val]) :
    execSlotClear s =
      done ((s.setSlot n s.slots[n].clear).withReply .slotClear tag [Status.done.code] []) := by
  have hn : orNone? sixteen? (byteAt [byteOf n.val] 0) = some (some n) := orNone?_orNoneByte (by omega) (some n)
  unfold execSlotClear
  rw [State.dispatch_accepted h, hn]
  exact congrArg done (h.answerInline [] (fun t => t.setSlot n t.slots[n].clear) (fun _ => rfl) (fun _ => rfl)
    (Nat.zero_le 47))

/-- SLOT_CLEAR of 0xFF makes every slot EMPTY (R103). -/
theorem execSlotClear_all {s : State} {tag : Byte} (h : Accepted s .slotClear tag [0xFF]) :
    execSlotClear s = done (State.withReply { s with slots := s.slots.map Slot.clear } .slotClear tag
      [Status.done.code] []) := by
  unfold execSlotClear
  rw [State.dispatch_accepted h]
  exact congrArg done (h.answerInline [] (fun t => { t with slots := t.slots.map Slot.clear }) (fun _ => rfl)
    (fun _ => rfl) (Nat.zero_le 47))

/-! ### SLOT_SETUP -/

/-- A HELD slot whose age passes its limit becomes STALE (R99). -/
theorem Slot.judgeAge_passed {v : Slot} {now : Word} {c : SlotContent} (hc : v.state = .held c) (hl : v.limit ≠ 0)
    (ha : v.limit < ageMs now c.stamp) : v.judgeAge now = { v with state := .stale c } := by
  rw [Slot.judgeAge, hc]
  exact if_pos ⟨hl, ha⟩

/-- A slot stands as it is while no HELD value of it is older than a limit that is not 0 (R99). -/
theorem Slot.judgeAge_fresh {v : Slot} {now : Word}
    (h : ∀ c, v.state = .held c → v.limit = 0 ∨ ageMs now c.stamp ≤ v.limit) : v.judgeAge now = v := by
  rw [Slot.judgeAge]
  split
  · rename_i c hc
    refine if_neg fun ⟨hl, ha⟩ => ?_
    exact (h c hc).elim hl (Nat.not_le.mpr ha)
  · rfl

/-- A slot with its three settings replaced (R104). -/
def Slot.withSettings (v : Slot) (watch wake : Bool) (limit : Nat) : Slot :=
  { v with watch := watch, wakeOnUpdate := wake, limit := limit }

/-- SLOT_SETUP replaces the three settings and judges the slot's age against the new limit (R104). -/
theorem execSlotSetup_settings {s : State} {tag : Byte} {n : Fin 16} {watch wake : Bool} {limit : Half}
    (h : Accepted s .slotSetup tag ([byteOf n.val, yesNo watch, yesNo wake] ++ be16 limit)) :
    execSlotSetup s = done ((s.setSlot n
      ((s.slots[n].withSettings watch wake limit.toNat).judgeAge s.line.timebase)).withReply .slotSetup tag
        [Status.done.code] []) := by
  have hn : sixteen? (byteAt ([byteOf n.val, yesNo watch, yesNo wake] ++ be16 limit) 0) = some n :=
    sixteen?_byteOf n _
  have hwatch : yesNo? (byteAt ([byteOf n.val, yesNo watch, yesNo wake] ++ be16 limit) 1) = some watch :=
    yesNo?_yesNo watch
  have hwake : yesNo? (byteAt ([byteOf n.val, yesNo watch, yesNo wake] ++ be16 limit) 2) = some wake :=
    yesNo?_yesNo wake
  have hlimit : halfAt ([byteOf n.val, yesNo watch, yesNo wake] ++ be16 limit) 3 = limit := halfAt_be16 limit
  unfold execSlotSetup
  rw [State.dispatch_accepted h, hn, hwatch, hwake, hlimit]
  exact congrArg done (h.answerInline [] (fun t => t.setSlot n
      ((t.slots[n].withSettings watch wake limit.toNat).judgeAge t.line.timebase))
    (fun _ => rfl) (fun _ => rfl) (Nat.zero_le 47))

/-- SLOT_SETUP with a setting code that is neither 0 nor 1 is refused BAD_FIELD, whatever slot it names (R104). -/
theorem execSlotSetup_badField {s : State} {tag m watch wake : Byte} {limit : Half}
    (hbad : 1 < watch.toNat ∨ 1 < wake.toNat)
    (h : Accepted s .slotSetup tag ([m, watch, wake] ++ be16 limit)) :
    execSlotSetup s = done (s.withReply .slotSetup tag [Status.badField.code] []) := by
  unfold execSlotSetup
  rw [State.dispatch_accepted h]
  split
  · rename_i n a b hn ha hb
    obtain hw | hw := hbad
    · exact absurd (ha.symm.trans (yesNo?_eq_none hw)) (Option.some_ne_none a)
    · exact absurd (hb.symm.trans (yesNo?_eq_none hw)) (Option.some_ne_none b)
  · rw [h.refuse]

end Sys2Proof.Machine

namespace Sys2Proof

open Machine

/-- Settles O33: each request by what its body holds.  The reading of SLOT_READ's record goes by the slot's state,
and SLOT_SETUP by whether the age of a HELD slot passes the new limit. -/
theorem slotRequestsReply : Obligations.SlotRequestsReply := by
  intro s tag n
  refine ⟨?read, ?write, ?clear, ?clearAll, ?setup, ?writeRefused, ?setupRefused⟩
  case read =>
    intro h
    rw [exec_slotRead, execSlotRead_slot h, Slot.bytes]
    cases s.slots[n].state with
    | empty => rfl
    | held c => rfl
    | stale c => rfl
  case write =>
    intro data hlow hhigh h
    rw [exec_slotWrite, execSlotWrite_data hlow hhigh h]
    rfl
  case clear =>
    intro h
    rw [exec_slotClear, execSlotClear_slot h]
    rfl
  case clearAll =>
    intro h
    rw [exec_slotClear, execSlotClear_all h]
    rfl
  case setup =>
    intro watch wake limit h
    rw [exec_slotSetup, execSlotSetup_settings h]
    constructor
    · intro hfresh
      have hlimit : ∀ c, s.slots[n].state = .held c →
          limit.toNat = 0 ∨ ageMs s.line.timebase c.stamp ≤ limit.toNat :=
        fun c hc => (hfresh c hc).imp_left (congrArg BitVec.toNat)
      rw [Slot.judgeAge_fresh hlimit]
      rfl
    · intro c hc hl ha
      have hlimit : limit.toNat ≠ 0 := fun hz => hl (BitVec.eq_of_toNat_eq hz)
      rw [Slot.judgeAge_passed (v := s.slots[n].withSettings watch wake limit.toNat) hc hlimit ha]
      rfl
  case writeRefused =>
    intro m len data h
    have hzero : len = 0 ↔ len.toNat < 1 := by bv_omega
    constructor
    · intro hbad
      rw [hzero] at hbad
      rw [exec_slotWrite, execSlotWrite_badField h hbad]
      rfl
    · intro hm hlow hhigh hl
      rw [Ne, hzero, Nat.not_lt] at hlow
      rw [exec_slotWrite, execSlotWrite_badLength h hm hlow hhigh hl]
      rfl
  case setupRefused =>
    intro m watch wake limit hbad h
    rw [exec_slotSetup, execSlotSetup_badField hbad h]
    rfl

end Sys2Proof
end

section
/-! The reading of a template, both ways (R107, R172, Tables 7-2 and 11-11): the bytes behind the body are cut into
items exactly where items of the kinds' lengths fill them, a template in range is read back from the bytes that carry
it, and a template that is read is in range and carried by the bytes it was read from. -/

namespace Sys2Proof.Machine

/-! ### Codes -/

theorem SeqRule.ofByte?_eq_some_iff {b : Byte} {r : SeqRule} : SeqRule.ofByte? b = some r ↔ b = r.code := by
  constructor
  · intro h
    unfold SeqRule.ofByte? at h
    split_ifs at h <;> cases h <;> assumption
  · rintro rfl
    cases r <;> rfl

theorem LatePolicy.ofByte?_eq_some_iff {b : Byte} {p : LatePolicy} :
    LatePolicy.ofByte? b = some p ↔ b = p.code := by
  constructor
  · intro h
    unfold LatePolicy.ofByte? at h
    split_ifs at h <;> cases h <;> assumption
  · rintro rfl
    cases p <;> rfl

theorem StalePolicy.ofByte?_eq_some_iff {b : Byte} {p : StalePolicy} :
    StalePolicy.ofByte? b = some p ↔ b = p.code := by
  constructor
  · intro h
    unfold StalePolicy.ofByte? at h
    split_ifs at h <;> cases h <;> assumption
  · rintro rfl
    cases p <;> rfl

/-- A rule byte and an address carry a destination rule; the address of TO_SENDER is not looked at (R173). -/
def DestRule.CarriedBy (d : DestRule) (rule : Byte) (addr : Half) : Prop :=
  rule = 0 ∧ d = .toSender ∨ rule = 1 ∧ addr ≠ 0 ∧ d = .fixed addr

theorem destRule?_eq_some_iff {rule : Byte} {addr : Half} {d : DestRule} :
    destRule? rule addr = some d ↔ d.CarriedBy rule addr := by
  constructor
  · intro h
    unfold destRule? at h
    split_ifs at h with h0 h1 ha <;> cases h
    · exact .inl ⟨h0, rfl⟩
    · exact .inr ⟨h1, ha, rfl⟩
  · rintro (⟨rfl, rfl⟩ | ⟨rfl, ha, rfl⟩)
    · rfl
    · exact if_neg ha

/-! ### Cutting the items apart -/

/-- Every item has the length of its kind (R172). -/
def ItemLengths (raw : List (List Byte)) : Prop := ∀ i ∈ raw, i.length = itemBytes (byteAt i 0)

theorem itemBytes_pos (kind : Byte) : 0 < itemBytes kind := by
  unfold itemBytes
  split_ifs <;> omega

/-- The first byte of an item is its kind, whatever stands behind it. -/
theorem byteAt_append_zero {i : List Byte} (h : 0 < i.length) (bs : List Byte) :
    byteAt (i ++ bs) 0 = byteAt i 0 :=
  List.getD_append i bs 0 0 h

/-- Bytes that do not end are cut behind the length that their first byte gives. -/
theorem splitItems_append {n : Nat} {i bs : List Byte} (hi : i.length = itemBytes (byteAt i 0)) :
    splitItems (n + 1) (i ++ bs) = (splitItems n bs).map (i :: ·) := by
  have hpos : 0 < i.length := hi ▸ itemBytes_pos _
  have hne : i ++ bs ≠ [] := List.append_ne_nil_of_left_ne_nil (List.ne_nil_of_length_pos hpos) bs
  have hle : ¬ (i ++ bs).length < i.length := by simp
  rw [splitItems, if_neg hne, byteAt_append_zero hpos, ← hi, if_neg hle, List.drop_left, List.take_left]

/-- `n` items are cut from the bytes exactly when they have their kinds' lengths and fill the bytes (R172). -/
theorem splitItems_eq_some_iff {n : Nat} {bs : List Byte} {raw : List (List Byte)} :
    splitItems n bs = some raw ↔ raw.length = n ∧ bs = raw.flatten ∧ ItemLengths raw := by
  constructor
  · intro h
    induction n generalizing bs raw with
    | zero =>
      unfold splitItems at h
      split at h <;> cases h
      exact ⟨rfl, ‹_›, by simp [ItemLengths]⟩
    | succ n ih =>
      unfold splitItems at h
      split_ifs at h with hnil hshort
      obtain ⟨rest, hrest, rfl⟩ := Option.map_eq_some_iff.mp h
      obtain ⟨hlen, hbs, hall⟩ := ih hrest
      have htake : (bs.take (itemBytes (byteAt bs 0))).length = itemBytes (byteAt bs 0) :=
        List.length_take_of_le (Nat.le_of_not_lt hshort)
      have hpos : 0 < (bs.take (itemBytes (byteAt bs 0))).length := by
        rw [htake]
        exact itemBytes_pos _
      have hcut : bs = bs.take (itemBytes (byteAt bs 0)) ++ rest.flatten := by
        rw [← hbs, List.take_append_drop]
      have hkind : byteAt bs 0 = byteAt (bs.take (itemBytes (byteAt bs 0))) 0 := by
        conv_lhs => rw [hcut]
        exact byteAt_append_zero hpos _
      exact ⟨by simp [hlen], hcut, List.forall_mem_cons.mpr ⟨htake.trans (congrArg itemBytes hkind), hall⟩⟩
  · rintro ⟨rfl, rfl, hall⟩
    induction raw with
    | nil => rfl
    | cons i rest ih =>
      obtain ⟨hi, hrest⟩ := List.forall_mem_cons.mp hall
      rw [List.length_cons, List.flatten_cons, splitItems_append hi, ih hrest]
      rfl

/-! ### Items -/

theorem Item.itemLengths_bytes (items : List Item) : ItemLengths (items.map Item.bytes) := by
  intro bs hbs
  obtain ⟨i, -, rfl⟩ := List.mem_map.mp hbs
  cases i <;> rfl

/-- An item in range is read back from its bytes. -/
theorem item?_bytes {n : Nat} (hn : n ≤ 248) {i : Item} (h : i.InRange n) : item? n i.bytes = some i := by
  cases i with
  | copy target source len =>
    simp only [Item.InRange] at h
    have ht : natAt (Item.copy target source len).bytes 1 = target := toNat_byteOf (by omega)
    have hs : natAt (Item.copy target source len).bytes 2 = source := toNat_byteOf (by omega)
    have hl : natAt (Item.copy target source len).bytes 3 = len := toNat_byteOf (by omega)
    unfold item?
    rw [ht, hs, hl]
    exact if_pos h
  | slot target m =>
    simp only [Item.InRange] at h
    have ht : natAt (Item.slot target m).bytes 1 = target := toNat_byteOf (by omega)
    have hm : sixteen? (byteAt (Item.slot target m).bytes 2) = some m := number?_byteOf (by omega) m
    unfold item?
    rw [ht, hm]
    exact if_pos h
  | stamp target =>
    simp only [Item.InRange] at h
    have ht : natAt (Item.stamp target).bytes 1 = target := toNat_byteOf (by omega)
    unfold item?
    rw [ht]
    exact if_pos h
  | uses target =>
    simp only [Item.InRange] at h
    have ht : natAt (Item.uses target).bytes 1 = target := toNat_byteOf (by omega)
    unfold item?
    rw [ht]
    exact if_pos h

/-- An item that is read from bytes of its kind's length is in range, and the bytes are its own. -/
theorem item?_eq_some {n : Nat} {bs : List Byte} {i : Item} (h : item? n bs = some i)
    (hl : bs.length = itemBytes (byteAt bs 0)) : i.InRange n ∧ bs = i.bytes := by
  have hb : bs = (List.range (itemBytes (byteAt bs 0))).map (byteAt bs) := by
    simpa [← hl] using eq_map_byteAt_append_drop (le_refl bs.length)
  by_cases h0 : byteAt bs 0 = 0
  · simp only [item?, if_pos h0] at h
    split_ifs at h with hr
    cases h
    refine ⟨hr, ?_⟩
    simpa [itemBytes, Item.bytes, List.range_succ, natAt, byteOf_toNat, h0] using hb
  by_cases h1 : byteAt bs 0 = 1
  · simp only [item?, if_neg h0, if_pos h1] at h
    cases hm : sixteen? (byteAt bs 2) with
    | none => simp [hm] at h
    | some m =>
      simp only [hm] at h
      split_ifs at h with hr
      cases h
      refine ⟨hr, ?_⟩
      simpa [itemBytes, Item.bytes, List.range_succ, natAt, byteOf_toNat, h1, eq_byteOf_of_number? hm] using hb
  simp only [item?, if_neg h0, if_neg h1] at h
  split_ifs at h with h2 hr h3 hr
  · cases h
    refine ⟨hr, ?_⟩
    simpa [itemBytes, Item.bytes, List.range_succ, natAt, byteOf_toNat, h2] using hb
  · cases h
    refine ⟨hr, ?_⟩
    simpa [itemBytes, Item.bytes, List.range_succ, natAt, byteOf_toNat, h3] using hb

theorem items?_map_bytes {n : Nat} (hn : n ≤ 248) {items : List Item} (h : ∀ i ∈ items, i.InRange n) :
    items? n (items.map Item.bytes) = some items := by
  induction items with
  | nil => rfl
  | cons i rest ih =>
    obtain ⟨hi, hrest⟩ := List.forall_mem_cons.mp h
    rw [List.map_cons, items?, item?_bytes hn hi, ih hrest]
    rfl

theorem items?_eq_some {n : Nat} {raw : List (List Byte)} {items : List Item} (h : items? n raw = some items)
    (hl : ItemLengths raw) : (∀ i ∈ items, i.InRange n) ∧ raw = items.map Item.bytes := by
  induction raw generalizing items with
  | nil =>
    cases h
    simp
  | cons bs raw ih =>
    obtain ⟨hbs, hraw⟩ := List.forall_mem_cons.mp hl
    simp only [items?, Option.bind_eq_bind, Option.bind_eq_some_iff] at h
    obtain ⟨i, hi, rest, hrest, h⟩ := h
    cases h
    obtain ⟨hr, rfl⟩ := item?_eq_some hi hbs
    obtain ⟨hrs, rfl⟩ := ih hrest hraw
    exact ⟨List.forall_mem_cons.mpr ⟨hr, hrs⟩, rfl⟩

/-! ### The template -/

/-- A rule byte, an address and a KIND byte carry the template, and the rest of its content is in range (R107,
R108). -/
structure Template.CarriedBy (t : Template) (rule : Byte) (addr : Half) (kind : Byte) : Prop where
  kind_eq : t.kind = kind ||| 0x80
  dest : t.dest.CarriedBy rule addr
  body_length : t.body.length ≤ 248
  items_length : t.items.length ≤ 6
  items : ∀ i ∈ t.items, i.InRange t.body.length

/-- The nine bytes in front of a template's body (Table 11-11). -/
def Template.header (t : Template) (rule : Byte) (addr : Half) (kind : Byte) : List Byte :=
  rule :: (be16 addr ++ [kind, t.seqRule.code, t.late.code, t.stale.code, byteOf t.body.length,
    byteOf t.items.length])

/-- A template as TEMPLATE_PUT may carry it, with a rule byte, an address and a KIND byte of its own
(Table 11-11). -/
def Template.carried (t : Template) (rule : Byte) (addr : Half) (kind : Byte) : List Byte :=
  t.header rule addr kind ++ (t.body ++ t.items.flatMap Item.bytes)

/-- The template as TEMPLATE_PUT stores it: DEFINED, with the use count 0 (R108). -/
def Template.stored (t : Template) : Template := { t with defined := true, uses := 0 }

/-- The items of a template are cut apart exactly when the bytes behind the body hold as many as the count says,
each of its kind's length, and no byte more (R172). -/
theorem templateItems_eq_some_iff {bs : List Byte} {raw : List (List Byte)} :
    templateItems bs = some raw ↔ 9 + natAt bs 7 ≤ bs.length ∧ raw.length = natAt bs 8 ∧
      bs.drop (9 + natAt bs 7) = raw.flatten ∧ ItemLengths raw := by
  unfold templateItems
  split_ifs with hshort
  · simp [hshort]
  · rw [splitItems_eq_some_iff, and_iff_right (Nat.le_of_not_lt hshort)]

section
variable {t : Template} {rule : Byte} {addr : Half} {kind : Byte}

theorem Template.CarriedBy.natAt_bodyLength (h : t.CarriedBy rule addr kind) :
    natAt (t.carried rule addr kind) 7 = t.body.length :=
  toNat_byteOf (Nat.lt_of_le_of_lt h.body_length (by omega))

theorem Template.CarriedBy.natAt_itemCount (h : t.CarriedBy rule addr kind) :
    natAt (t.carried rule addr kind) 8 = t.items.length :=
  toNat_byteOf (Nat.lt_of_le_of_lt h.items_length (by omega))

theorem Template.drop_carried (n : Nat) :
    (t.carried rule addr kind).drop (9 + n) = (t.body ++ t.items.flatMap Item.bytes).drop n := by
  rw [← List.drop_drop]
  rfl

/-- The items of a template in range are cut apart as its own. -/
theorem Template.CarriedBy.templateItems_eq (h : t.CarriedBy rule addr kind) :
    templateItems (t.carried rule addr kind) = some (t.items.map Item.bytes) := by
  rw [templateItems_eq_some_iff, h.natAt_bodyLength, h.natAt_itemCount, drop_carried, List.drop_left]
  refine ⟨?_, List.length_map .., List.flatMap_def .., Item.itemLengths_bytes _⟩
  simp [carried, header, be16]
  omega

/-- A template in range is read back from the bytes that carry it, DEFINED and with the use count 0 (R108). -/
theorem Template.CarriedBy.template?_eq (h : t.CarriedBy rule addr kind) :
    template? (t.carried rule addr kind) (t.items.map Item.bytes) = some t.stored := by
  have hdest : destRule? (byteAt (t.carried rule addr kind) 0) (halfAt (t.carried rule addr kind) 1) =
      some t.dest := by
    have haddr : halfAt (t.carried rule addr kind) 1 = addr := halfAt_be16 addr
    rw [haddr]
    exact destRule?_eq_some_iff.mpr h.dest
  have hseq : SeqRule.ofByte? (byteAt (t.carried rule addr kind) 4) = some t.seqRule :=
    SeqRule.ofByte?_eq_some_iff.mpr rfl
  have hlate : LatePolicy.ofByte? (byteAt (t.carried rule addr kind) 5) = some t.late :=
    LatePolicy.ofByte?_eq_some_iff.mpr rfl
  have hstale : StalePolicy.ofByte? (byteAt (t.carried rule addr kind) 6) = some t.stale :=
    StalePolicy.ofByte?_eq_some_iff.mpr rfl
  have hkind : byteAt (t.carried rule addr kind) 3 ||| 0x80 = t.kind := h.kind_eq.symm
  have hbody : ((t.carried rule addr kind).drop 9).take t.body.length = t.body := List.take_left
  simp only [template?, hdest, hseq, hlate, hstale, h.natAt_bodyLength, h.natAt_itemCount, hkind, hbody,
    items?_map_bytes h.body_length h.items, Option.bind_eq_bind, Option.bind_some, h.body_length, h.items_length,
    and_self, if_true]
  rfl

end

/-- A template that is read is in range, and the bytes it was read from carry it: the reading loses nothing but
the reply flag of KIND and the address of TO_SENDER (R107, R108, R173). -/
theorem template?_eq_some {bs : List Byte} {raw : List (List Byte)} {t : Template}
    (h : template? bs raw = some t) (hraw : templateItems bs = some raw) :
    t.CarriedBy (byteAt bs 0) (halfAt bs 1) (byteAt bs 3) ∧
      bs = t.carried (byteAt bs 0) (halfAt bs 1) (byteAt bs 3) := by
  obtain ⟨hlong, hcount, hdrop, hcut⟩ := templateItems_eq_some_iff.mp hraw
  simp only [template?, Option.bind_eq_bind, Option.bind_eq_some_iff] at h
  obtain ⟨dest, hdest, seqRule, hseq, late, hlate, stale, hstale, h⟩ := h
  split at h
  case isFalse => cases h
  case isTrue hr =>
    obtain ⟨hbody, hitems⟩ := hr
    simp only [Option.bind_eq_some_iff] at h
    obtain ⟨items, his, h⟩ := h
    cases h
    obtain ⟨hranges, rfl⟩ := items?_eq_some his hcut
    have hlen : ((bs.drop 9).take (natAt bs 7)).length = natAt bs 7 := by
      rw [List.length_take, List.length_drop]
      omega
    rw [List.length_map] at hcount
    refine ⟨⟨rfl, destRule?_eq_some_iff.mp hdest, hlen.trans_le hbody, hcount.trans_le hitems,
      hlen.symm ▸ hranges⟩, ?_⟩
    have hrest : bs.drop 9 = (bs.drop 9).take (natAt bs 7) ++ items.flatMap Item.bytes := by
      rw [List.flatMap_def, ← hdrop, ← List.drop_drop, List.take_append_drop]
    simp only [Template.carried, Template.header, hlen, hcount, ← hrest]
    simp only [natAt, byteOf_toNat]
    rw [← SeqRule.ofByte?_eq_some_iff.mp hseq, ← LatePolicy.ofByte?_eq_some_iff.mp hlate,
      ← StalePolicy.ofByte?_eq_some_iff.mp hstale, halfAt, be16_append]
    exact eq_map_byteAt_append_drop (n := 9) (by omega)

end Sys2Proof.Machine
end

section
/-! The template requests (R107 to R110) and RESPONDER_STATUS (R121) of an accepted request, each by what its body
holds. -/

namespace Sys2Proof.Machine

theorem exec_templatePut (s : State) : exec .templatePut s = execTemplatePut s := rfl

theorem exec_templateGet (s : State) : exec .templateGet s = execTemplateGet s := rfl

theorem exec_templateClear (s : State) : exec .templateClear s = execTemplateClear s := rfl

theorem exec_responderStatus (s : State) : exec .responderStatus s = execResponderStatus s := rfl

/-! ### TEMPLATE_PUT -/

/-- TEMPLATE_PUT of a template in range stores it DEFINED with the use count 0 (R108). -/
theorem execTemplatePut_carried {s : State} {tag : Byte} {n : Fin 16} {t : Template} {rule : Byte} {addr : Half}
    {kind : Byte} (ht : t.CarriedBy rule addr kind)
    (h : Accepted s .templatePut tag (byteOf n.val :: t.carried rule addr kind)) :
    execTemplatePut s = done ((s.setTemplate n t.stored).withReply .templatePut tag [Status.done.code] []) := by
  unfold execTemplatePut
  rw [State.dispatch_accepted h, List.drop_one, List.tail_cons, ht.templateItems_eq]
  simp only [sixteen?_byteOf, ht.template?_eq]
  exact congrArg done (h.answerInline [] (fun u => u.setTemplate n t.stored) (fun _ => rfl) (fun _ => rfl)
    (Nat.zero_le 47))

/-- TEMPLATE_PUT whose bytes behind the body are no items as it counts them is refused BAD_LENGTH (R172). -/
theorem execTemplatePut_badLength {s : State} {tag : Byte} {body : List Byte}
    (h : Accepted s .templatePut tag body) (hraw : templateItems (body.drop 1) = none) :
    execTemplatePut s = done (s.withReply .templatePut tag [Status.badLength.code] []) := by
  unfold execTemplatePut
  rw [State.dispatch_accepted h, hraw]
  exact congrArg done (h.refuse .badLength)

/-- TEMPLATE_PUT whose items are cut apart and whose number or template is not read is refused BAD_FIELD (R107). -/
theorem execTemplatePut_badField {s : State} {tag : Byte} {body : List Byte} {raw : List (List Byte)}
    (h : Accepted s .templatePut tag body) (hraw : templateItems (body.drop 1) = some raw)
    (hn : ∀ n t, sixteen? (byteAt body 0) = some n → template? (body.drop 1) raw ≠ some t) :
    execTemplatePut s = done (s.withReply .templatePut tag [Status.badField.code] []) := by
  unfold execTemplatePut
  rw [State.dispatch_accepted h, hraw]
  dsimp only
  split
  · rename_i n t hsome ht
    exact absurd ht (hn n t hsome)
  · rw [h.refuse]

/-- A TEMPLATE_PUT body from which a number and a template are read carries that template in range behind that
number. -/
theorem templatePut_body_eq {body : List Byte} {raw : List (List Byte)} {n : Fin 16} {t : Template}
    (hraw : templateItems (body.drop 1) = some raw) (hn : sixteen? (byteAt body 0) = some n)
    (ht : template? (body.drop 1) raw = some t) :
    ∃ rule addr kind, t.CarriedBy rule addr kind ∧ body = byteOf n.val :: t.carried rule addr kind := by
  have hlong := (templateItems_eq_some_iff.mp hraw).1
  have hpos : 0 < body.length := by
    rw [List.length_drop] at hlong
    omega
  obtain ⟨hcarried, hb⟩ := template?_eq_some ht hraw
  refine ⟨_, _, _, hcarried, ?_⟩
  rw [← eq_byteOf_of_number? hn, ← hb, ← drop_eq_byteAt hpos, List.drop_zero]

/-- The length of an item by the number of its kind. -/
theorem itemBytes_byteAt (bs : List Byte) (i : Nat) :
    itemBytes (byteAt bs i) = if natAt bs i = 0 then 4 else if natAt bs i = 1 then 3 else 2 := by
  have h0 : byteAt bs i = 0 ↔ natAt bs i = 0 := BitVec.toNat_inj.symm
  have h1 : byteAt bs i = 1 ↔ natAt bs i = 1 := BitVec.toNat_inj.symm
  simp only [itemBytes, h0, h1]

/-- The items of a TEMPLATE_PUT, whose number stands in front of the template (Table 11-11, R172). -/
theorem templateItems_drop_one_eq_some_iff {body : List Byte} {raw : List (List Byte)} :
    templateItems (body.drop 1) = some raw ↔ 10 + natAt body 8 ≤ body.length ∧ raw.length = natAt body 9 ∧
      body.drop (10 + natAt body 8) = raw.flatten ∧
      (∀ i ∈ raw, i.length = (if natAt i 0 = 0 then 4 else if natAt i 0 = 1 then 3 else 2)) := by
  have hlong : 9 + natAt body 8 ≤ body.length - 1 ↔ 10 + natAt body 8 ≤ body.length := by omega
  have hdrop : 1 + (9 + natAt body 8) = 10 + natAt body 8 := by omega
  have h7 : natAt (body.drop 1) 7 = natAt body 8 := congrArg BitVec.toNat (byteAt_drop_one body 7)
  have h8 : natAt (body.drop 1) 8 = natAt body 9 := congrArg BitVec.toNat (byteAt_drop_one body 8)
  rw [templateItems_eq_some_iff, h7, h8, List.length_drop, hlong, List.drop_drop, hdrop]
  simp only [ItemLengths, itemBytes_byteAt]

/-- Setting the reply flag of a KIND that has it changes nothing (R108). -/
theorem or_replyFlag_eq_self {kind : Byte} (h : kind.msb = true) : kind ||| 0x80 = kind := by
  revert kind
  decide

/-- A template in range with the reply flag set is carried by its own bytes. -/
theorem Template.exists_carriedBy_bytes {t : Template} (hkind : t.kind.msb = true) (hdest : t.dest ≠ .fixed 0)
    (hbody : t.body.length ≤ 248) (hitems : t.items.length ≤ 6)
    (hrange : ∀ i ∈ t.items, i.InRange t.body.length) :
    ∃ rule addr, t.CarriedBy rule addr t.kind ∧ t.bytes = t.carried rule addr t.kind := by
  have hflag : t.kind = t.kind ||| 0x80 := (or_replyFlag_eq_self hkind).symm
  cases hd : t.dest with
  | toSender =>
    refine ⟨0, 0, ⟨hflag, .inl ⟨rfl, hd⟩, hbody, hitems, hrange⟩, ?_⟩
    rw [Template.bytes, hd, List.append_assoc]
    rfl
  | fixed addr =>
    have haddr : addr ≠ 0 := by
      rintro rfl
      exact hdest hd
    refine ⟨1, addr, ⟨hflag, .inr ⟨rfl, haddr, hd⟩, hbody, hitems, hrange⟩, ?_⟩
    rw [Template.bytes, hd, List.append_assoc]
    rfl

/-! ### TEMPLATE_GET -/

/-- TEMPLATE_GET reports the template and changes nothing (R109). -/
theorem execTemplateGet_template {s : State} {tag : Byte} {n : Fin 16}
    (h : Accepted s .templateGet tag [byteOf n.val]) :
    execTemplateGet s =
      done (s.answered .templateGet tag (s.responder.templates[n].getContent n) id) := by
  unfold execTemplateGet
  rw [State.dispatch_accepted h, sixteen?_byteOf]
  exact congrArg done (h.answer (s.responder.templates[n].getContent n) id (fun _ => rfl) (fun _ => rfl))

/-! ### TEMPLATE_CLEAR -/

theorem Bank.names_iff {b : Bank} {n : Fin 16} :
    b.names n = true ↔ ∃ i : Fin 32, b.entries[i].inUse = true ∧ b.entries[i].answer = some n := by
  simp only [Bank.names, List.any_eq_true, Bool.and_eq_true, beq_iff_eq]
  constructor
  · rintro ⟨e, he, huse⟩
    obtain ⟨i, hi, rfl⟩ := List.getElem_of_mem he
    exact ⟨⟨i, by simpa using hi⟩, by simpa using huse⟩
  · rintro ⟨i, huse⟩
    exact ⟨b.entries[i], by simp, huse⟩

/-- TEMPLATE_CLEAR of a template that an IN_USE entry of ACTIVE names is refused IN_USE (R55, R110). -/
theorem execTemplateClear_inUse {s : State} {tag : Byte} {n : Fin 16}
    (h : Accepted s .templateClear tag [byteOf n.val]) (hnames : s.sieve.active.names n = true) :
    execTemplateClear s = done (s.withReply .templateClear tag [Status.inUse.code] []) := by
  unfold execTemplateClear
  rw [State.dispatch_accepted h, sixteen?_byteOf]
  exact congrArg done ((if_pos hnames).trans (h.refuse .inUse))

/-- TEMPLATE_CLEAR of any other template makes it UNDEFINED, with the empty content (R110). -/
theorem execTemplateClear_template {s : State} {tag : Byte} {n : Fin 16}
    (h : Accepted s .templateClear tag [byteOf n.val]) (hnames : ¬ s.sieve.active.names n = true) :
    execTemplateClear s =
      done ((s.setTemplate n Template.empty).withReply .templateClear tag [Status.done.code] []) := by
  unfold execTemplateClear
  rw [State.dispatch_accepted h, sixteen?_byteOf]
  exact congrArg done ((if_neg hnames).trans (h.answerInline [] (fun u => u.setTemplate n Template.empty)
    (fun _ => rfl) (fun _ => rfl) (Nat.zero_le 47)))

/-- TEMPLATE_CLEAR of a number above 15 is refused BAD_FIELD (R110). -/
theorem execTemplateClear_badField {s : State} {tag m : Byte} (h : Accepted s .templateClear tag [m])
    (hm : 15 < m.toNat) :
    execTemplateClear s = done (s.withReply .templateClear tag [Status.badField.code] []) := by
  have hnone : sixteen? (byteAt [m] 0) = none := number?_eq_none hm
  unfold execTemplateClear
  rw [State.dispatch_accepted h, hnone]
  exact congrArg done (h.refuse .badField)

/-! ### RESPONDER_STATUS -/

/-- The eight responder counters are set to 0 where the option asks for it (R121). -/
def State.clearReplyCountersIf (s : State) (o : Bool) : State :=
  if o then s.setReplyCounters ⟨0, 0, 0, 0, 0, 0, 0, 0⟩ else s

/-- RESPONDER_STATUS reports the responder as it stood before the counters are cleared (R121). -/
theorem execResponderStatus_option {s : State} {tag : Byte} {o : Bool}
    (h : Accepted s .responderStatus tag [yesNo o]) :
    execResponderStatus s =
      done (s.answered .responderStatus tag s.responderContent (State.clearReplyCountersIf · o)) := by
  have ho : yesNo? (byteAt [yesNo o] 0) = some o := yesNo?_yesNo o
  unfold execResponderStatus
  rw [State.dispatch_accepted h, ho]
  exact congrArg done (h.answer s.responderContent (State.clearReplyCountersIf · o)
    (fun _ => by cases o <;> rfl) (fun _ => by cases o <;> rfl))

end Sys2Proof.Machine

namespace Sys2Proof

open Machine

/-- Settles O34: each request by what its body holds.  The idea is in TEMPLATE_PUT's refusals: a body that is cut
apart and from which a number and a template are read carries that template in range, which the premise of
BAD_FIELD rules out. -/
theorem templateRequestsReply : Obligations.TemplateRequestsReply := by
  intro s tag n
  refine ⟨?put, ?get, ?clear, ?status, ?clearRefused, ?itemBytes, ?putCarried⟩
  case put =>
    intro t hkind hbody hitems hdest hrange h
    obtain ⟨rule, addr, ht, hbytes⟩ := Template.exists_carriedBy_bytes hkind hdest hbody hitems hrange
    rw [hbytes] at h
    rw [exec_templatePut, execTemplatePut_carried ht h]
    rfl
  case get =>
    intro h
    rw [exec_templateGet, execTemplateGet_template h]
    rfl
  case clear =>
    intro h
    constructor
    · intro hnamed
      rw [exec_templateClear, execTemplateClear_inUse h (Bank.names_iff.mpr hnamed)]
      rfl
    · intro hfree
      have hnames : ¬ s.sieve.active.names n = true := by
        rw [Bank.names_iff]
        rintro ⟨i, huse, hanswer⟩
        exact hfree i huse hanswer
      rw [exec_templateClear, execTemplateClear_template h hnames]
      rfl
  case status =>
    intro o h
    rw [exec_responderStatus, execResponderStatus_option h]
    rfl
  case clearRefused =>
    intro m hm h
    rw [exec_templateClear, execTemplateClear_badField h hm]
    rfl
  case itemBytes =>
    intro i
    cases i <;> rfl
  case putCarried =>
    intro carried fits hcarried hfits
    have hcarries : ∀ m rule addr kind t,
        carried m rule addr kind t = byteOf m.val :: t.carried rule addr kind := by
      intro m rule addr kind t
      rw [hcarried, List.append_assoc]
      rfl
    constructor
    · intro rule addr kind t hfit h
      obtain ⟨hkind, hdest, hbody, hitems, hrange⟩ := (hfits rule addr kind t).mp hfit
      rw [hcarries] at h
      rw [exec_templatePut, execTemplatePut_carried ⟨hkind, hdest, hbody, hitems, hrange⟩ h]
      rfl
    · intro body cut h hcut
      have hsplit : ∀ raw, cut raw ↔ templateItems (body.drop 1) = some raw :=
        fun raw => (hcut raw).trans templateItems_drop_one_eq_some_iff.symm
      constructor
      · intro hnone
        have hraw : templateItems (body.drop 1) = none :=
          Option.eq_none_iff_forall_ne_some.mpr fun raw hraw => hnone raw ((hsplit raw).mpr hraw)
        rw [exec_templatePut, execTemplatePut_badLength h hraw]
        rfl
      · rintro ⟨raw, hraw⟩ hcarriesNone
        rw [hsplit] at hraw
        have hunread : ∀ m t, sixteen? (byteAt body 0) = some m → template? (body.drop 1) raw ≠ some t := by
          intro m t hm ht
          obtain ⟨rule, addr, kind, hc, hbody⟩ := templatePut_body_eq hraw hm ht
          have hfit := (hfits rule addr kind t).mpr
            ⟨hc.kind_eq, hc.dest, hc.body_length, hc.items_length, hc.items⟩
          exact hcarriesNone m rule addr kind t hfit (hbody.trans (hcarries m rule addr kind t).symm)
        rw [exec_templatePut, execTemplatePut_badField h hraw hunread]
        rfl

end Sys2Proof
end

section
/-! FRAME_SEND of an accepted request (R125, R126): the checks in their order, and the frame that joins the send
queue. -/

namespace Sys2Proof.Machine

theorem exec_frameSend (s : State) : exec .frameSend s = execFrameSend s := rfl

/-! ### The checks of R125 -/

/-- A FRAME_SEND body of the length it declares, with its LEN and its address index in range: what the first two
checks of R125 let through. -/
structure SendBodyFits (body : List Byte) : Prop where
  length : body.length = 6 + natAt body 5
  payload : natAt body 5 ≤ 248
  address : natAt body 0 ≤ 3

/-- A fitting body passes the check of the ranges (R125). -/
theorem SendBodyFits.inRange {body : List Byte} (hb : SendBodyFits body) :
    ¬ (248 < natAt body 5 ∨ 3 < natAt body 0) :=
  not_or_intro (Nat.not_lt.mpr hb.payload) (Nat.not_lt.mpr hb.address)

/-- The line mode refuses FRAME_SEND: the third check of R125. -/
def Line.RefusesSend (l : Line) : Prop :=
  l.mode = .stopped ∨ l.mode = .listening ∨ l.stoppingOrReset = true

/-- An ACTIVE or FAULTED line with no stopping sequence and no line-side reset takes FRAME_SEND (R125). -/
theorem Line.not_refusesSend {l : Line} (hm : l.mode = .active ∨ l.mode = .faulted)
    (hr : l.stoppingOrReset = false) : ¬ l.RefusesSend := by
  unfold Line.RefusesSend
  obtain hm | hm := hm <;> simp [hm, hr]

/-- The stored frame of a fitting body is as long as its LEN says (R126). -/
theorem SendBodyFits.cells_sendFrame {body : List Byte} (hb : SendBodyFits body) (src : Half) :
    (sendFrame body src).cells = (7 + natAt body 5 + 63) / 64 := by
  have hpayload : (body.drop 6).length = natAt body 5 := by
    rw [List.length_drop, hb.length, Nat.add_sub_cancel_left]
  rw [← hpayload]
  rfl

/-- The length is judged first (R125). -/
theorem State.judgeSend_badLength (s : State) {body : List Byte} (hl : body.length ≠ 6 + natAt body 5) :
    s.judgeSend body = .error .badLength := if_pos hl

/-- The ranges of LEN and of the address index are judged next (R125). -/
theorem State.judgeSend_badField (s : State) {body : List Byte} (hl : body.length = 6 + natAt body 5)
    (hr : 248 < natAt body 5 ∨ 3 < natAt body 0) : s.judgeSend body = .error .badField := by
  unfold State.judgeSend
  rw [if_neg (not_not_intro hl), if_pos hr]

/-- The line mode is judged third (R125). -/
theorem SendBodyFits.judgeSend_lineState {body : List Byte} (hb : SendBodyFits body) {s : State}
    (hm : s.line.RefusesSend) : s.judgeSend body = .error .lineState := by
  unfold State.judgeSend
  rw [if_neg (not_not_intro hb.length), if_neg hb.inRange]
  exact if_pos hm

/-- The destination and the own address are judged fourth: no frame is sent to 0x0000, nor from an address that
is not set (R125). -/
theorem SendBodyFits.judgeSend_invalid {body : List Byte} (hb : SendBodyFits body) {s : State}
    (hm : ¬ s.line.RefusesSend) (hi : halfAt body 1 = 0 ∨ s.line.own.length ≤ natAt body 0) :
    s.judgeSend body = .error .invalid := by
  unfold State.judgeSend
  rw [if_neg (not_not_intro hb.length), if_neg hb.inRange]
  refine (if_neg hm).trans ?_
  by_cases hdst : halfAt body 1 = 0
  · exact if_pos hdst
  · rw [if_neg hdst, List.getElem?_eq_none (hi.resolve_left hdst)]

/-- A frame with a destination and an own address is judged last by its cells and the quota (R125). -/
theorem SendBodyFits.judgeSend_addressed {body : List Byte} (hb : SendBodyFits body) {s : State} {src : Half}
    (hm : ¬ s.line.RefusesSend) (hdst : halfAt body 1 ≠ 0) (hsrc : s.line.own[natAt body 0]? = some src) :
    s.judgeSend body =
      if s.pool.ordinaryOk ((7 + natAt body 5 + 63) / 64) = true ∧
          s.pool.send + (7 + natAt body 5 + 63) / 64 ≤ s.pool.quota then
        .ok (sendFrame body src)
      else .error .noCell := by
  unfold State.judgeSend
  rw [if_neg (not_not_intro hb.length), if_neg hb.inRange]
  refine (if_neg hm).trans ?_
  rw [if_neg hdst, hsrc]
  simp only [hb.cells_sendFrame, Pool.quotaOk, Bool.and_eq_true, decide_eq_true_eq]

/-! ### The two ends of FRAME_SEND -/

/-- A FRAME_SEND that fails a check completes with that check's status and has no effect (R125). -/
theorem execFrameSend_error {s : State} {tag : Byte} {body : List Byte} {st : Status}
    (h : Accepted s .frameSend tag body) (hj : s.judgeSend body = .error st) :
    execFrameSend s = done (s.withReply .frameSend tag [st.code] []) := by
  have hentered : (s.emptyBuffer.enterTable .frameSend tag).judgeSend body = .error st := hj
  unfold execFrameSend
  rw [State.dispatch_accepted h, hentered]
  exact congrArg done (h.refuse st)

/-- A frame that passes has its cells claimed and joins the tail of the send queue QUEUED, its request stays in
the table, and the arbiter acts (R126). -/
theorem execFrameSend_ok {s : State} {tag : Byte} {body : List Byte} {f : Frame}
    (h : Accepted s .frameSend tag body) (hj : s.judgeSend body = .ok f) :
    execFrameSend s = done (State.arbitrate
      (((s.emptyBuffer.enterTable .frameSend tag).claim .send f.cells).setSends
        (s.sender.queue ++ [⟨tag, f, 0, .waiting⟩]))) := by
  have hentered : (s.emptyBuffer.enterTable .frameSend tag).judgeSend body = .ok f := hj
  unfold execFrameSend
  rw [State.dispatch_accepted h, hentered]
  rfl

end Sys2Proof.Machine

namespace Sys2Proof

open Machine

/-- Settles O35: each clause by the first check of R125 that fails in it, and the last by the frame that fails
none. -/
theorem frameSendIsJudgedInOrder : Obligations.FrameSendIsJudgedInOrder := by
  intro s tag body h
  rw [exec_frameSend]
  refine ⟨?length, ?ranges, fun hl hlen haddr => ⟨?mode, fun hm hr => ⟨?address, fun src hdst hsrc => ?cells⟩⟩⟩
  case length =>
    intro hl
    rw [execFrameSend_error h (s.judgeSend_badLength hl)]
    rfl
  case ranges =>
    intro hl hr
    rw [execFrameSend_error h (s.judgeSend_badField hl hr)]
    rfl
  all_goals have hb : SendBodyFits body := ⟨hl, hlen, haddr⟩
  case mode =>
    intro hm
    rw [execFrameSend_error h (hb.judgeSend_lineState hm)]
    rfl
  case address =>
    intro hi
    rw [execFrameSend_error h (hb.judgeSend_invalid (Line.not_refusesSend hm hr) hi)]
    rfl
  case cells =>
    have hjudged := hb.judgeSend_addressed (Line.not_refusesSend hm hr) hdst hsrc
    constructor
    · intro hfull
      have hrefused : ¬ (s.pool.ordinaryOk ((7 + natAt body 5 + 63) / 64) = true ∧
          s.pool.send + (7 + natAt body 5 + 63) / 64 ≤ s.pool.quota) := by
        rintro ⟨hok, hquota⟩
        obtain hno | hover := hfull
        · exact Bool.false_ne_true (hno.symm.trans hok)
        · exact Nat.not_le.mpr hover hquota
      rw [execFrameSend_error h (hjudged.trans (if_neg hrefused))]
      rfl
    · intro hok hquota
      rw [execFrameSend_ok h (hjudged.trans (if_pos ⟨hok, hquota⟩)), hb.cells_sendFrame]
      rfl

end Sys2Proof
end

section
/-! What one command can do, said once: every command is a run of the moves below, and each law of the device is
proved a move at a time. -/

namespace Sys2Proof.Machine

/-! ### Changes that no law sees -/

/-- `t` differs from `s` in nothing that a law of the device reads. -/
structure SameData (s t : State) : Prop where
  mode : t.line.mode = s.line.mode
  resume : t.line.resume = s.line.resume
  own : t.line.own = s.line.own
  receiver : t.line.receiver = s.line.receiver
  transmitter : t.line.transmitter = s.line.transmitter
  slot : t.line.slot = s.line.slot
  lineStop : t.line.lineStop = s.line.lineStop
  sideTag : t.line.lineSide.map (fun r => r.tag) = s.line.lineSide.map (fun r => r.tag)
  free : t.pool.free = s.pool.free
  receive : t.pool.receive = s.pool.receive
  classify : t.pool.classify = s.pool.classify
  queueCells : t.pool.queue = s.pool.queue
  replyCells : t.pool.responder = s.pool.responder
  sendCells : t.pool.send = s.pool.send
  outboxCells : t.pool.outbox = s.pool.outbox
  active : t.sieve.active = s.sieve.active
  commit : t.sieve.commit = s.sieve.commit
  waiting : t.classifier.queue = s.classifier.queue
  eval : t.classifier.eval = s.classifier.eval
  records : ∀ q : Fin 4, t.queues[q].records = s.queues[q].records
  depths : ∀ q : Fin 4, t.queues[q].settings.depth = s.queues[q].settings.depth
  templates : t.responder.templates = s.responder.templates
  replies : t.responder.queue = s.responder.queue
  sends : t.sender.queue = s.sender.queue
  pass : t.sender.pass = s.sender.pass
  buffer : t.link.buffer = s.link.buffer
  table : t.link.table = s.link.table
  outbox : t.link.outbox = s.link.outbox
  nextSeq : t.link.nextSeq = s.link.nextSeq
  lastRemoved : t.link.lastRemoved = s.link.lastRemoved
  notices : t.link.notices = s.link.notices
  presence : t.presence.state = s.presence.state
  causes : t.presence.causes = s.presence.causes
  dozeReply : t.presence.dozeReply = s.presence.dozeReply
  pending : t.pending = s.pending

theorem SameData.refl (s : State) : SameData s s := by constructor <;> intros <;> rfl

/-- Time moves no more than the clocks (R4, R23). -/
theorem SameData.elapse (s : State) (dt : Nat) : SameData s (s.elapse dt) := by
  constructor <;> intros <;> simp

/-! ### Guards -/

/-- A request with this tag may enter the request table (R142, checks 4 to 6). -/
structure Room (s : State) (tag : Byte) : Prop where
  fresh : s.link.holdsTag tag = false
  table : s.link.table.length < 8
  occupancy : s.link.occupancy < 32

/-- The line `l` after the attempt of the grant `g` has ended: the transmitter is IDLE, a slot may have been opened by
the frame sent, and the receiver may have ended following it (R5, R7, R8, R11). -/
structure AttemptOver (s : State) (g : Grant) (l : Line) : Prop where
  drove : (∃ start bytes, s.line.transmitter = .sending g start bytes) ∨
    (∃ start, s.line.transmitter = .jamming g start ∧ l.slot = s.line.slot)
  idle : l.transmitter = .idle
  mode : l.mode = s.line.mode
  resume : l.resume = s.line.resume
  own : l.own = s.line.own
  lineStop : l.lineStop = s.line.lineStop
  lineSide : l.lineSide = s.line.lineSide
  slot : l.slot = s.line.slot ∨ ∃ p, l.slot = .other p
  receiver : l.receiver = s.line.receiver ∨ s.line.receiver = .following ∧ l.receiver = .idle

/-- The line mode may become `m` with the resume mode `r` (R15 to R22). -/
structure ModeMayBe (s : State) (m : LineMode) (r : Option HearMode) : Prop where
  drives : s.line.mode = .active → s.line.transmitter ≠ .idle → m = .active
  deaf : m ≠ .listening → m ≠ .active → s.line.receiver = .idle ∧ s.line.slot = .none
  resume : r.isSome = true ↔ m = .faulted
  own : m = .active ∨ r = some .active →
    s.line.own ≠ [] ∨ s.line.mode = .active ∨ s.line.resume = some .active
  queues : m = .stopped → s.sender.queue = [] ∧ s.responder.queue = []

/-- Every SENT entry becomes UNSENT and the notices are merged; the pending notices have not moved yet (R148,
R152). -/
def State.unsentAgain (s : State) : State :=
  let unsent := s.link.outbox.map (fun e => { e with sent := false })
  let a := absorbPending unsent s.link.notices
  let m := a.1.foldl (Merging.take s.presence.dozeReply) ⟨[], 0, s.presence.dozeReply⟩
  { s with
    link := { s.link with
      outbox := m.kept
      notices := a.2
      nextSeq := s.link.nextSeq - BitVec.ofNat 8 m.removed
      counters := { s.link.counters with resends := bump s.link.counters.resends } }
    presence := { s.presence with dozeReply := m.doze } }

theorem State.resend_eq (s : State) : s.resend = s.unsentAgain.drainNotices := rfl

/-- An ACK has removed the first `n` entries; the pending notices have not moved yet (R147). -/
def State.acked (s : State) (n : Nat) (ack : Byte) : State :=
  State.release
    { s with
      link := { s.link with outbox := s.link.outbox.drop n, lastRemoved := ack }
      presence := s.presence.acknowledge (s.link.outbox.take n) }
    .outbox (((s.link.outbox.take n).map (fun e => e.msg.cells)).sum)

theorem State.removeAcked_eq (s : State) (n : Nat) (ack : Byte) :
    s.removeAcked n ack = (s.acked n ack).drainNotices := rfl

/-! ### The moves -/

/-- One move of the part.  The moves marked `scan` belong to the middle of a scan's end, those marked `stop` to a jam
that ends in a stopping sequence: there a law that speaks of the frame under evaluation, or of the frame jammed off, may
be open for a while.  `ends` is what is known of a state in which a frame ends on the line. -/
inductive Move (scan stop : Prop) (ends : State → Prop) : State → State → Prop
  | data {s t} (h : SameData s t) : Move scan stop ends s t
  | cleared {s} : Move scan stop ends s s.clearAll
  | reset {s} (cause) : Move scan stop ends s (s.fullReset cause)
  -- the message link
  | emptied {s} : Move scan stop ends s s.emptyBuffer
  | filled {s} (b) (h : s.presence.state = .awake ∨ s.link.buffer ≠ .empty) :
    Move scan stop ends s { s with link := { s.link with buffer := b } }
  | replied {s} (k tag body) (h : s.link.occupancy < 32) :
    Move scan stop ends s (s.append (.reply k tag body []))
  | repliedLong {s} (k tag body) (h : s.link.occupancy < 32)
    (hp : s.pool.ordinaryOk (cellsFor body.length) = true) :
    Move scan stop ends s
      (State.append (s.claim .outbox (cellsFor body.length)) (.reply k tag [] body))
  | handedOver {s} (q : Fin 4) (r rest c k tag inline) (h : s.link.occupancy < 32)
    (hr : s.queues[q].records = r :: rest) :
    Move scan stop ends s (State.append
      ((s.setQueue q { s.queues[q] with records := rest, counters := c }).moveCells (.queue q) .outbox
        r.frame.cells) (.reply k tag inline r.frame.bytes))
  | posted {s} (n) : Move scan stop ends s (s.post n)
  | noticeMoved {s} (n ns) (hn : s.link.notices = n :: ns) (h : s.link.occupancy < 32) :
    Move scan stop ends s (State.append { s with link := { s.link with notices := ns } } (.notice n))
  | acked {s} (i ack) (h : s.link.outbox.findIdx? (fun e => e.sent && e.seq == ack) = some i) :
    Move scan stop ends s (s.acked (i + 1) ack)
  | unsentAgain {s} : Move scan stop ends s s.unsentAgain
  | sent {s} (h : s.link.sentCount < 8) :
    Move scan stop ends s { s with link := { s.link with
      outbox := changeFirst (fun e => !e.sent) (fun e => { e with sent := true }) s.link.outbox } }
  -- presence
  | gave {s} (c) : Move scan stop ends s (s.give c)
  | roused {s} (h : s.presence.state = .dozing ∨ s.presence.state = .waking) :
    Move scan stop ends s { s with presence := { s.presence with state := .awake } }
  | dozeCancelled {s} :
    Move scan stop ends s { s with presence := { s.presence with state := .awake, dozeReply := none } }
  | causesCleared {s} (h : s.presence.state = .awake ∨ s.link.buffer ≠ .empty) :
    Move scan stop ends s { s with presence := { s.presence with causes := 0 } }
  | dozed {s} (d) (h : s.link.buffer = .empty) :
    Move scan stop ends s
      { s with presence := { s.presence with state := .dozeRequested, dozeReply := some d } }
  -- the deferred requests
  | enteredSend {s} (tag f) (h : Room s tag) (hp : s.pool.ordinaryOk f.cells = true)
    (hm : s.line.mode ≠ .stopped) :
    Move scan stop ends s (State.setSends ((s.enterTable .frameSend tag).claim .send f.cells)
      (s.sender.queue ++ [⟨tag, f, 0, .waiting⟩]))
  | enteredCommit {s} (tag) (h : Room s tag) (hn : s.sieve.commit = none) :
    Move scan stop ends s
      { s.enterTable .sieveCommit tag with sieve := { s.sieve with commit := some tag } }
  | enteredStop {s} (tag) (h : Room s tag) (hn : s.line.lineStop = none) :
    Move scan stop ends s
      { s.enterTable .lineStop tag with line := { s.line with lineStop := some tag } }
  | enteredSide {s} (tag) (h : Room s tag) (hn : s.line.lineSide = none) :
    Move scan stop ends s
      { s.enterTable .reset tag with line := { s.line with lineSide := some ⟨tag, .stopping⟩ } }
  | commitApplied {s} : Move scan stop ends s s.applyCommit
  | sendCompleted {s} (e st content) (h : s.sender.queue.find? (fun x => x.tag == e.tag) = some e)
    (hi : e.state ≠ .onLine ∨ s.line.transmitter = .idle) :
    Move scan stop ends s (s.completeSend e st content)
  | lineStopCompleted {s} : Move scan stop ends s s.completeLineStop
  | sideCompleted {s} (r) (h : s.line.lineSide = some r) :
    Move scan stop ends s
      (State.refuse { s with line := { s.line with lineSide := none } } .reset r.tag .done)
  -- the delivery queues and the classifier
  | recordsRemoved {s} (q : Fin 4) (kept removed) (h : kept.Sublist s.queues[q].records)
    (hc : cellsOf kept + cellsOf removed = cellsOf s.queues[q].records) :
    Move scan stop ends s (s.removeRecords q kept removed)
  | settingsChanged {s} (q : Fin 4) (c : QueueSettings) (h : 1 ≤ c.depth ∧ c.depth ≤ 64) :
    Move scan stop ends s (s.setQueue q { s.queues[q] with settings := c })
  | classificationEmptied {s} : Move scan stop ends s s.emptyClassification
  | evaluationBegun {s} (w ws g o p) (he : s.classifier.eval = none) (hq : s.classifier.queue = w :: ws) :
    Move scan stop ends s
      { s with classifier := { s.classifier with queue := ws, eval := some ⟨w, g, o, p⟩ } }
  | activeChanged {s} (n : Fin 16) (t) (h : t.defined = true ∨ s.sieve.active.names n = false) :
    Move scan stop ends s (s.setTemplate n t)
  | released {s} (h : scan) (c) : Move scan stop ends s (s.release .classify c)
  | accepted {s} (h : scan) (q : Fin 4) (r)
    (hr : s.queues[q].records.length < s.queues[q].settings.depth ∨ s.queues[q].records = []) :
    Move scan stop ends s (s.acceptRecord q r)
  | placed {s} (h : scan) (n f w) (hq : s.responder.queue.length < 4) (hm : s.line.mode = .active) :
    Move scan stop ends s (s.placeReply n f w).1
  | evaluationEnded {s} (h : scan) :
    Move scan stop ends s { s with classifier := { s.classifier with eval := none } }
  -- reception
  | frameDropped {s} (claimed : Bool) (after : Receiver) (c)
    (ha : after = .idle ∨ after = .discarding ∧ ∃ bs, s.line.receiver = .receiving bs)
    (hp : claimed = true → s.pool.ordinaryOk 1 = true) :
    Move scan stop ends s
      (State.dropFrame (if claimed then s.claim .receive 1 else s) after c)
  | bytePlaced {s} (bs b) (h : s.line.receiver = .receiving bs)
    (hp : needsCell bs = true → s.pool.ordinaryOk 1 = true) :
    Move scan stop ends s
      (State.setReceiver (if needsCell bs then s.claim .receive 1 else s) (.receiving (bs ++ [b])))
  | receiverSet {s} (r) (hs : s.line.receiver.cells = 0 ∨ s.line.hears = false) (hr : r.cells = 0)
    (hh : s.line.hears = true ∨ r = .idle)
    (hw : ∀ bs, r = .receiving bs → s.line.slot = .none ∧
      ∀ g start bytes, s.line.transmitter ≠ .sending g start bytes) :
    Move scan stop ends s (s.setReceiver r)
  | frameTaken {s} (bs c) (h : s.line.receiver = .receiving bs) (hb : storedComplete bs = true)
    (he : ends s) :
    Move scan stop ends s (State.enqueue
      { s with line := { s.line.frameEnded (Frame.ofBytes bs) true with receiver := .idle, counters := c } }
      (Frame.ofBytes bs) s.line.timebase s.line.point)
  -- the line clock, the transmitter and the arbiter
  | slotClosed {s} : Move scan stop ends s s.closeSlot
  | chosen {s} (hm : s.line.mode = .active) (hi : s.line.transmitter = .idle) :
    Move scan stop ends s s.choose
  | notStarted {s} : Move scan stop ends s s.notStarted
  | startedInGap {s} (g) (hg : s.line.transmitter = .gapWait g) (hn : g.slotEnd = none)
    (hm : s.line.mode = .active) (hr : s.line.receiver.quiet = true) :
    Move scan stop ends s (s.closeSlot.startSending g)
  | startedInSlot {s} (g fe) (hg : s.line.transmitter = .gapWait g) (hn : g.slotEnd = some fe)
    (hm : s.line.mode = .active) (hs : s.line.slot = .own fe) :
    Move scan stop ends s (State.startSending { s with line := { s.line with slot := .none } } g)
  | jammed {s} (g start bytes p) (h : s.line.transmitter = .sending g start bytes) :
    Move scan stop ends s (s.setTransmitter (.jamming g p))
  | attemptEnded {s} (g l o) (h : AttemptOver s g l) (hs : o = .stopped → stop)
    (hc : ∀ r, o = .collided r → g.attempt < 8) :
    Move scan stop ends s (State.hand { s with line := l } g.source o)
  | sendWaits {s} (tag p) :
    Move scan stop ends s (s.setSends (changeFirst (fun e => e.tag == tag && e.state.backoffRun p)
      (fun e => { e with state := .waiting }) s.sender.queue))
  | replyWaits {s} (place : Nat) (e p) (h : s.responder.queue[place]? = some e)
    (hb : e.state.backoffRun p = true) :
    Move scan stop ends s (s.setReplies (s.responder.queue.set place { e with state := .waiting }))
  | repliesDiscarded {s} (h : s.line.transmitter = .idle) : Move scan stop ends s s.discardReplies
  -- the line modes
  | modeChanged {s} (m r) (h : ModeMayBe s m r) :
    Move scan stop ends s { s with line := { s.line with mode := m, resume := r } }
  | resumeChanged {s} (m : HearMode) (hf : s.line.mode = .faulted) (ho : m = .active → s.line.own ≠ []) :
    Move scan stop ends s { s with line := { s.line with resume := some m } }
  | lineStarted {s} (m : HearMode) (g p c) (hf : s.line.mode = .stopped)
    (ho : m = .active → s.line.own ≠ []) :
    Move scan stop ends s { s with line := { s.line with
      receiver := .discarding, gap := g, lastActivity := p, stuckCount := c, mode := m.mode, resume := none } }
  | ownChanged {s} (own group) (h : own = [] → s.line.needsOwn = false) :
    Move scan stop ends s { s with line := { s.line with own := own, group := group } }

/-- A run of moves. -/
def Moves (scan stop : Prop) (ends : State → Prop) : State → State → Prop :=
  Relation.ReflTransGen (Move scan stop ends)

section

variable {scan stop : Prop} {ends : State → Prop}

theorem Moves.rfl {s : State} : Moves scan stop ends s s := Relation.ReflTransGen.refl

theorem Moves.trans {s t u : State} (h : Moves scan stop ends s t) (h' : Moves scan stop ends t u) :
    Moves scan stop ends s u := Relation.ReflTransGen.trans h h'

theorem Moves.tail {s t u : State} (h : Moves scan stop ends s t) (h' : Move scan stop ends t u) :
    Moves scan stop ends s u := Relation.ReflTransGen.tail h h'

theorem Move.run {s t : State} (h : Move scan stop ends s t) : Moves scan stop ends s t :=
  Relation.ReflTransGen.single h

/-- A law that every move keeps is kept by a run of moves. -/
theorem Moves.keep {P : State → Prop}
    (hm : ∀ {s t}, Move scan stop ends s t → P s → P t) {s t : State} (h : Moves scan stop ends s t)
    (hs : P s) : P t := by
  induction h with
  | refl => exact hs
  | tail _ hbc ih => exact hm hbc ih

end

/-! ### What a scan's end does -/

/-- What the stages of a verdict do besides placing a reply and giving the frame on. -/
inductive Quiet : State → State → Prop
  | data {s t} (h : SameData s t) : Quiet s t
  | posted {s} (n) : Quiet s (s.post n)
  | gave {s} (c) : Quiet s (s.give c)
  | recordsRemoved {s} (q : Fin 4) (kept removed) (h : kept.Sublist s.queues[q].records)
    (hc : cellsOf kept + cellsOf removed = cellsOf s.queues[q].records) :
    Quiet s (s.removeRecords q kept removed)

/-- A run of such changes. -/
def Quietly : State → State → Prop := Relation.ReflTransGen Quiet

/-- The answer stage places a reply to the frame `m`, in its own slot's window or none, or nothing (R67, R113). -/
inductive Answered (m : Waiting) (s : State) : State → Prop
  | nothing : Answered m s s
  | placed (n f w) (hq : s.responder.queue.length < 4) (hm : s.line.mode = .active)
    (hw : w = none ∨ w = some m.frameEnd ∧ s.line.slot = .own m.frameEnd) :
    Answered m s (s.placeReply n f w).1

/-- The deliver stage gives the frame `m` to a queue, or releases its chain (R68, R78). -/
inductive Delivered (m : Waiting) (s : State) : State → Prop
  | released : Delivered m s (s.release .classify m.frame.cells)
  | accepted (q : Fin 4) (r : Record) (hf : r.frame = m.frame) (hi : r.id = m.id)
    (hr : s.queues[q].records.length < s.queues[q].settings.depth ∨ s.queues[q].records = []) :
    Delivered m s (s.acceptRecord q r)

section

variable {scan stop : Prop} {ends : State → Prop}

theorem Quietly.rfl {s : State} : Quietly s s := Relation.ReflTransGen.refl

theorem Quietly.trans {s t u : State} (h : Quietly s t) (h' : Quietly t u) : Quietly s u :=
  Relation.ReflTransGen.trans h h'

theorem Quietly.tail {s t u : State} (h : Quietly s t) (h' : Quiet t u) : Quietly s u :=
  Relation.ReflTransGen.tail h h'

theorem Quiet.run {s t : State} (h : Quiet s t) : Quietly s t := Relation.ReflTransGen.single h

theorem Quiet.move {s t : State} (h : Quiet s t) : Move scan stop ends s t := by
  cases h with
  | data h => exact .data h
  | posted n => exact .posted n
  | gave c => exact .gave c
  | recordsRemoved q kept removed h hc => exact .recordsRemoved q kept removed h hc

theorem Quietly.moves {s t : State} (h : Quietly s t) : Moves scan stop ends s t := by
  induction h with
  | refl => exact .rfl
  | tail _ hbc ih => exact ih.tail hbc.move

theorem Quietly.keep {P : State → Prop} (hm : ∀ {s t}, Quiet s t → P s → P t) {s t : State}
    (h : Quietly s t) (hs : P s) : P t := by
  induction h with
  | refl => exact hs
  | tail _ hbc ih => exact hm hbc ih

theorem Quiet.eval {s t : State} (h : Quiet s t) : t.classifier.eval = s.classifier.eval := by
  cases h with
  | data h => exact h.eval
  | posted n => simp
  | gave c => simp
  | recordsRemoved q kept removed => rfl

theorem Quietly.eval {s t : State} (h : Quietly s t) : t.classifier.eval = s.classifier.eval :=
  h.keep (P := fun t => t.classifier.eval = s.classifier.eval) (fun hm ht => hm.eval.trans ht) (Eq.refl _)

theorem Answered.moves {m : Waiting} {s t : State} (hscan : scan) (h : Answered m s t) :
    Moves scan stop ends s t := by
  cases h with
  | nothing => exact .rfl
  | placed n f w hq hm _ => exact (Move.placed hscan n f w hq hm).run

theorem Delivered.moves {m : Waiting} {s t : State} (hscan : scan) (h : Delivered m s t) :
    Moves scan stop ends s t := by
  cases h with
  | released => exact (Move.released hscan _).run
  | accepted q r _ _ hr => exact (Move.accepted hscan q r hr).run

end

end Sys2Proof.Machine
end

section
/-! Every command is a run of moves. -/

namespace Sys2Proof.Machine

section

variable {scan stop : Prop} {ends : State → Prop}

/-- The command ends in a state that a run of moves reaches. -/
def Runs (scan stop : Prop) (ends : State → Prop) (s : State) (o : Host.Outcome State Fault Refusal) : Prop :=
  ∃ u, o = done u ∧ Moves scan stop ends s u

theorem Moves.data {s t : State} (h : SameData s t) : Moves scan stop ends s t := (Move.data h).run

theorem Moves.elapse (s : State) (dt : Nat) : Moves scan stop ends s (s.elapse dt) :=
  .data (.elapse s dt)

theorem Moves.done {s u : State} (h : Moves scan stop ends s u) : Runs scan stop ends s (done u) :=
  ⟨u, Eq.refl _, h⟩

/-! ### The message link -/

theorem State.shiftOut_moves (s : State) (bs : List Byte) : Moves scan stop ends s (s.shiftOut bs) :=
  .data (by constructor <;> intros <;> rfl)

theorem State.setLinkCounters_moves (s : State) (c : LinkCounters) :
    Moves scan stop ends s (s.setLinkCounters c) := .data (by constructor <;> intros <;> rfl)

theorem State.setExchange_moves (s : State) (e : Exchange) : Moves scan stop ends s (s.setExchange e) :=
  .data (by constructor <;> intros <;> rfl)

theorem State.newSelect_moves (s : State) : Moves scan stop ends s s.newSelect :=
  .data (by constructor <;> intros <;> rfl)

theorem State.reject_moves (s : State) (r : RejectReason) (tag : Byte) :
    Moves scan stop ends s (s.reject r tag) :=
  (s.setLinkCounters_moves _).tail (.posted _)

theorem State.rejectMessage_moves (s : State) (r : RejectReason) (tag : Byte) :
    Moves scan stop ends s (s.rejectMessage r tag) :=
  ((Move.emptied.run).trans (s.emptyBuffer.setExchange_moves .none)).trans (State.reject_moves _ r tag)

theorem State.endSelect_moves (s : State) : Moves scan stop ends s s.endSelect := by
  unfold State.endSelect
  split
  · exact s.rejectMessage_moves _ _
  · exact .rfl

theorem State.judgeMessage_moves (s : State) (bs : List Byte) (h : s.link.buffer ≠ .empty) :
    Moves scan stop ends s (s.judgeMessage bs) := by
  unfold State.judgeMessage
  split
  · exact (Move.filled _ (.inr h)).run
  · split
    · exact s.rejectMessage_moves _ _
    · split
      · exact (Move.filled _ (.inr h)).run
      · split
        · exact (s.setExchange_moves .none).tail (.filled _ (.inr h))
        · exact s.rejectMessage_moves _ _

theorem State.receiveMessage_moves (s : State) (new : List Byte) :
    Moves scan stop ends s (s.receiveMessage new) := by
  unfold State.receiveMessage
  split
  · rename_i hb _
    exact (s.judgeMessage_moves _ (by simp [hb])).trans (State.shiftOut_moves _ _)
  · exact .rfl

/-- A posting in AWAKE changes no presence (R163). -/
theorem State.post_presence_of_awake (s : State) (n : Notice) (h : s.presence.state = .awake) :
    (s.post n).presence = s.presence := by
  unfold State.post
  split
  · rfl
  · split
    · rfl
    · split
      · simp [State.append_eq, Presence.give_awake _ _ h]
      · rfl

theorem State.hostReturns_moves (s : State) (h : s.presence.state = .dozing ∨ s.presence.state = .waking) :
    Moves scan stop ends s s.hostReturns :=
  ((Move.roused h).run.tail (.posted _)).tail
    (.causesCleared (.inl (by rw [State.post_presence_of_awake _ _ (Eq.refl _)])))

theorem State.reportPut_moves (s : State) : Moves scan stop ends s s.reportPut := by
  unfold State.reportPut
  split
  · exact .rfl
  · exact Move.dozeCancelled.run
  · rename_i h
    exact s.hostReturns_moves (.inl h)
  · rename_i h
    exact s.hostReturns_moves (.inr h)

theorem State.reportGet_moves (s : State) : Moves scan stop ends s s.reportGet := by
  unfold State.reportGet
  split
  · exact .rfl
  · exact .rfl
  · rename_i h
    exact s.hostReturns_moves (.inl h)
  · rename_i h
    exact s.hostReturns_moves (.inr h)

theorem State.hostReturns_awake (s : State) : s.hostReturns.presence.state = .awake := by
  unfold State.hostReturns
  dsimp only
  rw [State.post_presence_of_awake]
  rfl

/-- A PUT's exchange code leaves presence AWAKE (R162, R165). -/
theorem State.reportPut_awake (s : State) : s.reportPut.presence.state = .awake := by
  unfold State.reportPut
  split
  · assumption
  · rfl
  · exact s.hostReturns_awake
  · exact s.hostReturns_awake

theorem State.moveNotices_moves (ns : List Notice) (s : State) (h : s.link.notices = ns) :
    Moves scan stop ends s (s.moveNotices ns) := by
  induction ns generalizing s with
  | nil => exact .rfl
  | cons n ns ih =>
    unfold State.moveNotices
    split
    · rename_i ho
      exact (Move.noticeMoved n ns h ho).run.trans (ih _ (by simp))
    · exact .rfl

theorem State.drainNotices_moves (s : State) : Moves scan stop ends s s.drainNotices :=
  s.moveNotices_moves _ (Eq.refl _)

theorem State.ackStep_moves (s : State) (ack : Byte) : Moves scan stop ends s (s.ackStep ack) := by
  unfold State.ackStep
  split
  · rename_i i hi
    rw [State.removeAcked_eq]
    exact (Move.acked i ack hi).run.trans (State.drainNotices_moves _)
  · split
    · exact .rfl
    · exact s.reject_moves _ _

theorem State.sendingStep_moves (s : State) : Moves scan stop ends s s.sendingStep := by
  unfold State.sendingStep
  split
  · exact s.shiftOut_moves _
  · rename_i h
    split
    · exact s.shiftOut_moves _
    · exact (Move.sent (Nat.not_le.mp h)).run.trans (State.shiftOut_moves _ _)

theorem State.refuseDispatch_moves (s : State) (k tag : Byte) (body : List Byte) :
    Moves scan stop ends s (s.refuseDispatch k tag body) := by
  unfold State.refuseDispatch
  split
  · rename_i h
    exact (Move.replied k tag body h).run
  · exact s.setLinkCounters_moves _

/-! ### Exchanges -/

theorem execPut_moves (dt : Nat) (s : State) : Runs scan stop ends s (execPut dt s) := by
  unfold execPut
  dsimp only
  split
  · exact (Moves.elapse s dt).done
  · have h : Moves scan stop ends s
        (((s.elapse dt).endSelect.newSelect.setLinkCounters
          { (s.elapse dt).endSelect.newSelect.link.counters with
            puts := bump (s.elapse dt).endSelect.newSelect.link.counters.puts }).reportPut) :=
      (((((Moves.elapse s dt).trans (State.endSelect_moves _)).trans (State.newSelect_moves _)).trans
        (State.setLinkCounters_moves _ _)).trans (State.reportPut_moves _))
    split
    · exact ((h.trans (State.setLinkCounters_moves _ _)).trans (State.shiftOut_moves _ _)).done
    · exact (((h.trans (State.setExchange_moves _ .put)).tail
        (.filled (.filling []) (.inl (State.reportPut_awake _)))).trans (State.shiftOut_moves _ _)).done

theorem execGet_moves (dt : Nat) (s : State) : Runs scan stop ends s (execGet dt s) := by
  unfold execGet
  dsimp only
  split
  · exact (Moves.elapse s dt).done
  · exact (((((((Moves.elapse s dt).trans (State.endSelect_moves _)).trans (State.newSelect_moves _)).trans
      (State.setLinkCounters_moves _ _)).trans (State.reportGet_moves _)).trans
      (State.setExchange_moves _ _)).trans (State.shiftOut_moves _ _)).done

theorem execBadExchange_moves (dt : Nat) (s : State) : Runs scan stop ends s (execBadExchange dt s) := by
  unfold execBadExchange
  dsimp only
  split
  · exact (Moves.elapse s dt).done
  · exact (((((Moves.elapse s dt).trans (State.endSelect_moves _)).trans (State.newSelect_moves _)).trans
      (State.setLinkCounters_moves _ _)).trans (State.shiftOut_moves _ _)).done

theorem execGetAck_moves (ack : Byte) (s : State) : Runs scan stop ends s (execGetAck ack s) := by
  unfold execGetAck
  split
  · exact (((s.ackStep_moves ack).trans (State.setExchange_moves _ _)).trans (State.shiftOut_moves _ _)).done
  · exact Moves.rfl.done

theorem execResend_moves (flags : Byte) (s : State) : Runs scan stop ends s (execResend flags s) := by
  have h : Moves scan stop ends s (if flags.getLsbD 0 then s.resend else s) := by
    split
    · rw [State.resend_eq]
      exact Move.unsentAgain.run.trans (State.drainNotices_moves _)
    · exact .rfl
  unfold execResend
  split
  · exact ((h.trans (State.setExchange_moves _ _)).trans (State.shiftOut_moves _ _)).done
  · exact Moves.rfl.done

theorem execGetSendingStep_moves (s : State) : Runs scan stop ends s (execGetSendingStep s) := by
  unfold execGetSendingStep
  split
  · exact (((s.shiftOut_moves _).trans (State.sendingStep_moves _)).trans (State.setExchange_moves _ _)).done
  · exact ((s.sendingStep_moves).trans (State.setExchange_moves _ _)).done
  · exact Moves.rfl.done

theorem execUnknownKindRequest_moves (s : State) : Runs scan stop ends s (execUnknownKindRequest s) := by
  unfold execUnknownKindRequest
  split
  · split
    · exact Moves.rfl.done
    · exact (Move.emptied.run.trans (State.refuseDispatch_moves _ _ _ _)).done
  · exact Moves.rfl.done

/-! ### Resets -/

theorem State.setPins_moves (s : State) (p : Pins) : Moves scan stop ends s { s with pins := p } :=
  .data (by constructor <;> intros <;> rfl)

theorem execPowerUp_moves (s : State) : Runs scan stop ends s (execPowerUp s) := by
  unfold execPowerUp
  split
  · exact Move.cleared.run.done
  · exact (Move.reset .power).run.done

theorem execResetNAssert_moves (s : State) : Runs scan stop ends s (execResetNAssert s) :=
  ((s.setPins_moves _).tail .cleared).done

theorem execResetNRelease_moves (s : State) : Runs scan stop ends s (execResetNRelease s) := by
  unfold execResetNRelease
  split
  · exact ((s.setPins_moves _).tail (.reset .pin)).done
  · exact Moves.rfl.done

/-! ### Dispatch -/

/-- A message that passes the checks of R142 was accepted. -/
theorem Accepted.of_status {s : State} {k : ReqKind} {tag : Byte} {body : List Byte}
    (hb : s.link.buffer = .held k.code tag body)
    (h : s.emptyBuffer.dispatchStatus k tag body = none) : Accepted s k tag body := by
  unfold State.dispatchStatus at h
  split at h
  · cases h
  · rename_i h1
    split at h
    · cases h
    · rename_i h2
      split at h
      · cases h
      · rename_i h3
        split at h
        · cases h
        · rename_i h4
          split at h
          · cases h
          · rename_i h5
            exact ⟨hb, h1, by simpa using h2, Bool.not_eq_true _ ▸ h3, Nat.not_le.mp h4, Nat.not_le.mp h5⟩

/-- A dispatch runs by moves where the block that takes an accepted request does. -/
theorem State.dispatch_moves (s : State) (k : ReqKind) (act : Byte → List Byte → State → State)
    (h : ∀ tag body, Accepted s k tag body →
      Moves scan stop ends s (act tag body (s.emptyBuffer.enterTable k tag))) :
    Runs scan stop ends s (Machine.done (s.dispatch k act)) := by
  apply Moves.done
  unfold State.dispatch
  split
  · rename_i kind tag body hb
    split
    · rename_i hk
      split
      · exact Move.emptied.run.trans (State.refuseDispatch_moves _ _ _ _)
      · rename_i hs
        exact h tag body (Accepted.of_status (hk ▸ hb) hs)
    · exact .rfl
  · exact .rfl

/-- The table has room for an accepted request. -/
theorem Accepted.room {s : State} {k : ReqKind} {tag : Byte} {body : List Byte} (h : Accepted s k tag body) :
    Room s.emptyBuffer tag := by
  obtain ⟨-, -, -, hf, ht, ho⟩ := h
  exact ⟨hf, ht, ho⟩

theorem State.withReply_moves (s : State) (k : ReqKind) (tag : Byte) (inline : List Byte)
    (h : s.link.occupancy < 32) : Moves scan stop ends s (s.withReply k tag inline []) :=
  Move.emptied.run.tail (.replied _ _ _ h)

section

variable {s : State} {k : ReqKind} {tag : Byte} {body : List Byte}

theorem Accepted.occupancy (h : Accepted s k tag body) : s.link.occupancy < 32 := by
  obtain ⟨-, -, -, -, -, ho⟩ := h
  exact ho

theorem Accepted.complete_moves (h : Accepted s k tag body) (inline : List Byte) :
    Moves scan stop ends s ((s.emptyBuffer.enterTable k tag).complete k tag inline []) := by
  rw [h.complete]
  exact s.withReply_moves k tag inline h.occupancy

theorem Accepted.refuse_moves (h : Accepted s k tag body) (st : Status) :
    Moves scan stop ends s ((s.emptyBuffer.enterTable k tag).refuse k tag st) :=
  h.complete_moves [st.code]

/-- An answer runs by moves where its effect does, and the effect leaves the link and the pool alone. -/
theorem Accepted.answer_moves (h : Accepted s k tag body) (content : List Byte) (e : State → State)
    (he : ∀ t : State, e (t.emptyBuffer.enterTable k tag) = (e t).emptyBuffer.enterTable k tag)
    (hl : ∀ t : State, (e t).link.table = t.link.table)
    (ho : ∀ t : State, (e t).link.occupancy = t.link.occupancy)
    (hc : ∀ (t : State) (c : Nat), e (t.claim .outbox c) = (e t).claim .outbox c)
    (hp : ∀ t : State, (e t).pool = t.pool) (hm : Moves scan stop ends s (e s)) :
    Moves scan stop ends s ((s.emptyBuffer.enterTable k tag).answer k tag content e) := by
  have hos : (e s).link.occupancy < 32 := by
    rw [ho]
    exact h.occupancy
  rw [h.answer content e he hl]
  unfold State.answered
  split
  · exact hm.trans (State.withReply_moves _ _ _ _ hos)
  · split
    · rename_i hok
      rw [hc]
      exact (hm.tail .emptied).tail (.repliedLong k.replyCode tag (0x00 :: content) hos
        (by rw [← hp s] at hok; exact hok))
    · exact s.withReply_moves k tag [0x08] h.occupancy

theorem Accepted.answerId_moves (h : Accepted s k tag body) (content : List Byte) :
    Moves scan stop ends s ((s.emptyBuffer.enterTable k tag).answer k tag content id) :=
  h.answer_moves content id (fun _ => Eq.refl _) (fun _ => Eq.refl _) (fun _ => Eq.refl _) (fun _ _ => Eq.refl _)
    (fun _ => Eq.refl _) .rfl

/-- A short answer runs by moves where its effect does, and the effect leaves the link alone. -/
theorem Accepted.answerInline_moves (h : Accepted s k tag body) (content : List Byte) (e : State → State)
    (he : ∀ t : State, e (t.emptyBuffer.enterTable k tag) = (e t).emptyBuffer.enterTable k tag)
    (hl : ∀ t : State, (e t).link.table = t.link.table)
    (ho : ∀ t : State, (e t).link.occupancy = t.link.occupancy)
    (hn : content.length ≤ 47) (hm : Moves scan stop ends s (e s)) :
    Moves scan stop ends s ((s.emptyBuffer.enterTable k tag).answer k tag content e) := by
  have hos : (e s).link.occupancy < 32 := by
    rw [ho]
    exact h.occupancy
  rw [h.answerInline content e he hl hn]
  exact hm.trans (State.withReply_moves _ _ _ _ hos)

end

end

end Sys2Proof.Machine
end

section
/-! The shared operations of the line, the queues and the classifier are runs of moves. -/

namespace Sys2Proof.Machine

section

variable {scan stop : Prop} {ends : State → Prop}

/-! ### What the shared operations do to the line -/

/-- A grant in GAP_WAIT is handed back: of the line the transmitter alone changes. -/
theorem State.notStarted_line (s : State) :
    s.notStarted.line = { s.line with
      transmitter := if s.line.transmitter.inGapWait then .idle else s.line.transmitter } := by
  unfold State.notStarted
  cases h : s.line.transmitter with
  | gapWait g =>
    obtain ⟨src, n, se⟩ := g
    cases src <;> rfl
  | _ =>
    simp only [Transmitter.inGapWait, Bool.false_eq_true, if_false]
    rw [← h]

/-- The close of an open slot: of the line the slot and, where a grant in GAP_WAIT lapses, the transmitter
change. -/
theorem State.closeSlot_line (s : State) :
    ∃ tr, s.closeSlot.line = { s.line with slot := .none, transmitter := tr } ∧
      (tr = s.line.transmitter ∨ tr = .idle) := by
  unfold State.closeSlot
  split
  · rename_i h
    exact ⟨_, by rw [← h], .inl rfl⟩
  · unfold State.closingReport
    split
    · exact ⟨_, rfl, .inl rfl⟩
    · dsimp only
      split
      · rw [State.notStarted_line, State.lateReply_line]
        refine ⟨_, rfl, ?_⟩
        dsimp only
        split
        · exact .inr rfl
        · exact .inl rfl
      · exact ⟨_, by rw [State.lateReply_line], .inl rfl⟩
  · exact ⟨_, rfl, .inl rfl⟩

@[simp] theorem State.closeSlot_line_mode (s : State) : s.closeSlot.line.mode = s.line.mode := by
  obtain ⟨tr, h, -⟩ := s.closeSlot_line
  rw [h]

@[simp] theorem State.closeSlot_line_resume (s : State) : s.closeSlot.line.resume = s.line.resume := by
  obtain ⟨tr, h, -⟩ := s.closeSlot_line
  rw [h]

@[simp] theorem State.closeSlot_line_own (s : State) : s.closeSlot.line.own = s.line.own := by
  obtain ⟨tr, h, -⟩ := s.closeSlot_line
  rw [h]

@[simp] theorem State.closeSlot_line_receiver (s : State) :
    s.closeSlot.line.receiver = s.line.receiver := by
  obtain ⟨tr, h, -⟩ := s.closeSlot_line
  rw [h]

@[simp] theorem State.closeSlot_line_slot (s : State) : s.closeSlot.line.slot = .none := by
  obtain ⟨tr, h, -⟩ := s.closeSlot_line
  rw [h]

@[simp] theorem State.closeSlot_line_lineStop (s : State) :
    s.closeSlot.line.lineStop = s.line.lineStop := by
  obtain ⟨tr, h, -⟩ := s.closeSlot_line
  rw [h]

@[simp] theorem State.closeSlot_line_lineSide (s : State) :
    s.closeSlot.line.lineSide = s.line.lineSide := by
  obtain ⟨tr, h, -⟩ := s.closeSlot_line
  rw [h]

/-- The close of a slot never starts the transmitter. -/
theorem State.closeSlot_transmitter (s : State) :
    s.closeSlot.line.transmitter = s.line.transmitter ∨ s.closeSlot.line.transmitter = .idle := by
  obtain ⟨tr, h, ht⟩ := s.closeSlot_line
  rw [h]
  exact ht

/-- The arbiter's choice: of the line the transmitter alone changes. -/
theorem State.choose_line (s : State) : ∃ tr, s.choose.line = { s.line with transmitter := tr } := by
  unfold State.choose
  split
  · split
    · exact ⟨_, rfl⟩
    · split <;> exact ⟨_, rfl⟩
  · exact ⟨_, rfl⟩
  · exact ⟨_, rfl⟩
  · exact ⟨_, rfl⟩

/-! ### The arbiter -/

theorem State.arbitrate_moves (s : State) : Moves scan stop ends s s.arbitrate := by
  unfold State.arbitrate
  split
  · rename_i hg
    have hm : s.line.mode = .active := by
      simp only [Line.mayGrant, Bool.and_eq_true, decide_eq_true_eq] at hg
      exact hg.1
    split
    · rename_i hi
      exact (Move.chosen hm hi).run
    · rename_i g ht
      split
      · exact Move.notStarted.run.tail
          (.chosen (by rw [State.notStarted_line]; exact hm)
            (by rw [State.notStarted_line, ht]; rfl))
      · exact .rfl
    · exact .rfl
  · exact .rfl

/-! ### The line mode -/

theorem State.changeMode_moves (s : State) (m : LineMode) (r : Option HearMode) (h : ModeMayBe s m r) :
    Moves scan stop ends s (s.changeMode m r) := by
  unfold State.changeMode
  dsimp only
  split
  · exact (Move.modeChanged m r h).run
  · exact (Move.modeChanged m r h).run.tail (.posted _)

theorem State.abandonReception_moves (s : State) : Moves scan stop ends s s.abandonReception :=
  (Move.frameDropped false .idle s.line.counters (.inl rfl) (by simp)).run

/-! ### The stopping sequence -/

theorem State.completeSend_queue (s : State) (e : SendEntry) (st : Status) (content : List Byte) :
    (s.completeSend e st content).sender.queue = s.sender.queue.eraseP (fun x => x.tag == e.tag) := by
  unfold State.completeSend
  simp

theorem State.abortSends_queue (es : List SendEntry) (s : State) (h : s.sender.queue = es) :
    (s.abortSends es).sender.queue = [] := by
  induction es generalizing s with
  | nil => exact h
  | cons e es ih =>
    unfold State.abortSends
    exact ih _ (by rw [State.completeSend_queue, h]; simp)

theorem State.abortSends_moves (es : List SendEntry) (s : State) (h : s.sender.queue = es)
    (hi : s.line.transmitter = .idle) : Moves scan stop ends s (s.abortSends es) := by
  induction es generalizing s with
  | nil => exact .rfl
  | cons e es ih =>
    unfold State.abortSends
    exact (Move.sendCompleted e _ _ (by simp [h]) (.inr hi)).run.trans
      (ih _ (by rw [State.completeSend_queue, h]; simp) (by simpa using hi))

theorem cellsOf_append (a b : List Record) : cellsOf (a ++ b) = cellsOf a + cellsOf b := by
  simp [cellsOf]

theorem State.emptyQueue_moves (s : State) (q : Fin 4) : Moves scan stop ends s (s.emptyQueue q) :=
  (Move.recordsRemoved q [] _ (List.nil_sublist _) (Nat.zero_add _)).run

theorem State.finishLineSide_moves (s : State) (r : LineSideReset) (h : s.line.lineSide = some r) :
    Moves scan stop ends s (s.finishLineSide r.tag) :=
  ((((((Move.commitApplied.run.tail .classificationEmptied).trans (State.emptyQueue_moves _ 0)).trans
    (State.emptyQueue_moves _ 1)).trans (State.emptyQueue_moves _ 2)).trans
    (State.emptyQueue_moves _ 3)).tail (.sideCompleted r (by simpa [State.emptyQueue] using h)))

theorem State.continueLineSide_moves (s : State) : Moves scan stop ends s s.continueLineSide := by
  unfold State.continueLineSide
  split
  · exact .rfl
  · rename_i r h
    split
    · exact s.finishLineSide_moves r h
    · exact .rfl

theorem State.toClassifier_moves (s : State) : Moves scan stop ends s s.toClassifier := by
  refine Moves.trans (.data ?_) (State.continueLineSide_moves _)
  constructor <;> intros
  case sideTag =>
    dsimp only
    cases s.line.lineSide <;> rfl
  all_goals rfl

theorem State.enterStopped_moves (s : State) (hi : s.line.transmitter = .idle)
    (hr : s.line.receiver = .idle) (hs : s.sender.queue = []) (hq : s.responder.queue = []) :
    Moves scan stop ends s s.enterStopped := by
  have ht : s.closeSlot.line.transmitter = .idle := by
    rcases s.closeSlot_transmitter with h | h
    · rw [h, hi]
    · exact h
  have hr' : ({ s.closeSlot.line with receiver := .idle } : Line) = s.closeSlot.line := by
    rw [← hr, ← State.closeSlot_line_receiver]
  have hq' : s.closeSlot.responder.queue = [] := by
    unfold State.closeSlot State.closingReport
    split <;> simp [hq]
  have hs' : s.closeSlot.sender.queue = [] := by
    unfold State.closeSlot State.closingReport
    split <;> simp [hq, hs]
  unfold State.enterStopped
  dsimp only
  rw [hr']
  refine Move.slotClosed.run.trans (State.changeMode_moves _ _ _ ?_)
  constructor
  · exact fun _ h => absurd ht h
  · exact fun _ _ => ⟨by rw [State.closeSlot_line_receiver, hr], State.closeSlot_line_slot s⟩
  · simp
  · simp
  · exact fun _ => ⟨hs', hq'⟩

/-- Nothing waits to be sent. -/
def State.NothingToSend (s : State) : Prop := s.sender.queue = [] ∧ s.responder.queue = []

/-- Steps 2 to 4 leave nothing that waits to be sent, and the sequence goes on from there (R22). -/
theorem State.finishStopping_split {stop' : Prop} (s : State) (hi : s.line.transmitter = .idle) :
    ∃ u, Moves scan stop ends s u ∧ u.line.transmitter = .idle ∧ u.line.receiver = .idle ∧
      u.NothingToSend ∧ Moves scan stop' ends u s.finishStopping := by
  have h1 : s.abandonReception.line.transmitter = .idle := hi
  have h2 := State.abortSends_moves (scan := scan) (stop := stop) (ends := ends)
    s.abandonReception.sender.queue s.abandonReception rfl h1
  have h3 := State.abortSends_queue s.abandonReception.sender.queue s.abandonReception rfl
  have h4 : (s.abandonReception.abortSends s.abandonReception.sender.queue).line =
      s.abandonReception.line := by simp
  have hti : (s.abandonReception.abortSends s.abandonReception.sender.queue).discardReplies.line.transmitter =
      .idle := by rw [State.discardReplies_line, h4, h1]
  have hri : (s.abandonReception.abortSends s.abandonReception.sender.queue).discardReplies.line.receiver =
      .idle := by
    rw [State.discardReplies_line, h4]
    rfl
  have hse : (s.abandonReception.abortSends s.abandonReception.sender.queue).discardReplies.sender.queue =
      [] := by rw [State.discardReplies_sender, h3]
  refine ⟨_, (s.abandonReception_moves.trans h2).tail (.repliesDiscarded (by rw [h4, h1])), hti, hri, ⟨hse, rfl⟩,
    ?_⟩
  exact ((State.enterStopped_moves _ hti hri hse rfl).tail .lineStopCompleted).trans
    (State.toClassifier_moves _)

theorem State.finishStopping_moves (s : State) (hi : s.line.transmitter = .idle) :
    Moves scan stop ends s s.finishStopping := by
  obtain ⟨u, h1, -, -, -, h2⟩ := s.finishStopping_split (stop' := stop) hi
  exact h1.trans h2

/-- A command that ends in a stopping sequence comes, by moves, to a state with nothing to be sent, and goes on from
there. -/
def Halts (scan stop stop' : Prop) (ends : State → Prop) (s : State) (o : Host.Outcome State Fault Refusal) :
    Prop :=
  ∃ u v, o = done v ∧ Moves scan stop ends s u ∧ u.line.transmitter = .idle ∧ u.line.receiver = .idle ∧
    u.NothingToSend ∧ Moves scan stop' ends u v

theorem Halts.runs {s : State} {o : Host.Outcome State Fault Refusal} (h : Halts scan stop stop ends s o) :
    Runs scan stop ends s o := by
  obtain ⟨u, v, ho, h1, -, -, -, h2⟩ := h
  exact ⟨v, ho, h1.trans h2⟩

/-- A run to a stopping sequence halts. -/
theorem Moves.halts {stop' : Prop} {s u : State} (h : Moves scan stop ends s u)
    (hi : u.line.transmitter = .idle) : Halts scan stop stop' ends s (Machine.done u.finishStopping) := by
  obtain ⟨w, h1, h2, h3, h4, h5⟩ := u.finishStopping_split (scan := scan) (stop := stop) (ends := ends)
    (stop' := stop') hi
  exact ⟨w, _, Eq.refl _, h.trans h1, h2, h3, h4, h5⟩

theorem State.beginStopping_moves (s : State) : Moves scan stop ends s s.beginStopping := by
  unfold State.beginStopping
  split
  · rename_i h
    exact (Move.jammed _ _ _ _ h).run
  · exact .rfl
  · rename_i h
    exact Move.notStarted.run.trans (State.finishStopping_moves _ (by rw [State.notStarted_line, h]; rfl))
  · rename_i h
    exact s.finishStopping_moves h

/-! ### The delivery queues -/

theorem State.setQueueCounters_same (s : State) (q : Fin 4) (c : QueueCounters) :
    SameData s (s.setQueueCounters q c) := by
  constructor <;> intros <;> try rfl
  all_goals
    rename_i q'
    by_cases h : q = q'
    · subst h
      simp [State.setQueueCounters, State.setQueue]
    · simp [State.setQueueCounters, State.setQueue, Fin.val_inj, h]

theorem State.setQueueCounters_moves (s : State) (q : Fin 4) (c : QueueCounters) :
    Moves scan stop ends s (s.setQueueCounters q c) := .data (s.setQueueCounters_same q c)

theorem cellsOf_filter (p : Record → Bool) (rs : List Record) :
    cellsOf (rs.filter (fun r => !p r)) + cellsOf (rs.filter p) = cellsOf rs := by
  induction rs with
  | nil => rfl
  | cons r rs ih =>
    simp only [cellsOf, List.filter_cons] at *
    cases p r <;> simp <;> omega

theorem State.expire_moves (s : State) (q : Fin 4) (p : Record → Bool) :
    Moves scan stop ends s (s.expire q p) :=
  (Move.recordsRemoved q _ _ List.filter_sublist (cellsOf_filter p _)).run.trans
    (State.setQueueCounters_moves _ _ _)

theorem State.discard_moves (s : State) (q : Fin 4) (n : Nat) : Moves scan stop ends s (s.discard q n) :=
  (Move.recordsRemoved q _ _ (List.drop_sublist n _)
    (by rw [Nat.add_comm, ← cellsOf_append, List.take_append_drop])).run.trans
    (State.setQueueCounters_moves _ _ _)

/-- DROP_OLDEST ends where the record fits or the queue is empty (R80). -/
theorem State.dropToFit_quietly (q : Fin 4) (c : Nat) (rs : List Record) (s : State)
    (h : s.queues[q].records = rs) :
    Quietly s (State.dropToFit q c rs s) ∧
      ((State.dropToFit q c rs s).fits q c = true ∨ (State.dropToFit q c rs s).queues[q].records = []) := by
  induction rs generalizing s with
  | nil => exact ⟨.rfl, .inr h⟩
  | cons r rs ih =>
    unfold State.dropToFit
    split
    · rename_i hf
      exact ⟨.rfl, .inl hf⟩
    · obtain ⟨h1, h2⟩ := ih ((s.removeRecords q rs [r]).setQueueCounters q
        { (s.removeRecords q rs [r]).queues[q].counters with
          overflowOld := bump (s.removeRecords q rs [r]).queues[q].counters.overflowOld })
        (by simp [State.setQueueCounters, State.setQueue, State.removeRecords, State.release])
      refine ⟨((Quiet.recordsRemoved q rs [r] ?_ ?_).run.tail
        (.data (State.setQueueCounters_same _ _ _))).trans h1, h2⟩
      · rw [h]
        exact List.sublist_cons_self r rs
      · rw [h, Nat.add_comm, ← cellsOf_append]
        rfl

theorem State.announce_quietly (s : State) (q : Fin 4) (before : Nat) :
    Quietly s (s.announce q before) := by
  have h : ∀ b : Prop, ∀ [Decidable b], ∀ n, Quietly s (if b then s.post n else s) := by
    intro b _ n
    split
    · exact (Quiet.posted n).run
    · exact .rfl
  unfold State.announce
  dsimp only
  split
  · split
    · exact ((h _ _).tail (.posted _)).tail (.gave _)
    · exact (h _ _).tail (.posted _)
  · exact h _ _

/-- An arrival makes room, gives the frame on once, and announces it (R78 to R82). -/
theorem State.arrive_split (s : State) (q : Fin 4) (r : Record) (m : Waiting) (hf : r.frame = m.frame)
    (hi : r.id = m.id) :
    ∃ u v, Quietly s u ∧ Delivered m u v ∧ Quietly v (s.arrive q r) := by
  have refused : ∀ c, ∃ u v, Quietly s u ∧ Delivered m u v ∧ Quietly v (s.refuseRecord q r c) := by
    intro c
    refine ⟨_, _, (Quiet.data (s.setQueueCounters_same q c)).run, .released, ?_⟩
    rw [← hf]
    exact .rfl
  unfold State.arrive
  dsimp only
  split
  · exact refused _
  · split
    · exact refused _
    · split
      · rename_i hfit
        obtain ⟨hd, -⟩ := (s.fits_iff q _).mp hfit
        exact ⟨s, _, .rfl, .accepted q r hf hi (.inl hd), State.announce_quietly _ _ _⟩
      · split
        · obtain ⟨h1, h2⟩ := State.dropToFit_quietly q r.frame.cells s.queues[q].records s rfl
          refine ⟨_, _, h1, .accepted q r hf hi ?_, State.announce_quietly _ _ _⟩
          rcases h2 with h2 | h2
          · exact .inl ((State.fits_iff _ _ _).mp h2).1
          · exact .inr h2
        · exact refused _

/-! ### The slots, the responder and the classifier -/

theorem State.setSlot_same (s : State) (n : Fin 16) (v : Slot) : SameData s (s.setSlot n v) := by
  constructor <;> intros <;> rfl

theorem State.setSlot_moves (s : State) (n : Fin 16) (v : Slot) : Moves scan stop ends s (s.setSlot n v) :=
  .data (s.setSlot_same n v)

theorem State.lineWrite_quietly (s : State) (n : Fin 16) (data : List Byte) (entry : Fin 32) (src : Half) :
    Quietly s (s.lineWrite n data entry src) := by
  have h : ∀ (b : Bool) (t : State) (m), Quietly t (if b then t.post m else t) := by
    intro b t m
    split
    · exact (Quiet.posted m).run
    · exact .rfl
  unfold State.lineWrite
  dsimp only
  split
  · exact ((Quiet.data (s.setSlot_same n _)).run.trans (h _ _ _)).tail (.gave _)
  · exact (Quiet.data (s.setSlot_same n _)).run.trans (h _ _ _)

theorem State.setClassifierCounters_same (s : State) (c : ClassifierCounters) :
    SameData s (s.setClassifierCounters c) := by
  constructor <;> intros <;> rfl

theorem State.setClassifierCounters_moves (s : State) (c : ClassifierCounters) :
    Moves scan stop ends s (s.setClassifierCounters c) := .data (s.setClassifierCounters_same c)

theorem State.captureStage_quietly (f : Frame) (cs : List (Fin 32 × Capture)) (s : State) :
    Quietly s (s.captureStage f cs).1 := by
  induction cs generalizing s with
  | nil => exact .rfl
  | cons c cs ih =>
    obtain ⟨i, c⟩ := c
    unfold State.captureStage
    split
    · exact (s.lineWrite_quietly _ _ _ _).trans (ih _)
    · exact (Quiet.data (s.setClassifierCounters_same _)).run.trans (ih _)

theorem State.setReplyCounters_same (s : State) (c : ResponderCounters) :
    SameData s (s.setReplyCounters c) := by
  constructor <;> intros <;> rfl

theorem State.setReplyCounters_moves (s : State) (c : ResponderCounters) :
    Moves scan stop ends s (s.setReplyCounters c) := .data (s.setReplyCounters_same c)

/-- A build places its reply in the frame's own slot while that is open, and in none otherwise (R112, R113). -/
theorem State.build_split (s : State) (n : Fin 16) (m : Waiting) (hm : s.line.mode = .active) :
    ∃ a, Quietly s a ∧ Answered m a (s.build n m.frame m.frameEnd).1 := by
  have counted : ∀ c, ∃ a, Quietly s a ∧ Answered m a (s.setReplyCounters c) :=
    fun c => ⟨_, (Quiet.data (s.setReplyCounters_same c)).run, .nothing⟩
  unfold State.build
  dsimp only
  split
  · exact counted _
  · rename_i hq
    have hq' : s.responder.queue.length < 4 := Nat.not_le.mp hq
    split
    · exact counted _
    · split
      · exact counted _
      · split
        · split
          · rename_i hs
            exact ⟨s, .rfl, .placed _ _ _ hq' hm (.inr ⟨rfl, hs⟩)⟩
          · split
            · exact counted _
            · exact ⟨_, (Quiet.data (s.setReplyCounters_same _)).run, .placed _ _ _ hq' hm (.inl rfl)⟩
        · exact ⟨s, .rfl, .placed _ _ _ hq' hm (.inl rfl)⟩

theorem State.answerStage_split (s : State) (a : Option (Fin 16)) (m : Waiting) :
    ∃ u, Quietly s u ∧ Answered m u (s.answerStage a m).1 := by
  unfold State.answerStage
  split
  · exact ⟨s, .rfl, .nothing⟩
  · split
    · rename_i h
      exact s.build_split _ _ h.1
    · exact ⟨_, (Quiet.data (s.setClassifierCounters_same _)).run, .nothing⟩

theorem State.deliverStage_split (s : State) (v : Verdict) (e : Evaluation) (answered captured : Bool) :
    ∃ c d, Quietly s c ∧ Delivered e.member c d ∧ Quietly d (s.deliverStage v e answered captured) := by
  unfold State.deliverStage
  split
  · exact ⟨s, _, .rfl, .released, .rfl⟩
  · exact s.arrive_split _ _ _ rfl rfl

/-- The stages of a verdict place at most one reply to the frame and give the frame on once (R66 to R69). -/
theorem State.carryOut_split (s : State) (v : Verdict) (e : Evaluation) :
    ∃ a b c d, Quietly s a ∧ Answered e.member a b ∧ Quietly b c ∧ Delivered e.member c d ∧
      Quietly d (s.carryOut v e) := by
  obtain ⟨a, ha, hb⟩ := State.answerStage_split (s.captureStage e.member.frame v.captures).1 v.answer e.member
  obtain ⟨c, d, hc, hd, hu⟩ := State.deliverStage_split
    ((s.captureStage e.member.frame v.captures).1.answerStage v.answer e.member).1 v e
    ((s.captureStage e.member.frame v.captures).1.answerStage v.answer e.member).2
    (s.captureStage e.member.frame v.captures).2
  refine ⟨a, _, c, d, (State.captureStage_quietly _ _ _).trans ha, hb, hc, hd, ?_⟩
  unfold State.carryOut
  dsimp only
  split
  · exact hu.tail (.gave _)
  · exact hu

theorem State.carryOut_moves (hscan : scan) (s : State) (v : Verdict) (e : Evaluation) :
    Moves scan stop ends s (s.carryOut v e) := by
  obtain ⟨a, b, c, d, ha, hb, hc, hd, hu⟩ := s.carryOut_split v e
  exact (((ha.moves.trans (hb.moves hscan)).trans hc.moves).trans (hd.moves hscan)).trans hu.moves

@[simp] theorem State.applyCommit_waiting (s : State) :
    s.applyCommit.classifier.queue = s.classifier.queue := by
  unfold State.applyCommit
  split
  · rfl
  · split <;> simp

@[simp] theorem State.applyCommit_eval (s : State) : s.applyCommit.classifier.eval = s.classifier.eval := by
  unfold State.applyCommit
  split
  · rfl
  · split <;> simp

theorem State.startEvaluation_moves (s : State) : Moves scan stop ends s s.startEvaluation := by
  unfold State.startEvaluation
  split
  · exact .rfl
  · rename_i hn
    split
    · exact .rfl
    · rename_i w ws hq
      refine Move.commitApplied.run.tail (.evaluationBegun w ws _ _ _ ?_ ?_)
      · cases he : s.classifier.eval
        · rw [State.applyCommit_eval, he]
        · simp [he] at hn
      · rw [State.applyCommit_waiting, hq]

/-! ### Reception -/

theorem State.setLineGap_moves (s : State) (p : Nat) : Moves scan stop ends s (s.setLineGap p) :=
  .data (by constructor <;> intros <;> rfl)

theorem State.receiveByte_moves (s : State) (b : Byte) : Moves scan stop ends s (s.receiveByte b) := by
  unfold State.receiveByte
  split
  · rename_i bs hr
    split
    · exact .rfl
    · split
      · exact (Move.frameDropped false .discarding _ (.inr ⟨rfl, bs, hr⟩) (by simp)).run
      · rename_i hok
        have hp : needsCell bs = true → s.pool.ordinaryOk 1 = true := by
          intro hn
          simpa [hn] using hok
        dsimp only
        split
        · exact (Move.frameDropped (needsCell bs) .discarding _ (.inr ⟨rfl, bs, hr⟩) hp).run
        · exact (Move.bytePlaced bs b hr hp).run
  · exact .rfl

theorem State.receiveBytes_moves (s : State) (bs : List Byte) :
    Moves scan stop ends s (s.receiveBytes bs) := by
  have h : ∀ (bs : List Byte) (s : State), Moves scan stop ends s (bs.foldl State.receiveByte s) := by
    intro bs
    induction bs with
    | nil => exact fun _ => .rfl
    | cons b bs ih => exact fun s => (s.receiveByte_moves b).trans (ih _)
  unfold State.receiveBytes
  split
  · exact (s.setLineGap_moves _).trans (h bs _)
  · exact .rfl

theorem State.dropFrame_moves (s : State) (after : Receiver) (c : LineCounters) (bs : List Byte)
    (hr : s.line.receiver = .receiving bs) (ha : after = .idle ∨ after = .discarding) :
    Moves scan stop ends s (s.dropFrame after c) :=
  (Move.frameDropped false after c (ha.imp id (fun h => ⟨h, bs, hr⟩)) (by simp)).run

end

end Sys2Proof.Machine
end

section
/-! Every request is a run of moves. -/

namespace Sys2Proof.Machine

section

variable {scan stop : Prop} {ends : State → Prop}

/-! ### The link's own requests -/

theorem execIdentify_moves (s : State) : Runs scan stop ends s (execIdentify s) := by
  refine s.dispatch_moves _ _ fun tag body h => ?_
  split
  · exact h.refuse_moves _
  · rename_i clear _
    cases clear
    · exact h.answerId_moves _
    · exact h.answer_moves _ (fun u => u.setLinkCounters _) (fun _ => rfl) (fun _ => rfl) (fun _ => rfl)
        (fun _ _ => rfl) (fun _ => rfl) (s.setLinkCounters_moves _)

theorem execEcho_moves (s : State) : Runs scan stop ends s (execEcho s) :=
  s.dispatch_moves _ _ fun _ _ h => h.answerId_moves _

theorem execTimeRead_moves (s : State) : Runs scan stop ends s (execTimeRead s) :=
  s.dispatch_moves _ _ fun _ _ h => h.answerId_moves _

theorem execResetPart_moves (s : State) : Runs scan stop ends s (execResetPart s) := by
  unfold execResetPart
  split
  · exact Moves.rfl.done
  · refine s.dispatch_moves _ _ fun tag body h => ?_
    split
    · exact (Move.reset .request).run
    · exact h.refuse_moves _

/-! ### The line and pool requests -/

theorem execLineSetup_moves (s : State) : Runs scan stop ends s (execLineSetup s) := by
  refine s.dispatch_moves _ _ fun tag body h => ?_
  dsimp only
  split
  · exact h.refuse_moves _
  · split
    · exact h.refuse_moves _
    · exact h.answer_moves _ _ (fun _ => rfl) (fun _ => rfl) (fun _ => rfl) (fun _ _ => rfl) (fun _ => rfl)
        (.data (by constructor <;> intros <;> rfl))

theorem execAddressSet_moves (s : State) : Runs scan stop ends s (execAddressSet s) := by
  refine s.dispatch_moves _ _ fun tag body h => ?_
  dsimp only
  split
  · exact h.refuse_moves _
  · split
    · exact h.refuse_moves _
    · split
      · exact h.refuse_moves _
      · split
        · exact h.refuse_moves _
        · rename_i hn
          refine h.answer_moves _ _ (fun _ => rfl) (fun _ => rfl) (fun _ => rfl) (fun _ _ => rfl)
            (fun _ => rfl) (Move.ownChanged _ _ ?_).run
          intro ho
          by_contra hc
          exact hn ⟨ho, Bool.not_eq_false _ ▸ hc⟩

/-- A hearing mode may be taken from one that hears or from FAULTED. -/
theorem modeMayBe_hears {s : State} (m : HearMode)
    (hd : s.line.mode = .active → s.line.transmitter ≠ .idle → m = .active)
    (ho : m = .active → s.line.own ≠ []) : ModeMayBe s m.mode none := by
  cases m <;> constructor <;> simp_all [HearMode.mode]

theorem State.startLine_moves (s : State) (m : HearMode) (ho : m = .active → s.line.own ≠ [])
    (hd : m = .listening → s.line.mode = .active → s.line.transmitter.drives = false) :
    Moves scan stop ends s (s.startLine m) := by
  unfold State.startLine
  split
  · rename_i hm
    refine Moves.trans ?_ (State.arbitrate_moves _)
    unfold State.changeMode
    dsimp only
    split
    · exact (Move.lineStarted m _ _ _ hm ho).run
    · exact (Move.lineStarted m _ _ _ hm ho).run.tail (.posted _)
  · rename_i hm
    exact (Move.resumeChanged m hm ho).run
  · rename_i hm
    exact (State.changeMode_moves _ _ _ (modeMayBe_hears m (fun ha => by simp [hm] at ha) ho)).trans
      (State.arbitrate_moves _)
  · rename_i hm
    split
    · exact .rfl
    · refine Move.notStarted.run.trans (State.changeMode_moves _ _ _
        (modeMayBe_hears .listening (fun _ ht => absurd ?_ ht) (by simp)))
      have hd := hd rfl hm
      rw [State.notStarted_line]
      cases ht : s.line.transmitter <;> simp_all [Transmitter.inGapWait, Transmitter.drives]

theorem execLineStart_moves (s : State) : Runs scan stop ends s (execLineStart s) := by
  refine s.dispatch_moves _ _ fun tag body h => ?_
  split
  · exact h.refuse_moves _
  · rename_i m _
    split
    · exact h.refuse_moves _
    · split
      · exact h.refuse_moves _
      · rename_i hn
        split
        · exact h.refuse_moves _
        · rename_i hd
          refine (h.answerId_moves []).trans (State.startLine_moves _ m ?_ ?_) <;>
            rw [h.answerInline [] id (fun _ => rfl) (fun _ => rfl) (Nat.zero_le _)]
          · intro hm ho
            exact hn ⟨hm, by simpa [State.withReply] using ho⟩
          · intro hm ha
            by_contra hc
            simp only [State.withReply, State.append_line, id, Bool.not_eq_false] at ha hc
            exact hd ⟨hm, ha, hc⟩

theorem execLineStatus_moves (s : State) : Runs scan stop ends s (execLineStatus s) :=
  s.dispatch_moves _ _ fun _ _ h => h.answerId_moves _

theorem execLineCounters_moves (s : State) : Runs scan stop ends s (execLineCounters s) := by
  refine s.dispatch_moves _ _ fun tag body h => ?_
  split
  · exact h.refuse_moves _
  · rename_i clear _
    cases clear
    · exact h.answerId_moves _
    · exact h.answer_moves _ (fun u => u.setLineCounters _) (fun _ => rfl) (fun _ => rfl) (fun _ => rfl)
        (fun _ _ => rfl) (fun _ => rfl) (.data (by constructor <;> intros <;> rfl))

theorem execLineStop_moves (s : State) : Runs scan stop ends s (execLineStop s) := by
  refine s.dispatch_moves _ _ fun tag body h => ?_
  dsimp only
  split
  · exact h.refuse_moves _
  · rename_i hn
    split
    · exact h.answerId_moves _
    · refine (Move.emptied.run.tail (.enteredStop tag h.room ?_)).trans (State.beginStopping_moves _)
      cases hl : s.line.lineStop with
      | none => exact hl
      | some t => exact absurd (by simp [Line.stoppingOrReset, State.enterTable, State.emptyBuffer, hl]) hn

theorem Accepted.resetLineSide_moves {s : State} {tag : Byte} {body : List Byte}
    (h : Accepted s .reset tag body) :
    Moves scan stop ends s ((s.emptyBuffer.enterTable .reset tag).resetLineSide tag) := by
  unfold State.resetLineSide
  dsimp only
  split
  · exact h.refuse_moves _
  · rename_i hn
    have hm := Move.emptied.run.tail (.enteredSide (scan := scan) (stop := stop) (ends := ends) tag h.room
      (by
        cases hl : s.line.lineSide with
        | none => exact hl
        | some t => exact absurd (by simp [State.enterTable, State.emptyBuffer, hl]) hn))
    split
    · exact hm
    · exact hm.trans (State.beginStopping_moves _)

theorem execResetLineSide_moves (s : State) : Runs scan stop ends s (execResetLineSide s) := by
  unfold execResetLineSide
  split
  · exact Moves.rfl.done
  · refine s.dispatch_moves _ _ fun tag body h => ?_
    split
    · exact h.resetLineSide_moves
    · exact h.refuse_moves _

theorem execPoolStatus_moves (s : State) : Runs scan stop ends s (execPoolStatus s) :=
  s.dispatch_moves _ _ fun _ _ h => h.answerInline_moves _ _ (fun _ => rfl) (fun _ => rfl) (fun _ => rfl)
    (by simp [Pool.statusContent]) (.data (by constructor <;> intros <;> rfl))

theorem execPoolSetup_moves (s : State) : Runs scan stop ends s (execPoolSetup s) := by
  refine s.dispatch_moves _ _ fun tag body h => ?_
  dsimp only
  split
  · exact h.refuse_moves _
  · exact h.answerInline_moves _ _ (fun _ => rfl) (fun _ => rfl) (fun _ => rfl) (Nat.zero_le _)
      (.data (by constructor <;> intros <;> rfl))

/-! ### The sieve and classifier requests -/

theorem Accepted.edit_moves {s : State} {k : ReqKind} {tag : Byte} {body : List Byte}
    (h : Accepted s k tag body) (b : Bank) (content : List Byte) :
    Moves scan stop ends s ((s.emptyBuffer.enterTable k tag).edit k tag b content) := by
  unfold State.edit
  split
  · exact h.refuse_moves _
  · exact h.answer_moves _ _ (fun _ => rfl) (fun _ => rfl) (fun _ => rfl) (fun _ _ => rfl) (fun _ => rfl)
      (.data (by constructor <;> intros <;> rfl))

theorem execSievePut_moves (s : State) : Runs scan stop ends s (execSievePut s) := by
  refine s.dispatch_moves _ _ fun tag body h => ?_
  dsimp only
  split
  · exact h.refuse_moves _
  · split
    · exact h.edit_moves _ _
    · exact h.refuse_moves _

theorem execSieveGet_moves (s : State) : Runs scan stop ends s (execSieveGet s) := by
  refine s.dispatch_moves _ _ fun tag body h => ?_
  split
  · exact h.answerId_moves _
  · exact h.refuse_moves _

theorem execSieveClear_moves (s : State) : Runs scan stop ends s (execSieveClear s) := by
  refine s.dispatch_moves _ _ fun tag body h => ?_
  dsimp only
  split
  · exact h.edit_moves _ _
  · exact h.edit_moves _ _
  · exact h.refuse_moves _

theorem execSieveCopy_moves (s : State) : Runs scan stop ends s (execSieveCopy s) :=
  s.dispatch_moves _ _ fun _ _ h => h.edit_moves _ _

theorem execSieveDefault_moves (s : State) : Runs scan stop ends s (execSieveDefault s) := by
  refine s.dispatch_moves _ _ fun tag body h => ?_
  dsimp only
  split
  · exact h.edit_moves _ _
  · exact h.refuse_moves _

theorem execSieveCommit_moves (s : State) : Runs scan stop ends s (execSieveCommit s) := by
  refine s.dispatch_moves _ _ fun tag body h => ?_
  dsimp only
  split
  · exact h.refuse_moves _
  · rename_i hn
    have hm := Move.emptied.run.tail (.enteredCommit (scan := scan) (stop := stop) (ends := ends) tag h.room
      (by
        cases hl : s.sieve.commit with
        | none => exact hl
        | some t => exact absurd (by simp [State.enterTable, State.emptyBuffer, hl]) hn))
    split
    · exact hm.tail .commitApplied
    · exact hm

theorem execHitsRead_moves (s : State) : Runs scan stop ends s (execHitsRead s) := by
  refine s.dispatch_moves _ _ fun tag body h => ?_
  split
  · exact h.refuse_moves _
  · exact h.answerId_moves _

/-- Clearing the hit counters changes nothing that a law reads. -/
theorem State.clearHits_moves (s : State) (first count : Nat) (o : Bool) :
    Moves scan stop ends s (s.clearHits first count o) := by
  refine .data ?_
  unfold State.clearHits
  constructor <;> intros <;> rfl

theorem execHitsClear_moves (s : State) : Runs scan stop ends s (execHitsClear s) := by
  refine s.dispatch_moves _ _ fun tag body h => ?_
  split
  · exact h.refuse_moves _
  · refine h.answer_moves _ (fun u => u.clearHits _ _ _) ?_ ?_ ?_ ?_ ?_ (s.clearHits_moves _ _ _) <;>
      intros <;> unfold State.clearHits <;> rfl

theorem execClassifyStatus_moves (s : State) : Runs scan stop ends s (execClassifyStatus s) := by
  refine s.dispatch_moves _ _ fun tag body h => ?_
  split
  · exact h.refuse_moves _
  · rename_i clear _
    cases clear
    · exact h.answerId_moves _
    · exact h.answer_moves _ (fun u => u.setClassifierCounters _) (fun _ => rfl) (fun _ => rfl)
        (fun _ => rfl) (fun _ _ => rfl) (fun _ => rfl) (s.setClassifierCounters_moves _)

/-! ### The queue requests -/

theorem queueSettings?_depth {bs : List Byte} {c : QueueSettings} (h : queueSettings? bs = some c) :
    1 ≤ c.depth ∧ c.depth ≤ 64 := by
  simp only [queueSettings?, Option.bind_eq_bind, Option.bind_eq_some_iff] at h
  obtain ⟨_, _, _, _, _, _, h⟩ := h
  split at h
  · rename_i hd
    cases h
    exact ⟨hd.1, hd.2.1⟩
  · cases h

theorem execQueueSetup_moves (s : State) : Runs scan stop ends s (execQueueSetup s) := by
  refine s.dispatch_moves _ _ fun tag body h => ?_
  dsimp only
  split
  · rename_i q c hq hc
    have hm := (Move.settingsChanged (scan := scan) (stop := stop) (ends := ends) (s := s) q c
      (queueSettings?_depth hc)).run.trans (State.expire_moves _ q (fun r => r.agedOut c.age s.line.timebase))
    refine hm.trans (Accepted.answerId_moves (h.of_link_eq ?_) [])
    simp
  · exact h.refuse_moves _

theorem execQueueStatus_moves (s : State) : Runs scan stop ends s (execQueueStatus s) := by
  refine s.dispatch_moves _ _ fun tag body h => ?_
  split
  · rename_i q clear _ _
    cases clear
    · exact h.answerId_moves _
    · exact h.answer_moves _ (fun u => u.setQueueCounters q _) (fun _ => rfl) (fun _ => rfl)
        (fun _ => rfl) (fun _ _ => rfl) (fun _ => rfl) (s.setQueueCounters_moves _ _)
  · exact h.refuse_moves _

theorem execFramePeek_moves (s : State) : Runs scan stop ends s (execFramePeek s) := by
  refine s.dispatch_moves _ _ fun tag body h => ?_
  split
  · exact h.refuse_moves _
  · split
    · exact h.complete_moves _
    · exact h.answerId_moves _

theorem execFrameTake_moves (s : State) : Runs scan stop ends s (execFrameTake s) := by
  refine s.dispatch_moves _ _ fun tag body h => ?_
  dsimp only
  split
  · exact h.refuse_moves _
  · rename_i q _
    split
    · exact h.complete_moves _
    · rename_i r rest hr
      have hr' : s.queues[q].records = r :: rest := hr
      have h' : Accepted ((s.setQueue q { s.queues[q] with
          records := rest
          counters := { s.queues[q].counters with
            taken := bump s.queues[q].counters.taken } }).moveCells (.queue q) .outbox r.frame.cells)
          .frameTake tag body := h.of_link_eq rfl
      have hc := h'.complete (Status.done.code :: r.bytes q rest.length s.line.timebase) r.frame.bytes
      refine Eq.subst (motive := fun t => Moves scan stop ends s t) hc.symm ?_
      exact Move.emptied.run.tail (.handedOver (s := s.emptyBuffer) q r rest _ _ _ _ h.occupancy hr')

theorem execFrameDiscard_moves (s : State) : Runs scan stop ends s (execFrameDiscard s) := by
  refine s.dispatch_moves _ _ fun tag body h => ?_
  dsimp only
  split
  · exact h.refuse_moves _
  · rename_i q _
    split
    · exact (s.discard_moves q _).trans (Accepted.answerId_moves (h.of_link_eq (by simp)) _)
    · exact h.refuse_moves _

theorem execQueueFlush_moves (s : State) : Runs scan stop ends s (execQueueFlush s) := by
  refine s.dispatch_moves _ _ fun tag body h => ?_
  dsimp only
  split
  · exact h.refuse_moves _
  · rename_i q _
    exact (s.discard_moves q _).trans (Accepted.answerId_moves (h.of_link_eq (by simp)) _)

/-! ### The slot and template requests -/

theorem execSlotRead_moves (s : State) : Runs scan stop ends s (execSlotRead s) := by
  refine s.dispatch_moves _ _ fun tag body h => ?_
  dsimp only
  split
  · exact h.refuse_moves _
  · exact h.answer_moves _ _ (fun _ => rfl) (fun _ => rfl) (fun _ => rfl) (fun _ _ => rfl) (fun _ => rfl)
      (s.setSlot_moves _ _)

theorem execSlotWrite_moves (s : State) : Runs scan stop ends s (execSlotWrite s) := by
  refine s.dispatch_moves _ _ fun tag body h => ?_
  split
  · exact h.refuse_moves _
  · split
    · exact h.refuse_moves _
    · split
      · exact h.refuse_moves _
      · exact h.answer_moves _ _ (fun _ => rfl) (fun _ => rfl) (fun _ => rfl) (fun _ _ => rfl)
          (fun _ => rfl) (s.setSlot_moves _ _)

theorem execSlotClear_moves (s : State) : Runs scan stop ends s (execSlotClear s) := by
  refine s.dispatch_moves _ _ fun tag body h => ?_
  split
  · exact h.answer_moves _ _ (fun _ => rfl) (fun _ => rfl) (fun _ => rfl) (fun _ _ => rfl) (fun _ => rfl)
      (s.setSlot_moves _ _)
  · exact h.answer_moves _ _ (fun _ => rfl) (fun _ => rfl) (fun _ => rfl) (fun _ _ => rfl) (fun _ => rfl)
      (.data (by constructor <;> intros <;> rfl))
  · exact h.refuse_moves _

theorem execSlotSetup_moves (s : State) : Runs scan stop ends s (execSlotSetup s) := by
  refine s.dispatch_moves _ _ fun tag body h => ?_
  dsimp only
  split
  · exact h.answer_moves _ _ (fun _ => rfl) (fun _ => rfl) (fun _ => rfl) (fun _ _ => rfl) (fun _ => rfl)
      (s.setSlot_moves _ _)
  · exact h.refuse_moves _

theorem template?_defined {bs : List Byte} {raw : List (List Byte)} {t : Template}
    (h : template? bs raw = some t) : t.defined = true := by
  simp only [template?, Option.bind_eq_bind, Option.bind_eq_some_iff] at h
  obtain ⟨_, _, _, _, _, _, _, _, h⟩ := h
  split at h
  · simp only [Option.bind_eq_some_iff] at h
    obtain ⟨_, _, h⟩ := h
    cases h
    rfl
  · cases h

theorem execTemplatePut_moves (s : State) : Runs scan stop ends s (execTemplatePut s) := by
  refine s.dispatch_moves _ _ fun tag body h => ?_
  split
  · exact h.refuse_moves _
  · split
    · rename_i n new _ ht
      exact h.answer_moves _ _ (fun _ => rfl) (fun _ => rfl) (fun _ => rfl) (fun _ _ => rfl) (fun _ => rfl)
        (Move.activeChanged n new (.inl (template?_defined ht))).run
    · exact h.refuse_moves _

theorem execTemplateGet_moves (s : State) : Runs scan stop ends s (execTemplateGet s) := by
  refine s.dispatch_moves _ _ fun tag body h => ?_
  split
  · exact h.refuse_moves _
  · exact h.answerId_moves _

theorem execTemplateClear_moves (s : State) : Runs scan stop ends s (execTemplateClear s) := by
  refine s.dispatch_moves _ _ fun tag body h => ?_
  split
  · exact h.refuse_moves _
  · rename_i n _
    split
    · exact h.refuse_moves _
    · rename_i hn
      exact h.answer_moves _ _ (fun _ => rfl) (fun _ => rfl) (fun _ => rfl) (fun _ _ => rfl) (fun _ => rfl)
        (Move.activeChanged n _ (.inr (Bool.not_eq_true _ ▸ hn))).run

theorem execResponderStatus_moves (s : State) : Runs scan stop ends s (execResponderStatus s) := by
  refine s.dispatch_moves _ _ fun tag body h => ?_
  split
  · exact h.refuse_moves _
  · rename_i clear _
    cases clear
    · exact h.answerId_moves _
    · exact h.answer_moves _ (fun u => u.setReplyCounters _) (fun _ => rfl) (fun _ => rfl) (fun _ => rfl)
        (fun _ _ => rfl) (fun _ => rfl) (s.setReplyCounters_moves _)

/-! ### The send and presence requests -/

/-- A frame that passes the checks of R125 has its cells granted, and the mode is not STOPPED. -/
theorem State.judgeSend_ok {s : State} {body : List Byte} {f : Frame} (h : s.judgeSend body = .ok f) :
    s.pool.ordinaryOk f.cells = true ∧ s.line.mode ≠ .stopped := by
  unfold State.judgeSend at h
  split at h
  · cases h
  · split at h
    · cases h
    · split at h
      · cases h
      · rename_i hm
        split at h
        · cases h
        · split at h
          · cases h
          · split at h
            · rename_i hp
              cases h
              simp only [Bool.and_eq_true] at hp
              exact ⟨hp.1, fun hs => hm (.inl hs)⟩
            · cases h

theorem execFrameSend_moves (s : State) : Runs scan stop ends s (execFrameSend s) := by
  refine s.dispatch_moves _ _ fun tag body h => ?_
  split
  · exact h.refuse_moves _
  · rename_i f hf
    obtain ⟨hp, hm⟩ := State.judgeSend_ok hf
    exact (Move.emptied.run.tail (.enteredSend tag f h.room hp hm)).trans (State.arbitrate_moves _)

theorem execSendStatus_moves (s : State) : Runs scan stop ends s (execSendStatus s) :=
  s.dispatch_moves _ _ fun _ _ h => h.answerId_moves _

theorem execPresenceSetup_moves (s : State) : Runs scan stop ends s (execPresenceSetup s) := by
  refine s.dispatch_moves _ _ fun tag body h => ?_
  dsimp only
  split
  · exact h.refuse_moves _
  · rename_i mask high clear _
    refine h.answer_moves _ _ (fun _ => rfl) (fun _ => rfl) (fun _ => rfl) (fun _ _ => rfl) (fun _ => rfl) ?_
    have hb : s.link.buffer ≠ .empty := by
      rw [h.1]
      simp
    cases clear
    · exact .data (by constructor <;> intros <;> rfl)
    · exact Moves.tail (.data (t := { s with presence := { s.presence with mask := mask, highMark := high } })
        (by constructor <;> intros <;> rfl)) (.causesCleared (.inr hb))

/-- SLEEP: the reply is appended, and presence waits for it to be removed (R161). -/
theorem execSleep_moves (s : State) : Runs scan stop ends s (execSleep s) := by
  refine s.dispatch_moves _ _ fun tag body h => ?_
  dsimp only
  rw [h.complete]
  exact Moves.tail (s.withReply_moves .sleep tag _ h.occupancy)
    (.dozed _ (by simp [State.withReply, State.append_eq, State.emptyBuffer]))

end

end Sys2Proof.Machine
end

section
/-! Every command is a run of moves: SEND_CANCEL and the events of the line, the clock and the classifier. -/

namespace Sys2Proof.Machine

section

variable {scan stop : Prop} {ends : State → Prop}

/-! ### SEND_CANCEL -/

theorem State.complete_not_held (s : State) (k : ReqKind) (tag : Byte) (inline chain : List Byte)
    (h : s.link.holdsTag tag = false) : s.complete k tag inline chain = s := by
  unfold State.complete
  rw [h]
  rfl

theorem Link.holdsTag_iff (l : Link) (tag : Byte) :
    l.holdsTag tag = true ↔ ∃ e ∈ l.table, e.tag = tag := by
  simp [Link.holdsTag]

/-- A completion takes no tag into the request table. -/
theorem State.complete_holdsTag (s : State) (k : ReqKind) (tag : Byte) (inline chain : List Byte) (t : Byte)
    (h : s.link.holdsTag t = false) : (s.complete k tag inline chain).link.holdsTag t = false := by
  unfold State.complete
  split
  · rw [← Bool.not_eq_true, Link.holdsTag_iff] at *
    rintro ⟨e, he, ht⟩
    refine h ⟨e, ?_, ht⟩
    simp only [State.append_table] at he
    exact List.mem_of_mem_eraseP he
  · exact h

/-- A request that has just entered the table does not disturb the completion of another. -/
theorem State.complete_enterTable (s : State) (k k' : ReqKind) (tag tag' : Byte) (inline chain : List Byte)
    (h : tag' ≠ tag) :
    (s.enterTable k tag).complete k' tag' inline chain =
      (s.complete k' tag' inline chain).enterTable k tag := by
  have hh : (s.enterTable k tag).link.holdsTag tag' = s.link.holdsTag tag' := by
    have hne : ¬ tag = tag' := fun he => h he.symm
    simp [State.enterTable, Link.holdsTag, hne]
  by_cases hs : s.link.holdsTag tag' = true
  · obtain ⟨e, he, ht⟩ := (Link.holdsTag_iff _ _).mp hs
    unfold State.complete
    rw [if_pos (hh.trans hs), if_pos hs]
    simp only [State.enterTable, State.append_eq]
    rw [List.eraseP_append_left (p := fun e => e.tag == tag') (a := e) (by simpa using ht) _ he]
  · rw [State.complete_not_held _ _ _ _ _ (hh.trans (Bool.not_eq_true _ ▸ hs)),
      State.complete_not_held _ _ _ _ _ (Bool.not_eq_true _ ▸ hs)]

/-- A completion under the tag of the request that has just entered the table takes that request out. -/
theorem State.complete_enteredAs (s : State) (k k' : ReqKind) (tag : Byte) (inline chain : List Byte)
    (h : s.link.holdsTag tag = false) :
    (s.enterTable k tag).complete k' tag inline chain = s.append (.reply k'.replyCode tag inline chain) := by
  rw [← s.complete_entered k' tag inline chain h]
  have he : ∀ k'' : ReqKind, (s.link.table ++ [(⟨tag, k''⟩ : TableEntry)]).eraseP (fun e => e.tag == tag) =
      s.link.table := by
    intro k''
    rw [List.eraseP_append_right _ (fun b hb hbt => by
      simp only [Link.holdsTag, List.any_eq_false] at h
      exact h b hb hbt)]
    simp
  have hh : ∀ k'' : ReqKind, (s.enterTable k'' tag).link.holdsTag tag = true := by
    simp [State.enterTable, Link.holdsTag]
  unfold State.complete
  rw [if_pos (hh k), if_pos (hh k')]
  simp only [State.enterTable, State.append_eq, he]

/-- The send queue after an entry has reached its final outcome, with its cells given back (R127). -/
def State.dropSend (s : State) (e : SendEntry) : State :=
  State.release
    { s with sender :=
      { queue := s.sender.queue.eraseP (fun x => x.tag == e.tag)
        pass := if s.sender.queue.eraseP (fun x => x.tag == e.tag) = [] then 0 else s.sender.pass } }
    .send e.frame.cells

theorem State.completeSend_eq (s : State) (e : SendEntry) (st : Status) (content : List Byte) :
    s.completeSend e st content = (s.dropSend e).complete .frameSend e.tag (st.code :: content) [] := rfl

/-- A request that has just entered the table does not disturb a send entry's final outcome. -/
theorem State.completeSend_enterTable (s : State) (k : ReqKind) (tag : Byte) (e : SendEntry) (st : Status)
    (content : List Byte) (h : e.tag ≠ tag) :
    (s.enterTable k tag).completeSend e st content = (s.completeSend e st content).enterTable k tag :=
  State.complete_enterTable (s.dropSend e) k .frameSend tag e.tag (st.code :: content) [] h

theorem State.completeSend_occupancy (s : State) (e : SendEntry) (st : Status) (content : List Byte) :
    (s.completeSend e st content).link.occupancy = s.link.occupancy :=
  State.complete_occupancy _ _ _ _ _

theorem execSendCancel_moves (s : State) : Runs scan stop ends s (execSendCancel s) := by
  refine s.dispatch_moves _ _ fun tag body h => ?_
  split
  · exact h.refuse_moves _
  · rename_i e he
    split
    · exact h.refuse_moves _
    · rename_i hl
      have hs : e.state ≠ .onLine := by simpa [TxState.isOnLine] using hl
      have ht : e.tag = byteAt body 0 := by simpa using List.find?_some he
      have hf : s.emptyBuffer.link.holdsTag tag = false := h.room.fresh
      have hm : Moves scan stop ends s (s.emptyBuffer.completeSend e .cancelled [byteOf e.attempts]) :=
        Move.emptied.run.tail (.sendCompleted e _ _ (by rw [ht]; exact he) (.inl hs))
      have ho : (s.emptyBuffer.completeSend e .cancelled [byteOf e.attempts]).link.occupancy < 32 := by
        rw [State.completeSend_occupancy]
        exact h.occupancy
      by_cases hne : e.tag = tag
      · have h1 : s.emptyBuffer.completeSend e .cancelled [byteOf e.attempts] = s.emptyBuffer.dropSend e := by
          rw [State.completeSend_eq, State.complete_not_held _ _ _ _ _ (by rw [hne]; exact hf)]
        have h2 : (s.emptyBuffer.enterTable .sendCancel tag).completeSend e .cancelled [byteOf e.attempts] =
            (s.emptyBuffer.dropSend e).append
              (.reply ReqKind.frameSend.replyCode tag [Status.cancelled.code, byteOf e.attempts] []) := by
          rw [State.completeSend_eq, hne]
          exact State.complete_enteredAs (s.emptyBuffer.dropSend e) .sendCancel .frameSend tag _ [] hf
        rw [h1] at hm ho
        rw [h2]
        unfold State.refuse
        rw [State.complete_not_held]
        · exact hm.tail (.replied _ _ _ ho)
        · simp only [Link.holdsTag, State.append_table]
          exact hf
      · rw [State.completeSend_enterTable _ _ _ _ _ _ hne, State.refuse_entered]
        · exact hm.tail (.replied _ _ _ ho)
        · exact State.complete_holdsTag _ _ _ _ _ _ hf

/-! ### The receiver's state and the slot's close -/

theorem State.notStarted_setReceiver (s : State) (r : Receiver) :
    (s.setReceiver r).notStarted = s.notStarted.setReceiver r := by
  unfold State.notStarted
  have ht : (s.setReceiver r).line.transmitter = s.line.transmitter := rfl
  rw [ht]
  cases s.line.transmitter with
  | gapWait g =>
    obtain ⟨src, n, se⟩ := g
    cases src <;> rfl
  | _ => rfl

theorem State.lateReply_setReceiver (s : State) (p : ReplyEntry → Bool) (l : LatePolicy) (r : Receiver) :
    (s.setReceiver r).lateReply p l = (s.lateReply p l).setReceiver r := by
  cases l with
  | send => rfl
  | drop =>
    unfold State.lateReply State.dropReply
    dsimp only [State.setReceiver]
    split <;> rfl

/-- The close of a slot does not look at the receiver. -/
theorem State.closeSlot_setReceiver (s : State) (r : Receiver) :
    (s.setReceiver r).closeSlot = s.closeSlot.setReceiver r := by
  unfold State.closeSlot
  have hr : (s.setReceiver r).line.slot = s.line.slot := rfl
  rw [hr]
  split
  · rfl
  · rename_i fe _
    show State.closingReport (State.setReceiver { s with line := { s.line with slot := .none } } r) fe = _
    generalize ({ s with line := { s.line with slot := .none } } : State) = t
    unfold State.closingReport
    have h1 : (t.setReceiver r).responder = t.responder := rfl
    have h2 : (t.setReceiver r).line.transmitter = t.line.transmitter := rfl
    rw [h1, h2]
    split
    · rfl
    · dsimp only
      rw [State.lateReply_setReceiver]
      split
      · exact State.notStarted_setReceiver _ _
      · rfl
  · rfl

theorem State.closeSlot_receive_moves (s : State) (r : Receiver) (hi : s.line.receiver = .idle)
    (hh : s.line.hears = true) (hr : r.cells = 0)
    (ht : ∀ g start bytes, s.line.transmitter ≠ .sending g start bytes) :
    Moves scan stop ends s (s.setReceiver r).closeSlot := by
  rw [State.closeSlot_setReceiver]
  refine Move.slotClosed.run.tail (.receiverSet r (.inl ?_) hr (.inl ?_) ?_)
  · rw [State.closeSlot_line_receiver, hi]
    rfl
  · rw [← hh]
    simp [Line.hears]
  · intro bs _
    refine ⟨State.closeSlot_line_slot s, fun g start bytes hs => ?_⟩
    rcases s.closeSlot_transmitter with h | h
    · exact ht g start bytes (h ▸ hs)
    · rw [h] at hs
      cases hs

theorem Line.stopping_elapse (s : State) (dt : Nat) : (s.elapse dt).line.stopping = s.line.stopping := by
  simp [Line.stopping]

/-! ### Reception -/

theorem execFrameStart_moves (dt : Nat) (s : State) : Runs scan stop ends s (execFrameStart dt s) := by
  unfold execFrameStart
  dsimp only
  split
  · rename_i h
    obtain ⟨hh, hi⟩ := h
    split
    · exact ((Moves.elapse s dt).tail (.receiverSet .following (.inl (by rw [hi]; rfl)) rfl (.inl hh)
        (by simp))).done
    · rename_i ht
      exact ((((Moves.elapse s dt).trans (State.setLineGap_moves _ (s.elapse dt).line.point)).trans
        (State.closeSlot_receive_moves _ (.receiving []) hi hh rfl ht)).trans (State.arbitrate_moves _)).done
  · exact (Moves.elapse s dt).done

theorem execReceiveClaim_moves (dt : Nat) (bytes : List Byte) (s : State) :
    Runs scan stop ends s (execReceiveClaim dt bytes s) :=
  ((Moves.elapse s dt).trans (State.receiveBytes_moves _ _)).done

theorem execMalformed_moves (dt : Nat) (bytes : List Byte) (s : State) :
    Runs scan stop ends s (execMalformed dt bytes s) :=
  ((Moves.elapse s dt).trans (State.receiveBytes_moves _ _)).done

theorem State.setLineCounters_moves (s : State) (c : LineCounters) :
    Moves scan stop ends s (s.setLineCounters c) := .data (by constructor <;> intros <;> rfl)

theorem execFragment_moves (dt : Nat) (cause : FragmentCause) (s : State) :
    Runs scan stop ends s (execFragment dt cause s) := by
  have ht := Moves.elapse (scan := scan) (stop := stop) (ends := ends) s dt
  unfold execFragment
  generalize s.elapse dt = t at *
  dsimp only
  split
  · rename_i hi
    split
    · rename_i hh
      have hl := (ht.trans (t.setLineGap_moves t.line.point)).trans
        (State.setLineCounters_moves _ { t.line.counters with fragment := bump t.line.counters.fragment })
      exact ((hl.tail (.receiverSet .discarding (.inl (by
          show t.line.receiver.cells = 0
          rw [hi]
          rfl)) rfl (.inl hh) (by simp))).tail .slotClosed |>.trans (State.arbitrate_moves _)).done
    · exact ht.done
  · rename_i bs hr
    exact ((ht.trans (State.dropFrame_moves _ _ _ bs hr (.inr rfl))).trans (State.setLineGap_moves _ _)).done
  · rename_i bs hr
    exact ((ht.trans (State.dropFrame_moves _ _ _ bs hr (.inl rfl))).trans (State.setLineGap_moves _ _)).done
  · exact ht.done

theorem State.setStuckCount_moves (s : State) (n : Nat) :
    Moves scan stop ends s { s with line := { s.line with stuckCount := n } } :=
  .data (by constructor <;> intros <;> rfl)

theorem execActivityEnd_moves (dt : Nat) (s : State) : Runs scan stop ends s (execActivityEnd dt s) := by
  have ht := Moves.elapse (scan := scan) (stop := stop) (ends := ends) s dt
  unfold execActivityEnd
  generalize s.elapse dt = t at *
  dsimp only
  split
  · rename_i h
    have hc : t.line.receiver.cells = 0 := by
      rcases h with h | ⟨h, -⟩ <;> rw [h] <;> rfl
    exact (((ht.trans (State.setLineGap_moves _ _)).trans (State.setStuckCount_moves _ 0)).tail
      (.receiverSet .idle (.inl hc) rfl (.inr rfl) (by simp))).done
  · exact ht.done

theorem execFrameEnd_moves (dt : Nat) (bytes : List Byte) (fcs : Half) (s : State)
    (he : ends ((s.elapse dt).receiveBytes bytes)) : Runs scan stop ends s (execFrameEnd dt bytes fcs s) := by
  have hb : Moves scan stop ends s ((s.elapse dt).receiveBytes bytes) :=
    (Moves.elapse s dt).trans (State.receiveBytes_moves _ _)
  unfold execFrameEnd
  dsimp only
  split
  · rename_i bs hr
    split
    · rename_i hs
      split
      · have hm := hb.tail (.frameTaken bs
          { ((s.elapse dt).receiveBytes bytes).line.counters with
            good := bump ((s.elapse dt).receiveBytes bytes).line.counters.good } hr hs he)
        have hc : ((((s.elapse dt).receiveBytes bytes).line.frameEnded (Frame.ofBytes bs) true).counters) =
            ((s.elapse dt).receiveBytes bytes).line.counters := by
          unfold Line.frameEnded
          split <;> rfl
        unfold State.goodFrame
        dsimp only
        rw [hc]
        split
        · exact (hm.trans (State.startEvaluation_moves _)).done
        · exact hm.done
      · exact ((hb.trans (State.dropFrame_moves _ _ _ bs hr (.inl rfl))).trans
          (State.setLineGap_moves _ _)).done
    · exact hb.done
  · exact hb.done

/-! ### The line clock and the transmitter -/

theorem execForeignActivity_moves (dt : Nat) (s : State) :
    Runs scan stop ends s (execForeignActivity dt s) := by
  unfold execForeignActivity
  dsimp only
  split
  · exact (Moves.elapse s dt).done
  · exact ((((Moves.elapse s dt).trans (State.setLineGap_moves _ _)).tail .slotClosed).trans
      (State.arbitrate_moves _)).done

theorem execWindowClose_moves (dt : Nat) (s : State) : Runs scan stop ends s (execWindowClose dt s) := by
  have h := ((Moves.elapse (scan := scan) (stop := stop) (ends := ends) s dt).tail .slotClosed).trans
    (State.arbitrate_moves _)
  unfold execWindowClose
  dsimp only
  split
  · exact (Moves.elapse s dt).done
  · split
    · exact h.done
    · exact (Moves.elapse s dt).done
  · split
    · exact h.done
    · exact (Moves.elapse s dt).done

theorem execGapPassed_moves (dt : Nat) (s : State) : Runs scan stop ends s (execGapPassed dt s) := by
  unfold execGapPassed
  dsimp only
  split
  · rename_i g ht
    split
    · rename_i h
      simp only [Line.gapHasPassed, Bool.and_eq_true, Option.isNone_iff_eq_none, decide_eq_true_eq] at h
      obtain ⟨⟨hn, hm⟩, hq, -⟩ := h
      exact ((Moves.elapse s dt).tail (.startedInGap g ht hn hm hq)).done
    · exact (Moves.elapse s dt).done
  · exact (Moves.elapse s dt).done

theorem execTurnaround_moves (dt : Nat) (s : State) : Runs scan stop ends s (execTurnaround dt s) := by
  unfold execTurnaround
  dsimp only
  split
  · rename_i g ht
    split
    · rename_i fe hn
      split
      · rename_i h
        obtain ⟨hm, hs, -, -⟩ := h
        exact ((Moves.elapse s dt).tail (.startedInSlot g fe ht hn hm hs)).done
      · exact (Moves.elapse s dt).done
    · exact (Moves.elapse s dt).done
  · exact (Moves.elapse s dt).done

/-- The end of a complete frame changes the clock's points and the slot alone (R4, R5). -/
theorem Line.frameEnded_eq (l : Line) (f : Frame) (r : Bool) :
    ∃ p g sl, l.frameEnded f r = { l with lastActivity := p, gap := g, slot := sl } ∧
      (sl = l.slot ∨ (r = false ∧ ∃ q, sl = .other q) ∨
        (r = true ∧ (sl = .own l.point ∨ sl = .other l.point))) := by
  unfold Line.frameEnded
  split
  · refine ⟨_, _, _, rfl, .inr ?_⟩
    cases r
    · exact .inl ⟨rfl, l.point, rfl⟩
    · refine .inr ⟨rfl, ?_⟩
      simp only [Bool.true_and]
      split
      · exact .inl rfl
      · exact .inr rfl
  · exact ⟨_, _, _, rfl, .inl rfl⟩

theorem execAttemptSent_moves (dt : Nat) (s : State) : Runs scan stop ends s (execAttemptSent dt s) := by
  unfold execAttemptSent
  dsimp only
  split
  · rename_i g start line ht
    split
    · split
      · rename_i f _
        refine (((Moves.elapse s dt).tail (.attemptEnded g _ .sent ?_ (by simp) (by simp))).trans
          (State.arbitrate_moves _)).done
        obtain ⟨p, gp, sl, hl, hsl⟩ := (s.elapse dt).line.frameEnded_eq f false
        rw [hl]
        constructor <;> try rfl
        · exact .inl ⟨_, _, ht⟩
        · rcases hsl with h | ⟨-, h⟩ | ⟨h, -⟩
          · exact .inl h
          · exact .inr h
          · cases h
        · dsimp only
          split
          · rename_i h
            exact .inr ⟨h, rfl⟩
          · exact .inl rfl
      · exact (Moves.elapse s dt).done
    · exact (Moves.elapse s dt).done
  · exact (Moves.elapse s dt).done

theorem execCollision_moves (dt : Nat) (s : State) : Runs scan stop ends s (execCollision dt s) := by
  have h0 := Moves.elapse (scan := scan) (stop := stop) (ends := ends) s dt
  unfold execCollision
  generalize s.elapse dt = t at *
  dsimp only
  split
  · rename_i g start line ht
    exact ((h0.trans (t.setLineCounters_moves
      { t.line.counters with collisions := bump t.line.counters.collisions })).tail
      (.jammed g start line t.line.point ht)).done
  · exact h0.done

/-- A collided attempt is not the eighth (R8). -/
theorem collisionEnd_lt {n now : Nat} {draw : BitVec 5} {r : Nat}
    (h : collisionEnd n now draw = .collided r) : n < 8 := by
  unfold collisionEnd at h
  split at h
  · assumption
  · cases h

theorem collisionEnd_ne_stopped (n now : Nat) (draw : BitVec 5) : collisionEnd n now draw ≠ .stopped := by
  unfold collisionEnd
  split <;> simp

/-- A jam's end hands a collision, or halts where a stopping sequence waits for it (R8, R22). -/
theorem execJamEnd_halts {stop' : Prop} (dt : Nat) (draw : BitVec 5) (s : State)
    (hs : s.line.stopping = true → stop) :
    Runs scan stop' ends s (execJamEnd dt draw s) ∨
      Halts scan stop stop' ends s (execJamEnd dt draw s) := by
  unfold execJamEnd
  dsimp only
  split
  · rename_i g start ht
    split
    · have ho : AttemptOver (s.elapse dt) g
          { (s.elapse dt).line.otherActivity (s.elapse dt).line.point with transmitter := .idle } := by
        constructor <;> try rfl
        · exact .inr ⟨_, ht, rfl⟩
        · exact .inl rfl
        · exact .inl rfl
      split
      · rename_i hst
        have hst' : (s.elapse dt).line.stopping = true := hst
        rw [Line.stopping_elapse] at hst'
        refine .inr (Moves.halts
          ((Moves.elapse s dt).tail (.attemptEnded g _ .stopped ho (fun _ => hs hst') (by simp))) ?_)
        rw [State.hand_line]
      · exact .inl (((Moves.elapse s dt).tail (.attemptEnded g _ _ ho
          (fun h => absurd h (collisionEnd_ne_stopped _ _ _)) (fun _ h => collisionEnd_lt h))).trans
          (State.arbitrate_moves _)).done
    · exact .inl (Moves.elapse s dt).done
  · exact .inl (Moves.elapse s dt).done

theorem execJamEnd_moves (dt : Nat) (draw : BitVec 5) (s : State)
    (hs : s.line.stopping = true → stop) : Runs scan stop ends s (execJamEnd dt draw s) := by
  rcases execJamEnd_halts (scan := scan) (stop' := stop) (ends := ends) dt draw s hs with h | h
  · exact h
  · exact h.runs

theorem execBackoffEnd_moves (dt : Nat) (owner : BackoffOwner) (s : State) :
    Runs scan stop ends s (execBackoffEnd dt owner s) := by
  unfold execBackoffEnd
  dsimp only
  split
  · exact (((Moves.elapse s dt).tail (.sendWaits _ _)).trans (State.arbitrate_moves _)).done
  · split
    · rename_i e he
      split
      · rename_i hb
        exact (((Moves.elapse s dt).tail (.replyWaits _ e _ he hb)).trans (State.arbitrate_moves _)).done
      · exact (Moves.elapse s dt).done
    · exact (Moves.elapse s dt).done

theorem State.changeMode_line (s : State) (m : LineMode) (r : Option HearMode) :
    (s.changeMode m r).line = { s.line with mode := m, resume := r } := by
  unfold State.changeMode
  dsimp only
  split
  · rfl
  · rw [State.post_line]

/-- The transmitter ends any attempt or grant at a stuck line (R10): of the line the transmitter and the count of
collisions change. -/
theorem State.endAttemptStuck_line (s : State) (draw : BitVec 5) :
    ∃ c, (s.endAttemptStuck draw).line = { s.line with transmitter := .idle, counters := c } := by
  unfold State.endAttemptStuck
  split
  · exact ⟨_, by rw [State.hand_line]⟩
  · exact ⟨_, by rw [State.hand_line]; rfl⟩
  · rename_i h
    exact ⟨_, by rw [State.notStarted_line, h]; rfl⟩
  · rename_i h
    exact ⟨_, by rw [← h]⟩

theorem State.endAttemptStuck_moves (s : State) (draw : BitVec 5)
    (hs : s.line.stopping = true → stop) : Moves scan stop ends s (s.endAttemptStuck draw) := by
  unfold State.endAttemptStuck
  split
  · rename_i g start line ht
    refine (Move.attemptEnded g _ _ ?_ (fun h => absurd h (collisionEnd_ne_stopped _ _ _))
      (fun _ h => collisionEnd_lt h)).run
    constructor <;> try rfl
    · exact .inl ⟨_, _, ht⟩
    · exact .inl rfl
    · exact .inl rfl
  · rename_i g start ht
    refine (Move.attemptEnded g { s.line with transmitter := .idle } _ ?_ ?_ ?_).run
    · constructor <;> try rfl
      · exact .inr ⟨_, ht, rfl⟩
      · exact .inl rfl
      · exact .inl rfl
    · split
      · rename_i h
        exact fun _ => hs h
      · exact fun h => absurd h (collisionEnd_ne_stopped _ _ _)
    · intro r
      split
      · simp
      · exact collisionEnd_lt
  · exact Move.notStarted.run
  · exact .rfl

/-- A stuck line ends an attempt, or halts where a stopping sequence waits for it (R10, R22). -/
theorem execStuckLine_halts {stop' : Prop} (dt run : Nat) (draw : BitVec 5) (s : State)
    (hs : s.line.stopping = true → stop) :
    Runs scan stop' ends s (execStuckLine dt run draw s) ∨
      Halts scan stop stop' ends s (execStuckLine dt run draw s) := by
  unfold execStuckLine
  dsimp only
  split
  · have hk : ∀ x : Prop, Moves scan x ends (s.elapse dt)
        { s.elapse dt with line := (s.elapse dt).line.stuck run } :=
      fun _ => .data (by constructor <;> intros <;> rfl)
    have hc := fun x => (((Moves.elapse s dt).trans (hk x)).tail .slotClosed).trans (State.abandonReception_moves _)
    have hl : (State.closeSlot
        { s.elapse dt with line := (s.elapse dt).line.stuck run }).abandonReception.line =
        { (State.closeSlot { s.elapse dt with line := (s.elapse dt).line.stuck run }).line with
          receiver := .idle } := rfl
    have hmode : (State.closeSlot
        { s.elapse dt with line := (s.elapse dt).line.stuck run }).abandonReception.line.mode = s.line.mode := by
      rw [hl]
      dsimp only
      rw [State.closeSlot_line_mode]
      exact State.elapse_line_mode s dt
    have hslot : (State.closeSlot
        { s.elapse dt with line := (s.elapse dt).line.stuck run }).abandonReception.line.slot = .none := by
      rw [hl]
      dsimp only
      rw [State.closeSlot_line_slot]
    have hstop : (State.closeSlot { s.elapse dt with
        line := (s.elapse dt).line.stuck run }).abandonReception.line.stopping = s.line.stopping := by
      have h1 : (State.closeSlot { s.elapse dt with
          line := (s.elapse dt).line.stuck run }).line.lineStop = s.line.lineStop :=
        (State.closeSlot_line_lineStop _).trans (State.elapse_line_lineStop s dt)
      have h2 : (State.closeSlot { s.elapse dt with
          line := (s.elapse dt).line.stuck run }).line.lineSide = s.line.lineSide :=
        (State.closeSlot_line_lineSide _).trans (State.elapse_line_lineSide s dt)
      simp only [hl, Line.stopping, h1, h2]
    have hrecv : (State.closeSlot { s.elapse dt with
        line := (s.elapse dt).line.stuck run }).abandonReception.line.receiver = .idle := rfl
    generalize (State.closeSlot
      { s.elapse dt with line := (s.elapse dt).line.stuck run }).abandonReception = a at *
    obtain ⟨cs, hel⟩ := a.endAttemptStuck_line draw
    have he := fun (x : Prop) (hx : s.line.stopping = true → x) =>
      (hc x).trans (a.endAttemptStuck_moves draw (by rw [hstop]; exact hx))
    have hf := fun (x : Prop) (hx : s.line.stopping = true → x) => ((he x hx).trans
      (State.changeMode_moves _ .faulted (some (s.elapse dt).line.mode.asResume) (by
      rw [State.elapse_line_mode]
      constructor
      · exact fun _ h => absurd (by rw [hel]) h
      · exact fun _ _ => by rw [hel]; exact ⟨hrecv, hslot⟩
      · simp
      · intro h
        rw [hel]
        refine .inr (.inl (hmode.trans ?_))
        rcases h with h | h
        · cases h
        · by_contra hc
          simp [LineMode.asResume, hc] at h
      · simp))).tail (.gave .lineFault)
    split
    · refine .inr (Moves.halts (hf stop hs) ?_)
      rw [State.give_line, State.changeMode_line, hel]
    · rename_i hn
      refine .inl (hf stop' (fun h => absurd ?_ hn)).done
      rw [State.give_line, State.changeMode_line, hel]
      exact hstop.trans h
  · exact .inl (Moves.elapse s dt).done

theorem execStuckLine_moves (dt run : Nat) (draw : BitVec 5) (s : State)
    (hs : s.line.stopping = true → stop) : Runs scan stop ends s (execStuckLine dt run draw s) := by
  rcases execStuckLine_halts (scan := scan) (stop' := stop) (ends := ends) dt run draw s hs with h | h
  · exact h
  · exact h.runs

theorem execFaultCleared_moves (dt : Nat) (s : State) : Runs scan stop ends s (execFaultCleared dt s) := by
  unfold execFaultCleared
  dsimp only
  split
  · rename_i m hm hr
    split
    · have hh : (s.elapse dt).line.hears = false := by
        simp only [Line.hears, hm]
        rfl
      have h1 := (Moves.elapse s dt).tail (.receiverSet (scan := scan) (stop := stop) (ends := ends) .idle
        (.inr hh) rfl (.inr rfl) (by simp))
      have h2 : Moves scan stop ends s
          { s.elapse dt with line := { (s.elapse dt).line with receiver := .idle, gap := .long, stuckCount := 0 } } :=
        h1.trans (.data (by constructor <;> intros <;> rfl))
      refine ((h2.trans (State.changeMode_moves _ _ _ ?_)).trans (State.arbitrate_moves _)).done
      constructor
      · intro h
        cases hm.symm.trans h
      · cases m <;> simp [HearMode.mode]
      · cases m <;> simp [HearMode.mode]
      · intro h
        refine .inr (.inr ?_)
        cases m with
        | active => exact hr
        | listening => simp [HearMode.mode] at h
      · cases m <;> simp [HearMode.mode]
    · exact (Moves.elapse s dt).done
  · exact (Moves.elapse s dt).done

/-! ### The classifier and the ages -/

theorem execEvaluationStart_moves (dt : Nat) (s : State) :
    Runs scan stop ends s (execEvaluationStart dt s) :=
  ((Moves.elapse s dt).trans (State.startEvaluation_moves _)).done

theorem State.countScan_moves (s : State) (ms : List (Fin 32 × Entry)) (v : Verdict) :
    Moves scan stop ends s (s.countScan ms v) := .data (by constructor <;> intros <;> rfl)

theorem execScanEnd_moves (dt : Nat) (s : State) (hscan : scan) :
    Runs scan stop ends s (execScanEnd dt s) := by
  unfold execScanEnd
  dsimp only
  split
  · exact (Moves.elapse s dt).done
  · exact (((((((Moves.elapse s dt).trans (State.countScan_moves _ _ _)).trans
      (State.carryOut_moves hscan _ _ _)).tail (.evaluationEnded hscan)).tail .commitApplied).trans
      (State.continueLineSide_moves _)).trans (State.arbitrate_moves _)).done

theorem execExpiry_moves (dt : Nat) (q : Fin 4) (frameId : Half) (s : State) :
    Runs scan stop ends s (execExpiry dt q frameId s) :=
  ((Moves.elapse s dt).trans (State.expire_moves _ _ _)).done

theorem execSlotStale_moves (dt : Nat) (n : Fin 16) (s : State) :
    Runs scan stop ends s (execSlotStale dt n s) :=
  ((Moves.elapse s dt).trans (State.setSlot_moves _ _ _)).done

/-! ### Every command -/

/-- What a command needs of the three marks of a move. -/
structure Marked (scan stop : Prop) (ends : State → Prop) (c : Instr) (s : State) : Prop where
  scan : ∀ dt, c = .scanEnd dt → scan
  jam : ∀ dt draw, c = .jamEnd dt draw → s.line.stopping = true → stop
  stuck : ∀ dt run draw, c = .stuckLine dt run draw → s.line.stopping = true → stop
  ends : ∀ dt bytes fcs, c = .frameEnd dt bytes fcs → ends ((s.elapse dt).receiveBytes bytes)

/-- Every command is a run of moves. -/
theorem exec_moves (c : Instr) (s : State) (h : Marked scan stop ends c s) :
    Runs scan stop ends s (exec c s) := by
  cases c with
  | powerUp => exact execPowerUp_moves s
  | resetNAssert => exact execResetNAssert_moves s
  | resetNRelease => exact execResetNRelease_moves s
  | put dt => exact execPut_moves dt s
  | get dt => exact execGet_moves dt s
  | badExchange dt => exact execBadExchange_moves dt s
  | messageHeld bytes => exact (s.receiveMessage_moves bytes).done
  | rejectTooLong bytes => exact (s.receiveMessage_moves bytes).done
  | rejectShort bytes => exact ((s.receiveMessage_moves bytes).trans (State.endSelect_moves _)).done
  | getAck ack => exact execGetAck_moves ack s
  | resend flags => exact execResend_moves flags s
  | getSendingStep => exact execGetSendingStep_moves s
  | unknownKindRequest => exact execUnknownKindRequest_moves s
  | identify => exact execIdentify_moves s
  | echo => exact execEcho_moves s
  | timeRead => exact execTimeRead_moves s
  | resetPart => exact execResetPart_moves s
  | resetLineSide => exact execResetLineSide_moves s
  | lineSetup => exact execLineSetup_moves s
  | addressSet => exact execAddressSet_moves s
  | lineStart => exact execLineStart_moves s
  | lineStop => exact execLineStop_moves s
  | lineStatus => exact execLineStatus_moves s
  | lineCounters => exact execLineCounters_moves s
  | poolStatus => exact execPoolStatus_moves s
  | poolSetup => exact execPoolSetup_moves s
  | sievePut => exact execSievePut_moves s
  | sieveGet => exact execSieveGet_moves s
  | sieveClear => exact execSieveClear_moves s
  | sieveCopy => exact execSieveCopy_moves s
  | sieveDefault => exact execSieveDefault_moves s
  | sieveCommit => exact execSieveCommit_moves s
  | hitsRead => exact execHitsRead_moves s
  | hitsClear => exact execHitsClear_moves s
  | classifyStatus => exact execClassifyStatus_moves s
  | queueSetup => exact execQueueSetup_moves s
  | queueStatus => exact execQueueStatus_moves s
  | framePeek => exact execFramePeek_moves s
  | frameTake => exact execFrameTake_moves s
  | frameDiscard => exact execFrameDiscard_moves s
  | queueFlush => exact execQueueFlush_moves s
  | slotRead => exact execSlotRead_moves s
  | slotWrite => exact execSlotWrite_moves s
  | slotClear => exact execSlotClear_moves s
  | slotSetup => exact execSlotSetup_moves s
  | templatePut => exact execTemplatePut_moves s
  | templateGet => exact execTemplateGet_moves s
  | templateClear => exact execTemplateClear_moves s
  | responderStatus => exact execResponderStatus_moves s
  | frameSend => exact execFrameSend_moves s
  | sendCancel => exact execSendCancel_moves s
  | sendStatus => exact execSendStatus_moves s
  | sleep => exact execSleep_moves s
  | presenceSetup => exact execPresenceSetup_moves s
  | frameStart dt => exact execFrameStart_moves dt s
  | receiveClaim dt bytes => exact execReceiveClaim_moves dt bytes s
  | malformed dt bytes => exact execMalformed_moves dt bytes s
  | fragment dt cause => exact execFragment_moves dt cause s
  | activityEnd dt => exact execActivityEnd_moves dt s
  | frameEnd dt bytes fcs => exact execFrameEnd_moves dt bytes fcs s (h.ends dt bytes fcs rfl)
  | foreignActivity dt => exact execForeignActivity_moves dt s
  | windowClose dt => exact execWindowClose_moves dt s
  | gapPassed dt => exact execGapPassed_moves dt s
  | turnaround dt => exact execTurnaround_moves dt s
  | attemptSent dt => exact execAttemptSent_moves dt s
  | collision dt => exact execCollision_moves dt s
  | jamEnd dt draw => exact execJamEnd_moves dt draw s (h.jam dt draw rfl)
  | backoffEnd dt owner => exact execBackoffEnd_moves dt owner s
  | stuckLine dt run draw => exact execStuckLine_moves dt run draw s (h.stuck dt run draw rfl)
  | faultCleared dt => exact execFaultCleared_moves dt s
  | evaluationStart dt => exact execEvaluationStart_moves dt s
  | scanEnd dt => exact execScanEnd_moves dt s (h.scan dt rfl)
  | expiry dt queue frameId => exact execExpiry_moves dt queue frameId s
  | slotStale dt slot => exact execSlotStale_moves dt slot s

/-- The state that a command ends in after a run of moves, its signals driven (R151, R164). -/
theorem Runs.next {s t : State} {o : Host.Outcome State Fault Refusal} (h : Runs scan stop ends s o)
    (ho : o = .next t) : Moves scan stop ends s t := by
  obtain ⟨u, hu, hm⟩ := h
  rw [hu] at ho
  cases ho
  exact hm.trans (u.setPins_moves _)

/-- Every step is a run of moves, from the state without the command at the front. -/
theorem step_moves {s t : State} (h : step s = .next t)
    (hk : ∀ c rest, s.pending = c :: rest → Marked scan stop ends c { s with pending := rest }) :
    ∃ rest, Moves scan stop ends { s with pending := rest } t := by
  unfold step at h
  split at h
  · rename_i hp
    cases h
    exact ⟨s.pending, Moves.elapse s 4⟩
  · rename_i c rest hp
    exact ⟨rest, (exec_moves c _ (hk c rest hp)).next h⟩

end

/-- A law that every move keeps, and that does not read the queue of commands, is kept by every step. -/
theorem step_keeps {P : State → Prop} (hp : ∀ (s : State) (cs : List Instr), P s → P { s with pending := cs })
    (hm : ∀ {s t : State}, Move True True (fun _ => True) s t → P s → P t) {s t : State} (hs : P s)
    (h : step s = .next t) : P t := by
  obtain ⟨rest, hr⟩ := step_moves (scan := True) (stop := True) (ends := fun _ => True) h
    (fun _ _ _ => ⟨fun _ _ => trivial, fun _ _ _ _ => trivial, fun _ _ _ _ _ => trivial,
      fun _ _ _ _ => trivial⟩)
  exact hr.keep hm (hp s rest hs)

/-- A law that every move keeps outside the middle of a scan's end, and that a scan's end as a whole keeps, is kept by
every step whose other commands are runs of such moves or keep it themselves. -/
theorem step_keeps_scan {stop : Prop} {ends : State → Prop} {P : State → Prop}
    (hp : ∀ (s : State) (cs : List Instr), P s → P { s with pending := cs })
    (hm : ∀ {s t : State}, Move False stop ends s t → P s → P t)
    (hscan : ∀ {e : Evaluation} {a b c d f : State}, a.classifier.eval = some e → P a →
      Answered e.member a b → Quietly b c → Delivered e.member c d → Quietly d f →
      P { f with classifier := { f.classifier with eval := none } })
    {s t : State} (hs : P s) (h : step s = .next t)
    (hk : ∀ c rest, s.pending = c :: rest → (∀ dt, c ≠ .scanEnd dt) →
      Marked False stop ends c { s with pending := rest } ∨
        (exec c { s with pending := rest } = .next t → P t)) : P t := by
  unfold step at h
  split at h
  · cases h
    exact (Moves.elapse s 4).keep hm hs
  · rename_i cmd rest hpend
    have hs' := hp s rest hs
    by_cases hc : ∃ dt, cmd = .scanEnd dt
    · obtain ⟨dt, rfl⟩ := hc
      have hP : ∀ e ms v, ({ s with pending := rest }.elapse dt).classifier.eval = some e →
          P (State.arbitrate (State.continueLineSide (State.endEvaluation
            (State.carryOut (({ s with pending := rest }.elapse dt).countScan ms v) v e)))) := by
        intro e ms v he
        obtain ⟨a, b, c, d, ha, hb, hc, hd, hf⟩ := State.carryOut_split
          (({ s with pending := rest }.elapse dt).countScan ms v) v e
        have hPa := ((Moves.elapse _ dt).trans (State.countScan_moves _ ms v)).keep hm hs'
        exact (((Move.commitApplied.run).trans (State.continueLineSide_moves _)).trans
          (State.arbitrate_moves _)).keep hm (hscan (ha.eval.trans he) (ha.moves.keep hm hPa) hb hc hd hf)
      replace h : execScanEnd dt { s with pending := rest } = .next t := h
      unfold execScanEnd at h
      dsimp only at h
      split at h
      · cases h
        exact ((Moves.elapse _ dt).trans (State.setPins_moves _ _)).keep hm hs'
      · rename_i e he
        cases h
        exact (State.setPins_moves _ _).keep hm (hP e _ _ he)
    · rcases hk cmd rest hpend (fun dt hdt => hc ⟨dt, hdt⟩) with hk | hk
      · exact ((exec_moves cmd _ hk).next h).keep hm hs'
      · exact hk h

theorem Halts.next {scan stop stop' : Prop} {ends : State → Prop} {s t : State}
    {o : Host.Outcome State Fault Refusal} (h : Halts scan stop stop' ends s o) (ho : o = .next t) :
    ∃ u, Moves scan stop ends s u ∧ u.line.transmitter = .idle ∧ u.line.receiver = .idle ∧
      u.NothingToSend ∧ Moves scan stop' ends u t := by
  obtain ⟨u, v, hv, h1, h2, h3, h4, h5⟩ := h
  rw [hv] at ho
  cases ho
  exact ⟨u, h1, h2, h3, h4, h5.trans (v.setPins_moves _)⟩

/-- A law that every move keeps outside a scan's end and a halt, that a scan's end as a whole keeps, and that stands
where a halt has left nothing to be sent, is kept by every step. -/
theorem step_keeps_careful {ends : State → Prop} {P : State → Prop}
    (hp : ∀ (s : State) (cs : List Instr), P s → P { s with pending := cs })
    (hm : ∀ {s t : State}, Move False False ends s t → P s → P t)
    (hscan : ∀ {e : Evaluation} {a b c d f : State}, a.classifier.eval = some e → P a →
      Answered e.member a b → Quietly b c → Delivered e.member c d → Quietly d f →
      P { f with classifier := { f.classifier with eval := none } })
    (hhalt : ∀ {s u : State}, P s → Moves False True ends s u → u.line.transmitter = .idle →
      u.line.receiver = .idle → u.NothingToSend → P u)
    {s t : State} (hs : P s) (h : step s = .next t)
    (hends : ∀ dt bytes fcs rest, s.pending = .frameEnd dt bytes fcs :: rest →
      ends (({ s with pending := rest }.elapse dt).receiveBytes bytes)) : P t := by
  refine step_keeps_scan (stop := False) hp hm hscan hs h ?_
  intro c rest hpend hc
  have halted : ∀ o : Host.Outcome State Fault Refusal,
      Runs False False ends { s with pending := rest } o ∨ Halts False True False ends { s with pending := rest } o →
      o = .next t → P t := by
    intro o ho hnext
    rcases ho with ho | ho
    · exact (ho.next hnext).keep hm (hp s rest hs)
    · obtain ⟨u, h1, h2, h3, h4, h5⟩ := ho.next hnext
      exact h5.keep hm (hhalt (hp s rest hs) h1 h2 h3 h4)
  by_cases hj : ∃ dt draw, c = .jamEnd dt draw
  · obtain ⟨dt, draw, rfl⟩ := hj
    exact .inr (halted _ (execJamEnd_halts dt draw _ (fun _ => trivial)))
  · by_cases hk : ∃ dt run draw, c = .stuckLine dt run draw
    · obtain ⟨dt, run, draw, rfl⟩ := hk
      exact .inr (halted _ (execStuckLine_halts dt run draw _ (fun _ => trivial)))
    · refine .inl ⟨fun dt h => hc dt h, fun dt draw h => absurd ⟨dt, draw, h⟩ hj,
        fun dt run draw h => absurd ⟨dt, run, draw, h⟩ hk, ?_⟩
      rintro dt bytes fcs rfl
      exact hends dt bytes fcs rest hpend

end Sys2Proof.Machine
end

section
/-! The cell account (R26, R29): no move loses or makes a cell, or takes the reserve. -/

namespace Sys2Proof.Machine

/-- The account's two laws, of the pool alone (R26, R29). -/
def Pool.Balanced (p : Pool) : Prop := p.total = 192 ∧ 16 ≤ p.free + p.responder

/-- The account stands after a full reset (R38). -/
theorem Pool.initial_balanced : Pool.initial.Balanced := ⟨by decide, by decide⟩

theorem Pool.setHeld_responder_of_ne (p : Pool) (h : Holder) (n : Nat) (hh : h ≠ .responder) :
    (p.setHeld h n).responder = p.responder := by
  cases h with
  | responder => exact absurd rfl hh
  | _ => rfl

/-- An ordinary claim that is granted leaves the reserve (R28). -/
theorem Pool.Balanced.claim {p : Pool} (hp : p.Balanced) {h : Holder} {c : Nat}
    (hc : p.ordinaryOk c = true) (hh : h ≠ .responder) : (p.claim h c).Balanced := by
  obtain ⟨ht, hr⟩ := hp
  obtain ⟨h1, h2⟩ := Pool.ordinaryOk_le p c hc
  refine ⟨(Pool.total_claim p h c h1).trans ht, ?_⟩
  show 16 ≤ (p.free - c) + (p.setHeld h _).responder
  rw [Pool.setHeld_responder_of_ne _ _ _ hh]
  omega

/-- A responder claim that is granted draws on the reserve it counts for (R29). -/
theorem Pool.Balanced.claimResponder {p : Pool} (hp : p.Balanced) {c : Nat}
    (hc : p.responderOk c = true) : (p.claim .responder c).Balanced := by
  obtain ⟨ht, hr⟩ := hp
  have h1 := Pool.responderOk_le p c hc
  refine ⟨(Pool.total_claim p _ c h1).trans ht, ?_⟩
  show 16 ≤ (p.free - c) + (p.responder + c)
  omega

/-- A release gives the free count at least what it takes from RESPONDER (R31). -/
theorem Pool.Balanced.release {p : Pool} (hp : p.Balanced) (h : Holder) (c : Nat) :
    (p.release h c).Balanced := by
  obtain ⟨ht, hr⟩ := hp
  refine ⟨(Pool.total_release p h c).trans ht, ?_⟩
  by_cases hh : h = .responder
  · subst hh
    show 16 ≤ (p.free + min c p.responder) + (p.responder - min c p.responder)
    omega
  · show 16 ≤ (p.free + min c (p.held h)) + (p.setHeld h _).responder
    rw [Pool.setHeld_responder_of_ne _ _ _ hh]
    omega

/-- A move that is not out of RESPONDER or into it leaves the reserve (R32). -/
theorem Pool.Balanced.move {p : Pool} (hp : p.Balanced) {a b : Holder} (c : Nat)
    (ha : a ≠ .responder) (hb : b ≠ .responder) : (p.move a b c).Balanced := by
  obtain ⟨ht, hr⟩ := hp
  refine ⟨(Pool.total_move p a b c).trans ht, ?_⟩
  rw [Pool.move_free]
  show 16 ≤ p.free + ((p.setHeld a _).setHeld b _).responder
  rw [Pool.setHeld_responder_of_ne _ _ _ hb, Pool.setHeld_responder_of_ne _ _ _ ha]
  exact hr

section

variable {s : State} (h : s.pool.Balanced)

include h

theorem State.dropReply_balanced (p : ReplyEntry → Bool) : (s.dropReply p).pool.Balanced := by
  unfold State.dropReply
  split
  · exact h
  · exact h.release _ _

theorem State.lateReply_balanced (p : ReplyEntry → Bool) (l : LatePolicy) :
    (s.lateReply p l).pool.Balanced := by
  cases l with
  | drop => exact State.dropReply_balanced h p
  | send => exact h

theorem State.closeSlot_balanced : s.closeSlot.pool.Balanced := by
  unfold State.closeSlot
  split
  · exact h
  · unfold State.closingReport
    split
    · exact h
    · dsimp only
      split
      · rw [State.notStarted_pool]
        exact State.lateReply_balanced (by exact h) _ _
      · exact State.lateReply_balanced (by exact h) _ _
  · exact h

theorem State.completeSend_balanced (e : SendEntry) (st : Status) (content : List Byte) :
    (s.completeSend e st content).pool.Balanced := by
  rw [State.completeSend_eq, State.complete_pool]
  exact h.release _ _

theorem State.hand_balanced (src : Carried) (o : AttemptEnd) : (s.hand src o).pool.Balanced := by
  unfold State.hand
  split
  · unfold State.handSend
    split
    · exact h
    · split
      · exact State.completeSend_balanced h _ _ _
      · exact State.completeSend_balanced h _ _ _
      · exact h
      · exact h
  · unfold State.handReply
    split
    · exact h
    · split
      · exact State.dropReply_balanced h _
      · exact State.dropReply_balanced h _
      · split
        · exact State.lateReply_balanced h _ _
        · dsimp only
          split
          · exact State.lateReply_balanced h _ _
          · exact h
      · exact h

end

/-- A move keeps the cell account (R26, R29). -/
theorem Move.balanced {scan stop : Prop} {ends : State → Prop} {s t : State}
    (h : Move scan stop ends s t) (hs : s.pool.Balanced) : t.pool.Balanced := by
  cases h with
  | data h =>
    obtain ⟨ht, hr⟩ := hs
    simp only [Pool.Balanced, Pool.total, h.free, h.receive, h.classify, h.queueCells, h.replyCells,
      h.sendCells, h.outboxCells] at *
    exact ⟨ht, hr⟩
  | cleared => exact Pool.initial_balanced
  | reset cause =>
    unfold State.fullReset
    rw [State.append_pool]
    exact Pool.initial_balanced
  | repliedLong k tag body _ hp =>
    rw [State.append_pool]
    exact hs.claim hp (by simp)
  | handedOver q r rest c k tag inline _ _ =>
    rw [State.append_pool]
    exact hs.move _ (by simp) (by simp)
  | acked => exact hs.release _ _
  | enteredSend tag f _ hp _ => exact hs.claim hp (by simp)
  | sendCompleted => exact State.completeSend_balanced hs _ _ _
  | recordsRemoved => exact hs.release _ _
  | classificationEmptied => exact hs.release _ _
  | released => exact hs.release _ _
  | accepted => exact hs.move _ (by simp) (by simp)
  | placed h n f w _ _ =>
    unfold State.placeReply
    dsimp only
    split
    · rename_i hp
      exact hs.claimResponder hp
    · exact hs
  | frameDropped claimed after c _ hp =>
    refine Pool.Balanced.release ?_ _ _
    cases claimed
    · exact hs
    · exact hs.claim (hp rfl) (by simp)
  | bytePlaced bs b _ hp =>
    rw [State.setReceiver_pool]
    split
    · rename_i hn
      exact hs.claim (hp hn) (by simp)
    · exact hs
  | frameTaken =>
    unfold State.enqueue
    split
    · exact Pool.Balanced.move hs _ (by simp) (by simp)
    · exact Pool.Balanced.release hs _ _
  | slotClosed => exact State.closeSlot_balanced hs
  | startedInGap =>
    rw [State.startSending_pool]
    exact State.closeSlot_balanced hs
  | startedInSlot =>
    rw [State.startSending_pool]
    exact hs
  | attemptEnded => exact State.hand_balanced (by exact hs) _ _
  | repliesDiscarded => exact hs.release _ _
  | lineStopCompleted =>
    rw [State.completeLineStop_pool]
    exact hs
  | commitApplied =>
    rw [State.applyCommit_pool]
    exact hs
  | unsentAgain => exact hs
  | _ => simpa using hs

end Sys2Proof.Machine

namespace Sys2Proof

open Machine

/-- Settles O55: each move keeps the account of the pool, a move at a time. -/
theorem stepsKeepTheCells : Obligations.StepsKeepTheCells := by
  intro s t hp hr h
  exact step_keeps (P := fun s => s.pool.Balanced) (fun _ _ h => h) (fun hm => hm.balanced) ⟨hp, hr⟩ h

end Sys2Proof
end

section
/-! The message link (R144, R146, R152, R154): what a move does to the request table, the outbox and the pending
notices, and the four laws that every such move keeps. -/

namespace Sys2Proof.Machine

/-! ### What a move does to the link -/

/-- The outbox of a RESEND after step 1 of R152. -/
def Link.absorbed (l : Link) : List OutEntry × List Notice :=
  absorbPending (l.outbox.map (fun e => { e with sent := false })) l.notices

/-- What a RESEND makes of the outbox (R148, R152). -/
def Link.remade (l : Link) (doze : Option Byte) : Merging :=
  l.absorbed.1.foldl (Merging.take doze) ⟨[], 0, doze⟩

/-- One change of the request table, the outbox, the numbers and the pending notices. -/
inductive LinkMove : Link → Link → Prop
  | same {l m} (ht : m.table = l.table) (ho : m.outbox = l.outbox) (hn : m.nextSeq = l.nextSeq)
    (hr : m.lastRemoved = l.lastRemoved) (hs : m.notices = l.notices) : LinkMove l m
  | cleared {l} : LinkMove l Link.initial
  | replied {l} (k tag inline chain) (h : l.occupancy < 32) :
    LinkMove l { l with
      outbox := l.outbox ++ [⟨l.nextSeq, false, .reply k tag inline chain⟩], nextSeq := l.nextSeq + 1 }
  | noticed {l} (n : Notice) (h : l.occupancy < 32)
    (hf : n.id ∉ l.unsentIds ++ l.notices.map Notice.id) :
    LinkMove l { l with outbox := l.outbox ++ [⟨l.nextSeq, false, .notice n⟩], nextSeq := l.nextSeq + 1 }
  | completed {l} (k tag inline chain) (t) (h : l.holdsTag t = true) :
    LinkMove l { l with
      outbox := l.outbox ++ [⟨l.nextSeq, false, .reply k tag inline chain⟩], nextSeq := l.nextSeq + 1
      table := l.table.eraseP (fun e => e.tag == t) }
  | merged {l} (n : Notice) :
    LinkMove l { l with outbox := changeFirst (OutEntry.isUnsentNotice n.id) (OutEntry.mergeNotice n) l.outbox }
  | mergedPending {l} (n : Notice) :
    LinkMove l { l with notices := changeFirst (fun m => m.id = n.id) (fun m => m.merge n) l.notices }
  | pended {l} (n : Notice) (hf : n.id ∉ l.unsentIds ++ l.notices.map Notice.id) :
    LinkMove l { l with notices := l.notices ++ [n] }
  | noticeMoved {l} (n ns) (hn : l.notices = n :: ns) (h : l.occupancy < 32) :
    LinkMove l { l with
      outbox := l.outbox ++ [⟨l.nextSeq, false, .notice n⟩], nextSeq := l.nextSeq + 1, notices := ns }
  | acked {l} (i ack) (h : l.outbox.findIdx? (fun e => e.sent && e.seq == ack) = some i) :
    LinkMove l { l with outbox := l.outbox.drop (i + 1), lastRemoved := ack }
  | unsentAgain {l} (doze c) :
    LinkMove l { l with
      outbox := (l.remade doze).kept
      notices := l.absorbed.2
      nextSeq := l.nextSeq - BitVec.ofNat 8 (l.remade doze).removed
      counters := c }
  | sent {l} (h : l.sentCount < 8) :
    LinkMove l { l with
      outbox := changeFirst (fun e => !e.sent) (fun e => { e with sent := true }) l.outbox }
  | entered {l} (k tag) (hf : l.holdsTag tag = false) (ht : l.table.length < 8) (h : l.occupancy < 32) :
    LinkMove l { l with table := l.table ++ [⟨tag, k⟩] }

theorem LinkMove.refl (l : Link) : LinkMove l l := .same rfl rfl rfl rfl rfl

/-- The kind and subject under which an outbox entry counts among the UNSENT notices. -/
def OutEntry.unsentId (e : OutEntry) : Option NoticeId :=
  match e.msg with
  | .notice n => if e.sent then none else some n.id
  | .reply _ _ _ _ => none

theorem Link.unsentIds_eq (l : Link) : l.unsentIds = l.outbox.filterMap OutEntry.unsentId := rfl

/-- An entry is an UNSENT notice of a kind and subject exactly when it counts among the UNSENT notices. -/
theorem OutEntry.isUnsentNotice_iff (i : NoticeId) (e : OutEntry) :
    e.isUnsentNotice i = true ↔ e.unsentId = some i := by
  obtain ⟨q, sent, m⟩ := e
  cases m <;> cases sent <;> simp [OutEntry.isUnsentNotice, OutEntry.unsentId]

theorem Link.mem_unsentIds (l : Link) (i : NoticeId) :
    i ∈ l.unsentIds ↔ l.outbox.any (OutEntry.isUnsentNotice i) = true := by
  simp only [Link.unsentIds_eq, List.mem_filterMap, List.any_eq_true, OutEntry.isUnsentNotice_iff]

/-- A posting is one change of the link (R152). -/
theorem State.post_link (s : State) (n : Notice) : LinkMove s.link (s.post n).link := by
  unfold State.post
  split
  · exact .merged n
  · rename_i h1
    split
    · exact .mergedPending n
    · rename_i h2
      have hf : n.id ∉ s.link.unsentIds ++ s.link.notices.map Notice.id := by
        rw [List.mem_append, Link.mem_unsentIds]
        rintro (h | h)
        · exact h1 h
        · obtain ⟨m, hm, hi⟩ := List.mem_map.mp h
          exact h2 (List.any_eq_true.mpr ⟨m, hm, by simpa using hi⟩)
      split
      · rename_i ho
        rw [State.append_eq]
        exact .noticed n ho hf
      · exact .pended n hf

/-- A completion is one change of the link (R145). -/
theorem State.complete_link (s : State) (k : ReqKind) (tag : Byte) (inline chain : List Byte) :
    LinkMove s.link (s.complete k tag inline chain).link := by
  by_cases h : s.link.holdsTag tag = true
  · unfold State.complete
    rw [if_pos h]
    simp only [State.append_eq]
    exact .completed _ _ _ _ tag h
  · rw [State.complete_not_held _ _ _ _ _ (Bool.not_eq_true _ ▸ h)]
    exact .refl _

theorem State.complete_link_of {l : Link} (u : State) (k : ReqKind) (tag : Byte) (inline chain : List Byte)
    (h : u.link = l) : LinkMove l (u.complete k tag inline chain).link :=
  h ▸ u.complete_link k tag inline chain

theorem State.completeSend_link (s : State) (e : SendEntry) (st : Status) (content : List Byte) :
    LinkMove s.link (s.completeSend e st content).link := by
  rw [State.completeSend_eq]
  exact State.complete_link (s.dropSend e) _ _ _ _

theorem State.hand_link (s : State) (src : Carried) (o : AttemptEnd) :
    LinkMove s.link (s.hand src o).link := by
  unfold State.hand
  split
  · unfold State.handSend
    split
    · exact .refl _
    · split
      · exact s.completeSend_link _ _ _
      · exact s.completeSend_link _ _ _
      · exact .refl _
      · exact .refl _
  · rw [State.handReply_link]
    exact .refl _

theorem State.hand_link_of {l : Link} (u : State) (src : Carried) (o : AttemptEnd) (h : u.link = l) :
    LinkMove l (u.hand src o).link := h ▸ u.hand_link src o

theorem State.applyCommit_link (s : State) : LinkMove s.link s.applyCommit.link := by
  unfold State.applyCommit
  split
  · exact .refl _
  · split
    · exact State.complete_link_of _ _ _ _ _ rfl
    · exact State.complete_link_of _ _ _ _ _ rfl

/-- What a move does to the link: nothing, one change, or a full reset and READY. -/
theorem Move.link {scan stop : Prop} {ends : State → Prop} {s t : State} (h : Move scan stop ends s t) :
    LinkMove s.link t.link ∨ ∃ u, LinkMove s.link u ∧ LinkMove u t.link := by
  cases h with
  | data h => exact .inl (.same h.table h.outbox h.nextSeq h.lastRemoved h.notices)
  | cleared => exact .inl .cleared
  | reset cause =>
    refine .inr ⟨_, .cleared, ?_⟩
    unfold State.fullReset
    rw [State.append_eq]
    exact .noticed (l := Link.initial) _ (by decide) (by simp [Link.initial, Link.unsentIds])
  | emptied => exact .inl (.same rfl rfl rfl rfl rfl)
  | filled => exact .inl (.same rfl rfl rfl rfl rfl)
  | replied k tag body h =>
    rw [State.append_eq]
    exact .inl (.replied _ _ _ _ h)
  | repliedLong k tag body h _ =>
    rw [State.append_eq]
    exact .inl (.replied _ _ _ _ h)
  | handedOver q r rest c k tag inline h _ =>
    rw [State.append_eq]
    exact .inl (.replied _ _ _ _ h)
  | posted n => exact .inl (s.post_link n)
  | noticeMoved n ns hn h =>
    rw [State.append_eq]
    exact .inl (.noticeMoved n ns hn h)
  | acked i ack h => exact .inl (.acked i ack h)
  | unsentAgain => exact .inl (.unsentAgain _ _)
  | sent h => exact .inl (.sent h)
  | enteredSend tag f h _ _ => exact .inl (.entered _ _ h.fresh h.table h.occupancy)
  | enteredCommit tag h _ => exact .inl (.entered _ _ h.fresh h.table h.occupancy)
  | enteredStop tag h _ => exact .inl (.entered _ _ h.fresh h.table h.occupancy)
  | enteredSide tag h _ => exact .inl (.entered _ _ h.fresh h.table h.occupancy)
  | commitApplied => exact .inl s.applyCommit_link
  | sendCompleted => exact .inl (s.completeSend_link _ _ _)
  | lineStopCompleted =>
    unfold State.completeLineStop
    split
    · exact .inl (.refl _)
    · exact .inl (State.complete_link_of _ _ _ _ _ rfl)
  | sideCompleted => exact .inl (State.complete_link_of _ _ _ _ _ rfl)
  | attemptEnded => exact .inl (State.hand_link_of _ _ _ rfl)
  | placed =>
    rw [State.placeReply_link]
    exact .inl (.refl _)
  | accepted =>
    rw [State.acceptRecord_link]
    exact .inl (.refl _)
  | frameDropped claimed =>
    rw [State.dropFrame_link]
    cases claimed <;> exact .inl (.refl _)
  | bytePlaced bs =>
    rw [State.setReceiver_link]
    split <;> exact .inl (.refl _)
  | frameTaken =>
    rw [State.enqueue_link]
    exact .inl (.refl _)
  | slotClosed =>
    rw [State.closeSlot_link]
    exact .inl (.refl _)
  | chosen =>
    rw [State.choose_link]
    exact .inl (.refl _)
  | notStarted =>
    rw [State.notStarted_link]
    exact .inl (.refl _)
  | startedInGap =>
    rw [State.startSending_link, State.closeSlot_link]
    exact .inl (.refl _)
  | startedInSlot =>
    rw [State.startSending_link]
    exact .inl (.refl _)
  | _ => exact .inl (.refl _)

/-- A law of the link alone that every change keeps is kept by every step. -/
theorem step_keeps_link {P : Link → Prop} (hm : ∀ {l m : Link}, LinkMove l m → P l → P m) {s t : State}
    (hs : P s.link) (h : step s = .next t) : P t.link := by
  refine step_keeps (P := fun s => P s.link) (fun _ _ h => h) (fun h hs => ?_) hs h
  rcases h.link with h | ⟨u, h1, h2⟩
  · exact hm h hs
  · exact hm h2 (hm h1 hs)

/-! ### What the changes keep -/

theorem Notice.merge_id (old new : Notice) : (old.merge new).id = new.id := by
  cases old <;> cases new <;> rfl

theorem OutEntry.mergeNotice_seq (n : Notice) (e : OutEntry) : (e.mergeNotice n).seq = e.seq := by
  unfold OutEntry.mergeNotice
  split <;> rfl

theorem OutEntry.mergeNotice_sent (n : Notice) (e : OutEntry) : (e.mergeNotice n).sent = e.sent := by
  unfold OutEntry.mergeNotice
  split <;> rfl

/-- A merge of the same kind and subject changes no kind and subject. -/
theorem OutEntry.mergeNotice_unsentId (n : Notice) (e : OutEntry) (h : e.isUnsentNotice n.id = true) :
    (e.mergeNotice n).unsentId = e.unsentId := by
  rw [OutEntry.isUnsentNotice_iff] at h
  rw [h]
  unfold OutEntry.unsentId at *
  unfold OutEntry.mergeNotice
  split at h
  · rename_i m hm
    simp only [hm]
    split at h
    · cases h
    · rename_i hs
      simp only [hs, Notice.merge_id]
      rfl
  · cases h

theorem filterMap_changeFirst {α β : Type} (p : α → Bool) (f : α → α) (g : α → Option β) (l : List α)
    (h : ∀ a, p a = true → g (f a) = g a) : (changeFirst p f l).filterMap g = l.filterMap g := by
  induction l with
  | nil => rfl
  | cons a as ih =>
    unfold changeFirst
    split
    · rename_i hp
      simp [List.filterMap_cons, h a hp]
    · simp [List.filterMap_cons, ih]

theorem unsentIds_append_reply (l : List OutEntry) (q k tag : Byte) (inline chain : List Byte) :
    (l ++ [(⟨q, false, .reply k tag inline chain⟩ : OutEntry)]).filterMap OutEntry.unsentId =
      l.filterMap OutEntry.unsentId := by
  simp [List.filterMap_append, OutEntry.unsentId]

theorem unsentIds_append_notice (l : List OutEntry) (q : Byte) (n : Notice) :
    (l ++ [(⟨q, false, .notice n⟩ : OutEntry)]).filterMap OutEntry.unsentId = l.filterMap OutEntry.unsentId ++ [n.id] := by
  simp [List.filterMap_append, OutEntry.unsentId]

/-! ### The RESEND -/

theorem changeLast_map {α β : Type} (p : α → Bool) (f : α → α) (g : α → β) (l : List α)
    (h : ∀ a, g (f a) = g a) : (changeLast p f l).map g = l.map g := by
  unfold changeLast
  rw [List.map_reverse, changeFirst_map _ _ _ _ h, List.map_reverse, List.reverse_reverse]

theorem filterMap_changeLast {α β : Type} (p : α → Bool) (f : α → α) (g : α → Option β) (l : List α)
    (h : ∀ a, p a = true → g (f a) = g a) : (changeLast p f l).filterMap g = l.filterMap g := by
  unfold changeLast
  rw [List.filterMap_reverse, filterMap_changeFirst _ _ _ _ h, List.filterMap_reverse, List.reverse_reverse]

/-- Step 1 of R152 changes bodies alone: what a merge keeps of each entry stands. -/
theorem absorbPending_map {β : Type} (g : OutEntry → β) (hg : ∀ n e, g (OutEntry.mergeNotice n e) = g e)
    (ns : List Notice) (out : List OutEntry) : (absorbPending out ns).1.map g = out.map g := by
  induction ns generalizing out with
  | nil => rfl
  | cons n ns ih =>
    unfold absorbPending
    split
    · rw [ih, changeLast_map _ _ _ _ (hg n)]
    · exact ih out

theorem absorbPending_unsentIds (ns : List Notice) (out : List OutEntry) :
    (absorbPending out ns).1.filterMap OutEntry.unsentId = out.filterMap OutEntry.unsentId := by
  induction ns generalizing out with
  | nil => rfl
  | cons n ns ih =>
    unfold absorbPending
    split
    · rw [ih, filterMap_changeLast _ _ _ _ (fun e he => e.mergeNotice_unsentId n he)]
    · exact ih out

/-- The members that stay pending are members in their order, and none of their kinds and subjects stands in the
outbox (R152). -/
theorem absorbPending_notices (ns : List Notice) (out : List OutEntry) :
    (absorbPending out ns).2.Sublist ns ∧
      ∀ n ∈ (absorbPending out ns).2, n.id ∉ out.filterMap OutEntry.unsentId := by
  induction ns generalizing out with
  | nil => exact ⟨List.Sublist.refl _, by simp [absorbPending]⟩
  | cons n ns ih =>
    unfold absorbPending
    split
    · obtain ⟨h1, h2⟩ := ih (changeLast (OutEntry.isUnsentNotice n.id) (OutEntry.mergeNotice n) out)
      refine ⟨h1.cons _, fun m hm => ?_⟩
      have h := h2 m hm
      rwa [filterMap_changeLast _ _ _ _ (fun e he => e.mergeNotice_unsentId n he)] at h
    · rename_i hn
      obtain ⟨h1, h2⟩ := ih out
      refine ⟨h1.cons_cons _, fun m hm => ?_⟩
      rcases List.mem_cons.mp hm with rfl | hm
      · exact fun h => hn ((Link.mem_unsentIds { Link.initial with outbox := out } _).mp h)
      · exact h2 m hm

theorem any_isUnsentNotice_iff (out : List OutEntry) (i : NoticeId) :
    out.any (OutEntry.isUnsentNotice i) = true ↔ i ∈ out.filterMap OutEntry.unsentId :=
  (Link.mem_unsentIds { Link.initial with outbox := out } i).symm

/-- The numbers of the entries run on from `first` without a gap (R146). -/
def SeqRun (first : Byte) (out : List OutEntry) : Prop :=
  out.map (fun e => e.seq) = (List.range out.length).map (fun i => first + BitVec.ofNat 8 i)

theorem SeqRun.of_map_eq {first : Byte} {a b : List OutEntry} (h : SeqRun first a)
    (hm : b.map (fun e => e.seq) = a.map (fun e => e.seq)) : SeqRun first b := by
  have hl : b.length = a.length := by simpa using congrArg List.length hm
  unfold SeqRun
  rw [hm, hl]
  exact h

theorem seqRun_snoc {first : Byte} {out : List OutEntry} {e : OutEntry} :
    SeqRun first (out ++ [e]) ↔ SeqRun first out ∧ e.seq = first + BitVec.ofNat 8 out.length := by
  unfold SeqRun
  rw [List.map_append, List.length_append, List.length_singleton, List.range_succ, List.map_append]
  constructor
  · intro h
    obtain ⟨h1, h2⟩ := List.append_inj h (by simp)
    exact ⟨h1, by simpa using h2⟩
  · rintro ⟨h1, h2⟩
    rw [h1]
    simp [h2]

/-- The entry behind `a` others has the number `first` plus their number. -/
theorem SeqRun.seq {out : List OutEntry} {first : Byte} (h : SeqRun first out) (a : List OutEntry)
    (e : OutEntry) (b : List OutEntry) (ho : out = a ++ e :: b) :
    e.seq = first + BitVec.ofNat 8 a.length := by
  have h1 := congrArg (fun l => l[a.length]?) h
  simp only [List.getElem?_map] at h1
  rw [List.getElem?_range (by rw [ho]; simp), ho] at h1
  simpa using h1

/-- What step 2 of R152 has kept of the entries `done`: their numbers run on where those of `done` do, none is SENT, and
no two of its notices are alike. -/
structure Merging.Sound (m : Merging) (done : List OutEntry) : Prop where
  length : m.kept.length + m.removed = done.length
  seqs : ∀ first, SeqRun first done → SeqRun first m.kept
  sents : ∀ e ∈ m.kept, e.sent = false
  nodup : (m.kept.filterMap OutEntry.unsentId).Nodup
  sub : ∀ i ∈ m.kept.filterMap OutEntry.unsentId, i ∈ done.filterMap OutEntry.unsentId

/-- An entry that is kept takes the next number. -/
theorem Merging.Sound.keep {m : Merging} {done : List OutEntry} (h : m.Sound done) (doze : Option Byte)
    (e : OutEntry) (hs : e.sent = false)
    (hi : ∀ i, e.unsentId = some i → i ∉ m.kept.filterMap OutEntry.unsentId) :
    Merging.Sound ⟨m.kept ++ [{ e with seq := e.seq - BitVec.ofNat 8 m.removed }], m.removed, doze⟩
      (done ++ [e]) := by
  have hu : OutEntry.unsentId { e with seq := e.seq - BitVec.ofNat 8 m.removed } = e.unsentId := rfl
  constructor
  · have := h.length
    simp only [List.length_append, List.length_singleton]
    omega
  · intro first hf
    obtain ⟨hd, he⟩ := seqRun_snoc.mp hf
    refine seqRun_snoc.mpr ⟨h.seqs first hd, ?_⟩
    show e.seq - BitVec.ofNat 8 m.removed = _
    rw [he, ← h.length, BitVec.ofNat_add, ← BitVec.add_assoc]
    exact BitVec.add_sub_cancel _ _
  · intro x hx
    rcases List.mem_append.mp hx with hx | hx
    · exact h.sents x hx
    · rw [List.mem_singleton.mp hx]
      exact hs
  · rw [List.filterMap_append, List.nodup_append]
    refine ⟨h.nodup, ?_, ?_⟩
    · simp only [List.filterMap_cons, hu]
      cases e.unsentId <;> simp
    · intro a ha b hb
      simp only [List.filterMap_cons, hu] at hb
      cases hei : e.unsentId with
      | none => simp [hei] at hb
      | some i =>
        simp only [hei, List.filterMap_nil, List.mem_singleton] at hb
        rintro rfl
        exact hi i hei (hb ▸ ha)
  · intro i hi'
    rw [List.filterMap_append, List.mem_append] at hi' ⊢
    refine hi'.imp (h.sub i) (fun hi' => ?_)
    simp only [List.filterMap_cons, hu] at hi' ⊢
    exact hi'

/-- A notice that merges into one that is kept leaves the kept ones' numbers and kinds as they are. -/
theorem Merging.Sound.merge {m : Merging} {done : List OutEntry} (h : m.Sound done) (e : OutEntry)
    (n : Notice) :
    Merging.Sound { m with
      kept := changeFirst (OutEntry.isUnsentNotice n.id) (OutEntry.mergeNotice n) m.kept
      removed := m.removed + 1 } (done ++ [e]) := by
  have hids := filterMap_changeFirst (OutEntry.isUnsentNotice n.id) (OutEntry.mergeNotice n)
    OutEntry.unsentId m.kept (fun x hx => x.mergeNotice_unsentId n hx)
  constructor
  · have := h.length
    simp only [length_changeFirst, List.length_append, List.length_singleton]
    omega
  · intro first hf
    exact (h.seqs first (seqRun_snoc.mp hf).1).of_map_eq
      (changeFirst_map _ _ _ _ (OutEntry.mergeNotice_seq n))
  · intro x hx
    rcases changeFirst_mem _ _ _ _ hx with hx | ⟨y, hy, -, rfl⟩
    · exact h.sents x hx
    · rw [OutEntry.mergeNotice_sent]
      exact h.sents y hy
  · rw [hids]
    exact h.nodup
  · intro i hi
    rw [hids] at hi
    rw [List.filterMap_append, List.mem_append]
    exact .inl (h.sub i hi)

theorem Merging.Sound.take {m : Merging} {done : List OutEntry} (h : m.Sound done)
    (doze : Option Byte) (e : OutEntry) (hs : e.sent = false) : (m.take doze e).Sound (done ++ [e]) := by
  unfold Merging.take
  obtain ⟨q, sent, msg⟩ := e
  cases msg with
  | reply k tag inline chain => exact h.keep _ _ hs (by simp [OutEntry.unsentId])
  | notice n =>
    have hid : OutEntry.unsentId ⟨q, sent, .notice n⟩ = some n.id := by
      dsimp only at hs
      simp [OutEntry.unsentId, hs]
    dsimp only
    split
    · exact h.merge _ n
    · rename_i hd
      refine h.keep _ _ hs (fun i hi hk => hd ?_)
      rw [hid] at hi
      cases hi
      exact (any_isUnsentNotice_iff _ _).mpr hk

theorem Merging.Sound.foldl (doze : Option Byte) (es : List OutEntry) {m : Merging} {done : List OutEntry}
    (h : m.Sound done) (hs : ∀ e ∈ es, e.sent = false) :
    (es.foldl (Merging.take doze) m).Sound (done ++ es) := by
  induction es generalizing m done with
  | nil => simpa using h
  | cons e es ih =>
    have h2 := ih (h.take doze e (hs e (by simp))) (fun x hx => hs x (by simp [hx]))
    simpa using h2

theorem Link.absorbed_seqs (l : Link) :
    l.absorbed.1.map (fun e => e.seq) = l.outbox.map (fun e => e.seq) := by
  unfold Link.absorbed
  rw [absorbPending_map _ OutEntry.mergeNotice_seq, List.map_map]
  rfl

theorem Link.absorbed_sent (l : Link) : ∀ e ∈ l.absorbed.1, e.sent = false := by
  intro e he
  have hm := List.mem_map_of_mem (f := fun e : OutEntry => e.sent) he
  unfold Link.absorbed at hm
  rw [absorbPending_map _ OutEntry.mergeNotice_sent, List.map_map] at hm
  obtain ⟨_, _, h⟩ := List.mem_map.mp hm
  exact h.symm

theorem Link.remade_sound (l : Link) (doze : Option Byte) : (l.remade doze).Sound l.absorbed.1 := by
  have h0 : Merging.Sound ⟨[], 0, doze⟩ [] := by constructor <;> simp
  exact h0.foldl doze _ l.absorbed_sent

end Sys2Proof.Machine
end

section
/-! The four laws of the message link, a change at a time (R144, R146, R152, R154). -/

namespace Sys2Proof.Machine

/-! ### The request table (R144) -/

/-- `TableLaw` of the link alone (R144). -/
def Link.Tabled (l : Link) : Prop :=
  l.occupancy ≤ 32 ∧ l.table.length ≤ 8 ∧ (l.table.map (fun e => e.tag)).Nodup

theorem LinkMove.tabled {l m : Link} (h : LinkMove l m) (hl : l.Tabled) : m.Tabled := by
  obtain ⟨ho, ht, hn⟩ := hl
  cases h with
  | same h1 h2 _ _ _ =>
    simp only [Link.Tabled, Link.occupancy, h1, h2] at *
    exact ⟨ho, ht, hn⟩
  | cleared => exact ⟨by decide, by decide, by decide⟩
  | replied k tag inline chain h =>
    refine ⟨?_, ht, hn⟩
    simp only [Link.occupancy, List.length_append, List.length_singleton] at *
    omega
  | noticed n h _ =>
    refine ⟨?_, ht, hn⟩
    simp only [Link.occupancy, List.length_append, List.length_singleton] at *
    omega
  | completed k tag inline chain t h =>
    obtain ⟨e, he, hte⟩ := (Link.holdsTag_iff _ _).mp h
    have hlen := List.length_eraseP_of_mem he (p := fun e => e.tag == t) (by simpa using hte)
    have hpos := List.length_pos_of_mem he
    refine ⟨?_, ?_, hn.sublist (List.eraseP_sublist.map _)⟩
    · simp only [Link.occupancy, List.length_append, List.length_singleton, hlen] at *
      omega
    · simp only [hlen]
      omega
  | merged n =>
    refine ⟨?_, ht, hn⟩
    simpa only [Link.occupancy, length_changeFirst] using ho
  | mergedPending | pended => exact ⟨ho, ht, hn⟩
  | noticeMoved n ns _ h =>
    refine ⟨?_, ht, hn⟩
    simp only [Link.occupancy, List.length_append, List.length_singleton] at *
    omega
  | acked i ack _ =>
    refine ⟨?_, ht, hn⟩
    simp only [Link.occupancy, List.length_drop] at *
    omega
  | unsentAgain doze c =>
    refine ⟨?_, ht, hn⟩
    have h1 := (l.remade_sound doze).length
    have h2 : l.absorbed.1.length = l.outbox.length := by
      simpa using congrArg List.length l.absorbed_seqs
    simp only [Link.occupancy] at *
    omega
  | sent _ =>
    refine ⟨?_, ht, hn⟩
    simpa only [Link.occupancy, length_changeFirst] using ho
  | entered k tag hf h8 h32 =>
    refine ⟨?_, ?_, ?_⟩
    · simp only [Link.occupancy, List.length_append, List.length_singleton] at *
      omega
    · simp only [List.length_append, List.length_singleton]
      omega
    · rw [List.map_append, List.nodup_append]
      refine ⟨hn, by simp, fun a ha b hb => ?_⟩
      obtain ⟨e, he, rfl⟩ := List.mem_map.mp ha
      simp only [List.map_cons, List.map_nil, List.mem_singleton] at hb
      rintro rfl
      exact Bool.false_ne_true (hf.symm.trans ((Link.holdsTag_iff _ _).mpr ⟨e, he, hb⟩))

/-! ### SENT ahead of UNSENT (R146) -/

/-- Flags of which at most eight are set, every set one ahead of every clear one. -/
def SentFirst (bs : List Bool) : Prop :=
  bs.countP (fun b => b) ≤ 8 ∧ bs.Pairwise (fun older newer => newer = true → older = true)

/-- `SentLaw` of the flags of the outbox (R146). -/
theorem sentLaw_iff (l : Link) : (l.sentCount ≤ 8 ∧
    l.outbox.Pairwise (fun older newer => newer.sent = true → older.sent = true)) ↔
      SentFirst (l.outbox.map (fun e => e.sent)) := by
  simp only [SentFirst, Link.sentCount, List.countP_map, List.pairwise_map]
  rfl

theorem SentFirst.append {bs : List Bool} (h : SentFirst bs) : SentFirst (bs ++ [false]) := by
  obtain ⟨hc, hp⟩ := h
  refine ⟨by simpa using hc, ?_⟩
  rw [List.pairwise_append]
  exact ⟨hp, List.pairwise_singleton _ _, by simp⟩

theorem SentFirst.allClear {bs : List Bool} (h : ∀ b ∈ bs, b = false) : SentFirst bs := by
  constructor
  · rw [List.countP_eq_zero.mpr (fun b hb => by simp [h b hb])]
    exact Nat.zero_le 8
  · exact List.Pairwise.imp_of_mem (R := fun _ _ => True)
      (fun {a b} _ hb _ hs => absurd hs (by simp [h b hb])) (List.pairwise_of_forall (fun _ _ => trivial))

theorem SentFirst.sublist {bs cs : List Bool} (h : SentFirst bs) (hs : cs.Sublist bs) : SentFirst cs :=
  ⟨(hs.countP_le).trans h.1, h.2.sublist hs⟩

/-- Sending the oldest UNSENT entry keeps the SENT ones ahead (R149). -/
theorem SentFirst.send {out : List OutEntry} (h : SentFirst (out.map (fun e => e.sent)))
    (hc : (out.map (fun e => e.sent)).countP (fun b => b) < 8) :
    SentFirst ((changeFirst (fun e => !e.sent) (fun e => { e with sent := true }) out).map
      (fun e => e.sent)) := by
  obtain ⟨-, hp⟩ := h
  have key : ∀ out : List OutEntry, (out.map (fun e => e.sent)).Pairwise
      (fun older newer => newer = true → older = true) →
      ((changeFirst (fun e => !e.sent) (fun e => { e with sent := true }) out).map
        (fun e => e.sent)).Pairwise (fun older newer => newer = true → older = true) ∧
      ((changeFirst (fun e => !e.sent) (fun e => { e with sent := true }) out).map
        (fun e => e.sent)).countP (fun b => b) ≤ (out.map (fun e => e.sent)).countP (fun b => b) + 1 := by
    intro out
    induction out with
    | nil => exact fun _ => ⟨List.Pairwise.nil, Nat.zero_le _⟩
    | cons e es ih =>
      intro hp
      rw [List.map_cons, List.pairwise_cons] at hp
      obtain ⟨h1, h2⟩ := ih hp.2
      unfold changeFirst
      cases hs : e.sent
      · simp only [Bool.not_false, if_true, List.map_cons, hs]
        exact ⟨List.Pairwise.cons (fun _ _ _ => rfl) hp.2, by simp⟩
      · simp only [Bool.not_true, Bool.false_eq_true, if_false, List.map_cons, hs]
        exact ⟨List.Pairwise.cons (fun _ _ _ => rfl) h1, by simpa using h2⟩
  obtain ⟨h1, h2⟩ := key out hp
  exact ⟨by omega, h1⟩

theorem LinkMove.sentFirst {l m : Link} (h : LinkMove l m) (hl : SentFirst (l.outbox.map (fun e => e.sent))) :
    SentFirst (m.outbox.map (fun e => e.sent)) := by
  cases h with
  | same _ h _ _ _ =>
    rw [h]
    exact hl
  | cleared => exact SentFirst.allClear (by simp [Link.initial])
  | replied | noticed | completed | noticeMoved =>
    simp only [List.map_append, List.map_cons, List.map_nil]
    exact hl.append
  | merged n =>
    simp only [changeFirst_map _ _ _ _ (OutEntry.mergeNotice_sent n)]
    exact hl
  | mergedPending | pended | entered => exact hl
  | acked i ack _ => exact hl.sublist ((List.drop_sublist _ _).map _)
  | unsentAgain doze c =>
    refine SentFirst.allClear (fun b hb => ?_)
    obtain ⟨e, he, rfl⟩ := List.mem_map.mp hb
    exact (l.remade_sound doze).sents e he
  | sent h =>
    refine hl.send ?_
    rw [List.countP_map]
    exact h

/-! ### The sequence numbers (R146) -/

/-- `SequenceLaw` of the link alone (R146). -/
def Link.Numbered (l : Link) : Prop :=
  SeqRun (l.lastRemoved + 1) l.outbox ∧ l.nextSeq = l.lastRemoved + 1 + BitVec.ofNat 8 l.outbox.length

/-- A message appended with the next number goes on with the run. -/
theorem Link.Numbered.append {l m : Link} (h : l.Numbered) {e : OutEntry} (he : e.seq = l.nextSeq)
    (ho : m.outbox = l.outbox ++ [e]) (hn : m.nextSeq = l.nextSeq + 1) (hr : m.lastRemoved = l.lastRemoved) :
    m.Numbered := by
  obtain ⟨h1, h2⟩ := h
  refine ⟨by rw [ho, hr, seqRun_snoc]; exact ⟨h1, he.trans h2⟩, ?_⟩
  rw [hn, ho, hr, h2, List.length_append, List.length_singleton, BitVec.ofNat_add, ← BitVec.add_assoc]
  rfl

/-- Changed bodies keep their numbers. -/
theorem Link.Numbered.congr {l m : Link} (h : l.Numbered)
    (ho : m.outbox.map (fun e => e.seq) = l.outbox.map (fun e => e.seq)) (hn : m.nextSeq = l.nextSeq)
    (hr : m.lastRemoved = l.lastRemoved) : m.Numbered := by
  have hlen : m.outbox.length = l.outbox.length := by simpa using congrArg List.length ho
  obtain ⟨h1, h2⟩ := h
  exact ⟨by rw [hr]; exact h1.of_map_eq ho, by rw [hn, hlen, hr, h2]⟩

theorem LinkMove.numbered {l m : Link} (h : LinkMove l m) (hl : l.Numbered) : m.Numbered := by
  cases h with
  | same _ h2 h3 h4 _ => exact hl.congr (by rw [h2]) h3 h4
  | cleared => exact ⟨rfl, by decide⟩
  | replied | noticed | completed | noticeMoved => exact hl.append (e := ⟨_, _, _⟩) rfl rfl rfl rfl
  | merged n => exact hl.congr (changeFirst_map _ _ _ _ (OutEntry.mergeNotice_seq n)) rfl rfl
  | mergedPending | pended | entered => exact hl
  | sent _ => exact hl.congr (changeFirst_map _ _ _ _ (fun _ => rfl)) rfl rfl
  | acked i ack h =>
    obtain ⟨h1, h2⟩ := hl
    rw [List.findIdx?_eq_some_iff_getElem] at h
    obtain ⟨hi, hp, -⟩ := h
    have hack : ack = l.lastRemoved + 1 + BitVec.ofNat 8 i := by
      have he := h1.seq (l.outbox.take i) l.outbox[i] (l.outbox.drop (i + 1))
        (by rw [List.getElem_cons_drop hi, List.take_append_drop])
      rw [List.length_take_of_le (Nat.le_of_lt hi)] at he
      rw [← he]
      simp only [Bool.and_eq_true, beq_iff_eq] at hp
      exact hp.2.symm
    have hsum : ∀ j, l.lastRemoved + 1 + BitVec.ofNat 8 (i + 1 + j) = ack + 1 + BitVec.ofNat 8 j := by
      intro j
      rw [hack, BitVec.ofNat_add, BitVec.ofNat_add]
      simp only [BitVec.add_assoc]
      rfl
    constructor
    · show (l.outbox.drop (i + 1)).map _ = (List.range (l.outbox.drop (i + 1)).length).map _
      unfold SeqRun at h1
      rw [List.map_drop, h1, ← List.map_drop, List.length_drop]
      apply List.ext_getElem
      · simp
      · intro j hj hj'
        simp only [List.getElem_map, List.getElem_drop, List.getElem_range]
        exact hsum j
    · show l.nextSeq = ack + 1 + BitVec.ofNat 8 (l.outbox.drop (i + 1)).length
      rw [h2, List.length_drop, ← hsum]
      congr 2
      omega
  | unsentAgain doze c =>
    obtain ⟨h1, h2⟩ := hl
    have hS := l.remade_sound doze
    have hlen : l.absorbed.1.length = l.outbox.length := by
      simpa using congrArg List.length l.absorbed_seqs
    refine ⟨hS.seqs _ (h1.of_map_eq l.absorbed_seqs), ?_⟩
    show l.nextSeq - _ = _
    rw [h2, ← hlen, ← hS.length, BitVec.ofNat_add, ← BitVec.add_assoc]
    exact BitVec.add_sub_cancel _ _

/-! ### The notices (R152, R154) -/

/-- `NoticeLaw` of the link alone (R152, R154). -/
def Link.NoticesDiffer (l : Link) : Prop := (l.unsentIds ++ l.notices.map Notice.id).Nodup

theorem Link.NoticesDiffer.of_eq {l m : Link} (h : l.NoticesDiffer) (ho : m.unsentIds = l.unsentIds)
    (hn : m.notices.map Notice.id = l.notices.map Notice.id) : m.NoticesDiffer := by
  unfold Link.NoticesDiffer
  rw [ho, hn]
  exact h

theorem nodup_append_middle {α : Type} {a b : List α} {x : α} (h : (a ++ b).Nodup) (hx : x ∉ a ++ b) :
    (a ++ [x] ++ b).Nodup := by
  rw [List.append_assoc, List.singleton_append, List.nodup_middle]
  exact List.nodup_cons.mpr ⟨hx, h⟩

theorem changeFirst_notices (n : Notice) (ns : List Notice) :
    (changeFirst (fun m => m.id = n.id) (fun m => m.merge n) ns).map Notice.id = ns.map Notice.id := by
  induction ns with
  | nil => rfl
  | cons m ns ih =>
    unfold changeFirst
    split
    · rename_i h
      simp only [List.map_cons, Notice.merge_id]
      rw [of_decide_eq_true h]
    · simp only [List.map_cons, ih]

theorem LinkMove.noticesDiffer {l m : Link} (h : LinkMove l m) (hl : l.NoticesDiffer) :
    m.NoticesDiffer := by
  cases h with
  | same _ h2 _ _ h5 => exact hl.of_eq (by rw [Link.unsentIds_eq, h2]; rfl) (by rw [h5])
  | cleared => exact List.nodup_nil
  | replied | completed => exact hl.of_eq (unsentIds_append_reply _ _ _ _ _ _) rfl
  | noticed n _ hf =>
    unfold Link.NoticesDiffer
    rw [Link.unsentIds_eq, unsentIds_append_notice]
    exact nodup_append_middle hl hf
  | merged n =>
    exact hl.of_eq (filterMap_changeFirst _ _ _ _ (fun e he => e.mergeNotice_unsentId n he)) rfl
  | mergedPending n => exact hl.of_eq rfl (changeFirst_notices n _)
  | pended n hf =>
    unfold Link.NoticesDiffer
    rw [List.map_append, ← List.append_assoc, List.nodup_append_comm]
    exact List.nodup_cons.mpr ⟨hf, hl⟩
  | noticeMoved n ns hn _ =>
    unfold Link.NoticesDiffer at *
    rw [Link.unsentIds_eq, unsentIds_append_notice, List.append_assoc]
    rw [hn] at hl
    exact hl
  | acked i ack _ =>
    unfold Link.NoticesDiffer at *
    exact hl.sublist (((List.drop_sublist _ _).filterMap _).append (List.Sublist.refl _))
  | sent _ =>
    unfold Link.NoticesDiffer at *
    refine hl.sublist (List.Sublist.append ?_ (List.Sublist.refl _))
    rw [Link.unsentIds_eq, Link.unsentIds_eq]
    induction l.outbox with
    | nil => exact List.Sublist.refl _
    | cons e es ih =>
      unfold changeFirst
      split
      · have : OutEntry.unsentId { e with sent := true } = none := by
          unfold OutEntry.unsentId
          cases e.msg <;> rfl
        rw [List.filterMap_cons, this]
        exact (List.sublist_cons_self e es).filterMap _
      · rw [List.filterMap_cons, List.filterMap_cons]
        split
        · exact ih
        · exact ih.cons_cons _
  | entered => exact hl
  | unsentAgain doze c =>
    obtain ⟨hsub, hdis⟩ : l.absorbed.2.Sublist l.notices ∧ _ := absorbPending_notices _ _
    have hids : l.absorbed.1.filterMap _ = _ := absorbPending_unsentIds _ _
    have hS := l.remade_sound doze
    unfold Link.NoticesDiffer at *
    rw [Link.unsentIds_eq, List.nodup_append]
    refine ⟨hS.nodup, (List.nodup_append.mp hl).2.1.sublist (hsub.map _), fun i hi j hj => ?_⟩
    obtain ⟨n, hn, rfl⟩ := List.mem_map.mp hj
    rintro rfl
    exact hdis n hn (hids ▸ hS.sub _ hi)

end Sys2Proof.Machine

namespace Sys2Proof

open Machine

/-- Settles O57: each of the four laws is kept by every change of the link. -/
theorem stepsKeepTheLink : Obligations.StepsKeepTheLink := by
  refine ⟨fun s t hs h => ?_, fun s t hs h => ?_, fun s t hs h => ?_, fun s t hs h => ?_⟩
  · exact step_keeps_link (P := Link.Tabled) (fun h => h.tabled) hs h
  · rw [SentLaw, sentLaw_iff] at *
    exact step_keeps_link (P := fun l => SentFirst (l.outbox.map (fun e => e.sent)))
      (fun h => h.sentFirst) hs h
  · exact step_keeps_link (P := Link.Numbered) (fun h => h.numbered) hs h
  · exact step_keeps_link (P := Link.NoticesDiffer) (fun h => h.noticesDiffer) hs h

end Sys2Proof
end

section
/-! The law of the deferred requests (R124, R145), a move at a time. -/

namespace Sys2Proof.Machine

/-! ### The law of a table and of what its requests wait for -/

/-- `DeferredLaw` of the request table, the tags of the send queue, and the tags of the pending commit, of the LINE_STOP
and of the line-side reset that wait. -/
structure Deferred (table : List TableEntry) (sends : List Byte) (commit stop side : Option Byte) : Prop where
  tags : (table.map (fun e => e.tag)).Nodup
  sendTags : sends.Nodup
  send : ∀ tag, (⟨tag, .frameSend⟩ : TableEntry) ∈ table ↔ tag ∈ sends
  commit : ∀ tag, (⟨tag, .sieveCommit⟩ : TableEntry) ∈ table ↔ commit = some tag
  stop : ∀ tag, (⟨tag, .lineStop⟩ : TableEntry) ∈ table ↔ stop = some tag
  side : ∀ tag, (⟨tag, .reset⟩ : TableEntry) ∈ table ↔ side = some tag

/-- What `DeferredLaw` reads of a state. -/
def State.Defers (s : State) : Prop :=
  Deferred s.link.table (s.sender.queue.map (fun e => e.tag)) s.sieve.commit s.line.lineStop
    (s.line.lineSide.map (fun r => r.tag))

theorem deferredLaw_iff (s : State) : DeferredLaw s ↔ s.Defers := by
  constructor
  · rintro ⟨h1, h2, h3, h4, h5, h6⟩
    exact ⟨h1, h2, h3, h4, h5, h6⟩
  · rintro ⟨h1, h2, h3, h4, h5, h6⟩
    exact ⟨h1, h2, h3, h4, h5, h6⟩

section

variable {table : List TableEntry} {sends : List Byte} {commit stop side : Option Byte}

/-- Two entries of the table with one tag are one entry (R144). -/
theorem Deferred.kind_unique (h : Deferred table sends commit stop side) {tag : Byte} {j k : ReqKind}
    (hj : (⟨tag, j⟩ : TableEntry) ∈ table) (hk : (⟨tag, k⟩ : TableEntry) ∈ table) : j = k := by
  have := List.inj_on_of_nodup_map h.tags hj hk rfl
  cases this
  rfl

/-- Taking a tag out of the table and out of all that waits keeps the law. -/
theorem Deferred.without (h : Deferred table sends commit stop side) (tag : Byte) :
    Deferred (table.filter (fun e => e.tag != tag)) (sends.filter (fun t => t != tag))
      (commit.filter (fun t => t != tag)) (stop.filter (fun t => t != tag))
      (side.filter (fun t => t != tag)) := by
  have hm : ∀ (t : Byte) (k : ReqKind), (⟨t, k⟩ : TableEntry) ∈ table.filter (fun e => e.tag != tag) ↔
      (⟨t, k⟩ : TableEntry) ∈ table ∧ t ≠ tag := by
    intro t k
    rw [List.mem_filter]
    simp
  have ho : ∀ (o : Option Byte) (t : Byte), o.filter (fun t => t != tag) = some t ↔ o = some t ∧ t ≠ tag := by
    intro o t
    rw [Option.filter_eq_some_iff]
    simp
  constructor
  · exact h.tags.sublist (List.filter_sublist.map _)
  · exact h.sendTags.filter _
  · intro t
    rw [hm, h.send, List.mem_filter]
    simp
  · intro t
    rw [hm, h.commit, ho]
  · intro t
    rw [hm, h.stop, ho]
  · intro t
    rw [hm, h.side, ho]

theorem option_filter_ne {o : Option Byte} {tag : Byte} (h : o ≠ some tag) :
    o.filter (fun t => t != tag) = o := by
  cases o with
  | none => rfl
  | some t =>
    have : t ≠ tag := fun ht => h (by rw [ht])
    simp [Option.filter, this]

theorem option_filter_self (tag : Byte) : (some tag).filter (fun t => t != tag) = none := by
  simp [Option.filter]

theorem filter_ne_of_not_mem {l : List Byte} {tag : Byte} (h : tag ∉ l) :
    l.filter (fun t => t != tag) = l := by
  rw [List.filter_eq_self]
  intro t ht
  rw [bne_iff_ne]
  rintro rfl
  exact h ht

/-- The final outcome of a send takes its FRAME_SEND out (R127). -/
theorem Deferred.withoutSend (h : Deferred table sends commit stop side) {tag : Byte} (ht : tag ∈ sends) :
    Deferred (table.filter (fun e => e.tag != tag)) (sends.filter (fun t => t != tag)) commit stop side := by
  have hk := (h.send tag).mpr ht
  have hw := h.without tag
  rwa [option_filter_ne (o := commit) (fun hc => by cases h.kind_unique hk ((h.commit tag).mpr hc)),
    option_filter_ne (o := stop) (fun hc => by cases h.kind_unique hk ((h.stop tag).mpr hc)),
    option_filter_ne (o := side) (fun hc => by cases h.kind_unique hk ((h.side tag).mpr hc))] at hw

/-- The end of a commit takes its SIEVE_COMMIT out (R50). -/
theorem Deferred.withoutCommit {tag : Byte} (h : Deferred table sends (some tag) stop side) :
    Deferred (table.filter (fun e => e.tag != tag)) sends none stop side := by
  have hk := (h.commit tag).mpr rfl
  have hw := h.without tag
  rw [option_filter_self] at hw
  rwa [filter_ne_of_not_mem (fun hc => by cases h.kind_unique hk ((h.send tag).mpr hc)),
    option_filter_ne (o := stop) (fun hc => by cases h.kind_unique hk ((h.stop tag).mpr hc)),
    option_filter_ne (o := side) (fun hc => by cases h.kind_unique hk ((h.side tag).mpr hc))] at hw

/-- The end of a stopping sequence takes its LINE_STOP out (R22). -/
theorem Deferred.withoutStop {tag : Byte} (h : Deferred table sends commit (some tag) side) :
    Deferred (table.filter (fun e => e.tag != tag)) sends commit none side := by
  have hk := (h.stop tag).mpr rfl
  have hw := h.without tag
  rw [option_filter_self] at hw
  rwa [filter_ne_of_not_mem (fun hc => by cases h.kind_unique hk ((h.send tag).mpr hc)),
    option_filter_ne (o := commit) (fun hc => by cases h.kind_unique hk ((h.commit tag).mpr hc)),
    option_filter_ne (o := side) (fun hc => by cases h.kind_unique hk ((h.side tag).mpr hc))] at hw

/-- The end of a line-side reset takes its RESET out (R158). -/
theorem Deferred.withoutSide {tag : Byte} (h : Deferred table sends commit stop (some tag)) :
    Deferred (table.filter (fun e => e.tag != tag)) sends commit stop none := by
  have hk := (h.side tag).mpr rfl
  have hw := h.without tag
  rw [option_filter_self] at hw
  rwa [filter_ne_of_not_mem (fun hc => by cases h.kind_unique hk ((h.send tag).mpr hc)),
    option_filter_ne (o := commit) (fun hc => by cases h.kind_unique hk ((h.commit tag).mpr hc)),
    option_filter_ne (o := stop) (fun hc => by cases h.kind_unique hk ((h.stop tag).mpr hc))] at hw

/-- A request whose tag no entry holds may enter the table for what it waits for. -/
theorem Deferred.enter {sends' : List Byte} {commit' stop' side' : Option Byte}
    (h : Deferred table sends commit stop side) {tag : Byte} {k : ReqKind}
    (hf : ∀ e ∈ table, e.tag ≠ tag) (hn : sends'.Nodup)
    (h1 : ∀ t, t ∈ sends' ↔ t ∈ sends ∨ t = tag ∧ k = .frameSend)
    (h2 : ∀ t, commit' = some t ↔ commit = some t ∨ t = tag ∧ k = .sieveCommit)
    (h3 : ∀ t, stop' = some t ↔ stop = some t ∨ t = tag ∧ k = .lineStop)
    (h4 : ∀ t, side' = some t ↔ side = some t ∨ t = tag ∧ k = .reset) :
    Deferred (table ++ [⟨tag, k⟩]) sends' commit' stop' side' := by
  have hm : ∀ (t : Byte) (j : ReqKind), (⟨t, j⟩ : TableEntry) ∈ table ++ [⟨tag, k⟩] ↔
      (⟨t, j⟩ : TableEntry) ∈ table ∨ t = tag ∧ k = j := by
    intro t j
    simp [eq_comm]
  constructor
  · rw [List.map_append, List.nodup_append]
    refine ⟨h.tags, by simp, fun a ha b hb => ?_⟩
    obtain ⟨e, he, rfl⟩ := List.mem_map.mp ha
    simp only [List.map_cons, List.map_nil, List.mem_singleton] at hb
    rw [hb]
    exact hf e he
  · exact hn
  · intro t
    rw [hm, h.send, h1]
  · intro t
    rw [hm, h.commit, h2]
  · intro t
    rw [hm, h.stop, h3]
  · intro t
    rw [hm, h.side, h4]

end

/-! ### What a move does to the deferred requests -/

/-- What the deferred requests wait for stands as it was. -/
structure SameDeferred (s t : State) : Prop where
  table : t.link.table = s.link.table
  sends : t.sender.queue.map (fun e => e.tag) = s.sender.queue.map (fun e => e.tag)
  commit : t.sieve.commit = s.sieve.commit
  stop : t.line.lineStop = s.line.lineStop
  side : t.line.lineSide.map (fun r => r.tag) = s.line.lineSide.map (fun r => r.tag)

theorem SameDeferred.defers {s t : State} (h : SameDeferred s t) (hs : s.Defers) : t.Defers := by
  unfold State.Defers
  rw [h.table, h.sends, h.commit, h.stop, h.side]
  exact hs

theorem SameDeferred.trans {s t u : State} (h : SameDeferred s t) (h' : SameDeferred t u) :
    SameDeferred s u :=
  ⟨h'.table.trans h.table, h'.sends.trans h.sends, h'.commit.trans h.commit, h'.stop.trans h.stop,
    h'.side.trans h.side⟩

/-- A list of distinct keys without the first entry of a key is the list without all of them. -/
theorem eraseP_key {α : Type} (g : α → Byte) (l : List α) (k : Byte) (hn : (l.map g).Nodup) :
    l.eraseP (fun x => g x == k) = l.filter (fun x => g x != k) := by
  induction l with
  | nil => rfl
  | cons a l ih =>
    rw [List.map_cons, List.nodup_cons] at hn
    by_cases h : g a = k
    · rw [List.eraseP_cons_of_pos (by simpa using h), List.filter_cons_of_neg (by simpa using h)]
      symm
      rw [List.filter_eq_self]
      intro x hx
      rw [bne_iff_ne]
      rintro hxk
      exact hn.1 (List.mem_map.mpr ⟨x, hx, hxk.trans h.symm⟩)
    · rw [List.eraseP_cons_of_neg (by simpa using h), List.filter_cons_of_pos (by simpa using h), ih hn.2]

/-- A completion takes its tag's entry, and no other, out of the table. -/
theorem State.complete_table {s : State} (k : ReqKind) (tag : Byte) (inline chain : List Byte)
    (hn : (s.link.table.map (fun e => e.tag)).Nodup) (h : s.link.holdsTag tag = true) :
    (s.complete k tag inline chain).link.table = s.link.table.filter (fun e => e.tag != tag) := by
  have he : s.link.table.eraseP (fun e => e.tag == tag) =
      s.link.table.filter (fun e => e.tag != tag) := eraseP_key TableEntry.tag _ _ hn
  unfold State.complete
  rw [if_pos h]
  simpa using he

theorem Link.holdsTag_of_mem {l : Link} {tag : Byte} {k : ReqKind} (h : (⟨tag, k⟩ : TableEntry) ∈ l.table) :
    l.holdsTag tag = true := (Link.holdsTag_iff _ _).mpr ⟨_, h, rfl⟩

theorem State.completeSend_defers {s : State} (hs : s.Defers) {e : SendEntry}
    (he : e ∈ s.sender.queue) (st : Status) (content : List Byte) : (s.completeSend e st content).Defers := by
  have hm : e.tag ∈ s.sender.queue.map (fun e => e.tag) := List.mem_map.mpr ⟨e, he, rfl⟩
  have ht : s.link.holdsTag e.tag = true := Link.holdsTag_of_mem ((hs.send e.tag).mpr hm)
  have h := hs.withoutSend hm
  have hq : s.sender.queue.eraseP (fun x => x.tag == e.tag) =
      s.sender.queue.filter (fun x => x.tag != e.tag) := eraseP_key SendEntry.tag _ _ hs.sendTags
  have htab : (s.completeSend e st content).link.table =
      s.link.table.filter (fun x => x.tag != e.tag) := by
    rw [State.completeSend_eq]
    exact State.complete_table _ _ _ _ hs.tags ht
  have hmap : (s.sender.queue.filter (fun x => x.tag != e.tag)).map SendEntry.tag =
      (s.sender.queue.map SendEntry.tag).filter (fun t => t != e.tag) := by
    rw [List.filter_map]
    rfl
  unfold State.Defers
  rw [State.completeSend_queue, State.completeSend_line, State.completeSend_sieve, htab, hq, hmap]
  exact h

theorem State.notStarted_tags (s : State) :
    s.notStarted.sender.queue.map (fun e => e.tag) = s.sender.queue.map (fun e => e.tag) := by
  unfold State.notStarted
  split
  · split
    · exact changeFirst_map _ _ _ _ (fun _ => rfl)
    · rfl
  · rfl

theorem State.notStarted_same (s : State) : SameDeferred s s.notStarted := by
  constructor
  · simp
  · exact s.notStarted_tags
  · simp
  · rw [State.notStarted_line]
  · rw [State.notStarted_line]

theorem State.closeSlot_same (s : State) : SameDeferred s s.closeSlot := by
  constructor
  · simp
  · unfold State.closeSlot State.closingReport
    split
    · rfl
    · split
      · rfl
      · dsimp only
        split
        · rw [State.notStarted_tags, State.lateReply_sender]
        · rw [State.lateReply_sender]
    · rfl
  · simp
  · simp
  · simp

theorem State.choose_same (s : State) : SameDeferred s s.choose := by
  obtain ⟨tr, hl⟩ := s.choose_line
  constructor
  · simp
  · unfold State.choose State.grantReply State.grantSend
    split
    · split
      · rfl
      · split
        · rfl
        · exact changeFirst_map _ _ _ _ (fun _ => rfl)
    · rfl
    · exact changeFirst_map _ _ _ _ (fun _ => rfl)
    · rfl
  · simp
  · rw [hl]
  · rw [hl]

/-- An attempt's outcome keeps the law, whether the entry stays or has its FRAME_SEND completed. -/
theorem State.hand_defers {s : State} (hs : s.Defers) (src : Carried) (o : AttemptEnd) :
    (s.hand src o).Defers := by
  unfold State.hand
  split
  · rename_i tag
    unfold State.handSend
    split
    · exact hs
    · rename_i e he
      have hm := List.mem_of_find?_eq_some he
      have hc : ∀ p f, (∀ x : SendEntry, (f x).tag = x.tag) →
          SameDeferred s (s.setSends (changeFirst p f s.sender.queue)) := fun p f hf =>
        ⟨rfl, changeFirst_map _ _ _ _ hf, rfl, rfl, rfl⟩
      split
      · exact State.completeSend_defers hs hm _ _
      · exact State.completeSend_defers hs hm _ _
      · refine SameDeferred.defers ?_ hs
        exact hc _ _ (fun _ => rfl)
      · refine SameDeferred.defers ?_ hs
        exact hc _ _ (fun _ => rfl)
  · refine SameDeferred.defers ⟨?_, ?_, ?_, ?_, ?_⟩ hs <;> simp

theorem State.applyCommit_defers {s : State} (hs : s.Defers) : s.applyCommit.Defers := by
  unfold State.applyCommit
  split
  · exact hs
  · rename_i tag hc
    unfold State.Defers at hs
    rw [hc] at hs
    have ht : s.link.holdsTag tag = true := Link.holdsTag_of_mem ((hs.commit tag).mpr rfl)
    have h := hs.withoutCommit
    split
    · unfold State.Defers
      rw [State.complete_table _ _ _ _ (by exact hs.tags) (by exact ht)]
      simpa using h
    · unfold State.Defers
      rw [State.complete_table _ _ _ _ (by exact hs.tags) (by exact ht)]
      simpa using h

theorem Room.fresh_mem {s : State} {tag : Byte} (h : Room s tag) : ∀ e ∈ s.link.table, e.tag ≠ tag :=
  fun e he ht => Bool.false_ne_true (h.fresh.symm.trans ((Link.holdsTag_iff _ _).mpr ⟨e, he, ht⟩))

/-- A move keeps the law of the deferred requests (R124, R145). -/
theorem Move.defers {scan stop : Prop} {ends : State → Prop} {s t : State}
    (h : Move scan stop ends s t) (hs : s.Defers) : t.Defers := by
  cases h with
  | data h => exact SameDeferred.defers ⟨h.table, by rw [h.sends], h.commit, h.lineStop, h.sideTag⟩ hs
  | cleared => exact (deferredLaw_iff State.cleared).mp ⟨by decide, by decide, by decide, by decide,
      by decide, by decide⟩
  | reset cause => exact (deferredLaw_iff State.cleared).mp ⟨by decide, by decide, by decide, by decide,
      by decide, by decide⟩
  | enteredSend tag f hr _ _ =>
    have hnew : tag ∉ s.sender.queue.map (fun e => e.tag) := fun hm =>
      hr.fresh_mem _ ((hs.send tag).mpr hm) rfl
    refine Deferred.enter (k := .frameSend) hs hr.fresh_mem ?_ ?_ (by simp) (by simp) (by simp)
    · show ((s.sender.queue ++ [_]).map _).Nodup
      rw [List.map_append, List.nodup_append]
      refine ⟨hs.sendTags, by simp, fun a ha b hb => ?_⟩
      simp only [List.map_cons, List.map_nil, List.mem_singleton] at hb
      rintro rfl
      exact hnew (hb ▸ ha)
    · intro t
      show t ∈ (s.sender.queue ++ [_]).map _ ↔ _
      simp
  | enteredCommit tag hr hn =>
    exact Deferred.enter (k := .sieveCommit) hs hr.fresh_mem hs.sendTags (by simp)
      (by simp [hn, eq_comm]) (by simp) (by simp)
  | enteredStop tag hr hn =>
    exact Deferred.enter (k := .lineStop) hs hr.fresh_mem hs.sendTags (by simp)
      (by simp) (by simp [hn, eq_comm]) (by simp)
  | enteredSide tag hr hn =>
    exact Deferred.enter (k := .reset) hs hr.fresh_mem hs.sendTags (by simp)
      (by simp) (by simp) (by simp [hn, eq_comm])
  | commitApplied => exact State.applyCommit_defers hs
  | sendCompleted e st content he _ =>
    exact State.completeSend_defers hs (List.mem_of_find?_eq_some he) _ _
  | lineStopCompleted =>
    unfold State.completeLineStop
    split
    · exact hs
    · rename_i tag hl
      unfold State.Defers at hs
      rw [hl] at hs
      have ht : s.link.holdsTag tag = true := Link.holdsTag_of_mem ((hs.stop tag).mpr rfl)
      have h := hs.withoutStop
      unfold State.Defers State.refuse
      rw [State.complete_table _ _ _ _ (by exact hs.tags) (by exact ht)]
      simpa using h
  | sideCompleted r hr =>
    unfold State.Defers at hs
    rw [hr] at hs
    have ht : s.link.holdsTag r.tag = true := Link.holdsTag_of_mem ((hs.side r.tag).mpr rfl)
    have h := Deferred.withoutSide hs
    unfold State.Defers State.refuse
    rw [State.complete_table _ _ _ _ (by exact hs.tags) (by exact ht)]
    simpa using h
  | slotClosed => exact s.closeSlot_same.defers hs
  | chosen => exact s.choose_same.defers hs
  | notStarted => exact s.notStarted_same.defers hs
  | startedInGap g =>
    refine (s.closeSlot_same.trans ?_).defers hs
    unfold State.startSending
    split <;> exact ⟨rfl, rfl, rfl, rfl, rfl⟩
  | startedInSlot g =>
    unfold State.startSending
    split <;> exact hs
  | attemptEnded g l o h _ _ =>
    refine State.hand_defers ?_ _ _
    unfold State.Defers
    dsimp only
    rw [h.lineStop, h.lineSide]
    exact hs
  | sendWaits tag p =>
    refine SameDeferred.defers (s := s) ⟨rfl, ?_, rfl, rfl, rfl⟩ hs
    exact changeFirst_map _ _ _ _ (fun _ => rfl)
  | posted n =>
    refine SameDeferred.defers ⟨?_, by simp, by simp, by simp, by simp⟩ hs
    unfold State.post
    split
    · rfl
    · split
      · rfl
      · split <;> simp
  | placed => exact SameDeferred.defers ⟨by simp, by simp, by simp, by simp, by simp⟩ hs
  | frameTaken bs c =>
    obtain ⟨p, g, sl, hl, -⟩ := s.line.frameEnded_eq (Frame.ofBytes bs) true
    refine SameDeferred.defers ⟨by simp, by simp, by simp, ?_, ?_⟩ hs <;> simp [hl]
  | frameDropped claimed after c => cases claimed <;> exact hs
  | bytePlaced bs =>
    unfold State.setReceiver
    split <;> exact hs
  | replied | repliedLong | handedOver | noticeMoved =>
    exact SameDeferred.defers ⟨by simp; try rfl, by simp; try rfl, by simp; try rfl, by simp; try rfl,
      by simp; try rfl⟩ hs
  | _ => exact hs

end Sys2Proof.Machine

namespace Sys2Proof

open Machine

/-- Settles O58: each move keeps the law of the deferred requests. -/
theorem stepsKeepTheDeferredRequests : Obligations.StepsKeepTheDeferredRequests := by
  intro s t hs h
  rw [deferredLaw_iff] at *
  exact step_keeps (P := State.Defers) (fun _ _ h => h) (fun hm => hm.defers) hs h

end Sys2Proof
end

section
/-! The law of the holders' counts (R26, R27), a move at a time. -/

namespace Sys2Proof.Machine

/-! ### A pool that holds what it should -/

/-- The pool's held counts are the given ones. -/
def Pool.Holds (p : Pool) (f : Holder → Nat) : Prop := ∀ h, p.held h = f h

theorem Pool.held_setHeld_of_ne (p : Pool) {a h : Holder} (n : Nat) (hne : h ≠ a) :
    (p.setHeld a n).held h = p.held h := by
  by_cases hq : ∃ q q', a = .queue q ∧ h = .queue q'
  swap
  · cases a <;> cases h <;> simp_all [Pool.held, Pool.setHeld]
  obtain ⟨q, q', rfl, rfl⟩ := hq
  have hq : (q : Nat) ≠ q' := fun h => hne (by rw [Fin.ext h])
  show (p.queue.set q n)[(q' : Nat)] = p.queue[(q' : Nat)]
  rw [Vector.getElem_set_ne _ _ hq]

section

variable {p : Pool} {f g : Holder → Nat} (hp : p.Holds f)

include hp

theorem Pool.Holds.claim {a : Holder} {c : Nat} (ha : g a = f a + c) (ho : ∀ h, h ≠ a → g h = f h) :
    (p.claim a c).Holds g := by
  intro h
  show (p.setHeld a _).held h = _
  by_cases hh : h = a
  · subst hh
    rw [Pool.held_setHeld, ha, hp]
  · rw [Pool.held_setHeld_of_ne _ _ hh, ho h hh, hp]

theorem Pool.Holds.release {a : Holder} {c : Nat} (ha : g a + c = f a) (ho : ∀ h, h ≠ a → g h = f h) :
    (p.release a c).Holds g := by
  intro h
  show (p.setHeld a _).held h = _
  by_cases hh : h = a
  · subst hh
    rw [Pool.held_setHeld, hp]
    omega
  · rw [Pool.held_setHeld_of_ne _ _ hh, ho h hh, hp]

theorem Pool.Holds.move {a b : Holder} {c : Nat} (hab : a ≠ b) (ha : g a + c = f a) (hb : g b = f b + c)
    (ho : ∀ h, h ≠ a → h ≠ b → g h = f h) : (p.move a b c).Holds g := by
  intro h
  unfold Pool.move
  dsimp only
  by_cases hhb : h = b
  · subst hhb
    rw [Pool.held_setHeld, Pool.held_setHeld_of_ne _ _ (Ne.symm hab), hp, hp, hb]
    omega
  · rw [Pool.held_setHeld_of_ne _ _ hhb]
    by_cases hha : h = a
    · subst hha
      rw [Pool.held_setHeld, hp]
      omega
    · rw [Pool.held_setHeld_of_ne _ _ hha, ho h hha hhb, hp]

end

/-! ### What a state's holders should hold -/

/-- The cells of what each holder holds, the frame under evaluation counting `c`. -/
def State.owed (s : State) (c : Nat) : Holder → Nat
  | .receive => s.line.receiver.cells
  | .classify => (s.classifier.queue.map (fun w => w.frame.cells)).sum + c
  | .queue q => cellsOf s.queues[q].records
  | .responder => (s.responder.queue.map (fun e => e.frame.cells)).sum
  | .send => (s.sender.queue.map (fun e => e.frame.cells)).sum
  | .outbox => (s.link.outbox.map (fun e => e.msg.cells)).sum

/-- `HoldersLaw` with `c` for the cells of the frame under evaluation. -/
def State.Held (s : State) (c : Nat) : Prop :=
  s.pool.Holds (s.owed c) ∧ (s.line.hears = false → s.line.receiver = .idle)

theorem State.Held.holds {s : State} {c : Nat} (h : s.Held c) : s.pool.Holds (s.owed c) := h.1

theorem State.Held.deaf {s : State} {c : Nat} (h : s.Held c) :
    s.line.hears = false → s.line.receiver = .idle := h.2

/-- The cells of the frame under evaluation. -/
def Classifier.evalCells (c : Classifier) : Nat :=
  match c.eval with
  | some e => e.member.frame.cells
  | none => 0

theorem holdersLaw_iff (s : State) : HoldersLaw s ↔ s.Held s.classifier.evalCells := by
  constructor
  · rintro ⟨h1, h2, h3, h4, h5, h6, h7⟩
    refine ⟨fun h => ?_, h7⟩
    cases h with
    | receive => exact h1
    | classify => exact h2
    | queue q => exact h3 q
    | responder => exact h4
    | send => exact h5
    | outbox => exact h6
  · rintro ⟨h, h7⟩
    exact ⟨h .receive, h .classify, fun q => h (.queue q), h .responder, h .send, h .outbox, h7⟩

/-- What the law reads of two states is the same. -/
structure SameOwed (s t : State) : Prop where
  pool : ∀ h, t.pool.held h = s.pool.held h
  mode : t.line.mode = s.line.mode
  receiver : t.line.receiver = s.line.receiver
  waiting : t.classifier.queue = s.classifier.queue
  records : ∀ q : Fin 4, t.queues[q].records = s.queues[q].records
  replies : t.responder.queue.map (fun e => e.frame.cells) = s.responder.queue.map (fun e => e.frame.cells)
  sends : t.sender.queue.map (fun e => e.frame.cells) = s.sender.queue.map (fun e => e.frame.cells)
  outbox : (t.link.outbox.map (fun e => e.msg.cells)).sum = (s.link.outbox.map (fun e => e.msg.cells)).sum

theorem SameOwed.held {s t : State} {c : Nat} (h : SameOwed s t) (hs : s.Held c) : t.Held c := by
  refine ⟨fun a => ?_, ?_⟩
  · rw [h.pool, hs.holds]
    cases a <;> simp only [State.owed, h.receiver, h.waiting, h.records, h.replies, h.sends, h.outbox]
  · have hd := hs.deaf
    unfold Line.hears at *
    rwa [h.mode, h.receiver]

theorem SameData.owed {s t : State} (h : SameData s t) : SameOwed s t where
  pool a := by cases a <;> simp only [Pool.held, h.receive, h.classify, h.queueCells, h.replyCells, h.sendCells,
    h.outboxCells]
  mode := h.mode
  receiver := h.receiver
  waiting := h.waiting
  records := h.records
  replies := by rw [h.replies]
  sends := by rw [h.sends]
  outbox := by rw [h.outbox]

/-- An appended message brings its own cells and nothing else. -/
theorem State.append_held {s : State} {c : Nat} (m : Message)
    (h : s.pool.Holds (fun a => if a = .outbox then s.owed c a + m.cells else s.owed c a))
    (hd : s.line.hears = false → s.line.receiver = .idle) : (s.append m).Held c := by
  refine ⟨fun a => ?_, by simpa using hd⟩
  rw [State.append_pool, h a]
  cases a <;> simp [State.owed]

theorem State.append_held_of_zero {s : State} {c : Nat} (m : Message) (hm : m.cells = 0) (hs : s.Held c) :
    (s.append m).Held c :=
  State.append_held m (fun a => by rw [hs.holds, hm]; simp) hs.deaf

/-- A completion without a chain brings no cells. -/
theorem State.Held.complete {s : State} {c : Nat} (hs : s.Held c) (k : ReqKind) (tag : Byte)
    (inline : List Byte) : (s.complete k tag inline []).Held c := by
  unfold State.complete
  split
  · exact State.append_held_of_zero _ rfl hs
  · exact hs

theorem OutEntry.mergeNotice_cells (n : Notice) (e : OutEntry) :
    (e.mergeNotice n).msg.cells = e.msg.cells := by
  unfold OutEntry.mergeNotice
  split
  · rename_i h
    simp [h, Message.cells]
  · rfl

theorem State.post_held {s : State} {c : Nat} (n : Notice) (hs : s.Held c) : (s.post n).Held c := by
  unfold State.post
  split
  · refine SameOwed.held (s := s) ⟨fun _ => rfl, rfl, rfl, rfl, fun _ => rfl, rfl, rfl, ?_⟩ hs
    dsimp only
    rw [changeFirst_map _ _ _ _ (OutEntry.mergeNotice_cells n)]
  · split
    · exact SameOwed.held (s := s) ⟨fun _ => rfl, rfl, rfl, rfl, fun _ => rfl, rfl, rfl, rfl⟩ hs
    · split
      · exact State.append_held_of_zero _ rfl hs
      · exact SameOwed.held (s := s) ⟨fun _ => rfl, rfl, rfl, rfl, fun _ => rfl, rfl, rfl, rfl⟩ hs

theorem State.setQueue_records (s : State) (q a : Fin 4) (d : DeliveryQueue) :
    (s.setQueue q d).queues[a].records = if a = q then d.records else s.queues[a].records := by
  by_cases h : a = q
  · subst h
    simp [State.setQueue]
  · have hq : (q : Nat) ≠ a := fun hh => h (Fin.ext hh.symm)
    simp [State.setQueue, h, Vector.getElem_set_ne _ _ hq]

theorem State.removeRecords_held {s : State} {c : Nat} (q : Fin 4) (kept removed : List Record)
    (hc : cellsOf kept + cellsOf removed = cellsOf s.queues[q].records) (hs : s.Held c) :
    (s.removeRecords q kept removed).Held c := by
  have hr : ∀ a, (s.removeRecords q kept removed).queues[a].records =
      if a = q then kept else s.queues[a].records := fun a => s.setQueue_records q a _
  refine ⟨Pool.Holds.release hs.holds (a := .queue q) ?_ ?_, hs.deaf⟩
  · show cellsOf (s.removeRecords q kept removed).queues[q].records + _ = _
    rw [hr, if_pos rfl]
    exact hc
  · intro a ha
    cases a with
    | queue q' =>
      show cellsOf (s.removeRecords q kept removed).queues[q'].records = _
      rw [hr, if_neg (fun h => ha (by rw [h]))]
      rfl
    | _ => rfl

theorem Quiet.held {s t : State} {c : Nat} (h : Quiet s t) (hs : s.Held c) : t.Held c := by
  cases h with
  | data h => exact h.owed.held hs
  | posted n => exact State.post_held n hs
  | gave => exact hs
  | recordsRemoved q kept removed _ hc => exact State.removeRecords_held q kept removed hc hs

/-! ### Sums of a list without one of its members -/

theorem sum_eraseP {α : Type} {p : α → Bool} {l : List α} {e : α} (g : α → Nat) (h : l.find? p = some e) :
    ((l.eraseP p).map g).sum + g e = (l.map g).sum := by
  obtain ⟨he, a, b, rfl, ha⟩ := List.find?_eq_some_iff_append.mp h
  rw [eraseP_split p a b e (fun x hx => by simpa using ha x hx) he]
  simp
  omega

/-- In a list of distinct keys a member is the first one of its key. -/
theorem find?_key {α : Type} (g : α → Byte) {l : List α} {e : α} (hn : (l.map g).Nodup) (he : e ∈ l) :
    l.find? (fun x => g x == g e) = some e := by
  have hex : (l.find? (fun x => g x == g e)).isSome = true :=
    List.find?_isSome.mpr ⟨e, he, beq_self_eq_true (g e)⟩
  obtain ⟨x, hx⟩ := Option.isSome_iff_exists.mp hex
  have hg := List.find?_some hx
  rw [beq_iff_eq] at hg
  rw [hx, List.inj_on_of_nodup_map hn (List.mem_of_find?_eq_some hx) he hg]

/-! ### What the moves keep -/

section

variable {s : State} {c : Nat} (hs : s.Held c)

include hs

theorem State.dropReply_held (p : ReplyEntry → Bool) : (s.dropReply p).Held c := by
  unfold State.dropReply
  split
  · exact hs
  · rename_i e he
    refine ⟨Pool.Holds.release hs.holds (a := .responder) (sum_eraseP _ he) ?_, hs.deaf⟩
    intro a ha
    cases a with
    | responder => exact absurd rfl ha
    | _ => rfl

theorem State.setReplies_held {rs : List ReplyEntry}
    (h : rs.map (fun e => e.frame.cells) = s.responder.queue.map (fun e => e.frame.cells)) :
    (s.setReplies rs).Held c :=
  SameOwed.held (s := s) ⟨fun _ => rfl, rfl, rfl, rfl, fun _ => rfl, h, rfl, rfl⟩ hs

theorem State.setSends_held {es : List SendEntry}
    (h : es.map (fun e => e.frame.cells) = s.sender.queue.map (fun e => e.frame.cells)) :
    (s.setSends es).Held c :=
  SameOwed.held (s := s) ⟨fun _ => rfl, rfl, rfl, rfl, fun _ => rfl, rfl, h, rfl⟩ hs

theorem State.lateReply_held (p : ReplyEntry → Bool) (l : LatePolicy) : (s.lateReply p l).Held c := by
  cases l with
  | drop => exact State.dropReply_held hs p
  | send => exact State.setReplies_held hs (changeFirst_map _ _ _ _ (fun _ => rfl))

theorem State.notStarted_held : s.notStarted.Held c := by
  unfold State.notStarted
  split
  · split
    · refine State.setSends_held (s := s.setTransmitter .idle) hs ?_
      exact changeFirst_map _ _ _ _ (fun _ => rfl)
    · refine State.setReplies_held (s := s.setTransmitter .idle) hs ?_
      exact changeFirst_map _ _ _ _ (fun _ => rfl)
  · exact hs

theorem State.closeSlot_held : s.closeSlot.Held c := by
  unfold State.closeSlot
  split
  · exact hs
  · unfold State.closingReport
    split
    · exact hs
    · have hl := State.lateReply_held (s := { s with line := { s.line with slot := .none } })
        (by exact hs)
      dsimp only
      split
      · exact State.notStarted_held (hl _ _)
      · exact hl _ _
  · exact hs

theorem State.completeSend_held {e : SendEntry} (st : Status) (content : List Byte)
    (h : s.sender.queue.find? (fun x => x.tag == e.tag) = some e) : (s.completeSend e st content).Held c := by
  rw [State.completeSend_eq]
  have hd : (s.dropSend e).Held c := by
    refine ⟨Pool.Holds.release hs.holds (a := .send) (sum_eraseP _ h) ?_, hs.deaf⟩
    intro a ha
    cases a with
    | send => exact absurd rfl ha
    | _ => rfl
  exact hd.complete _ _ _

theorem State.applyCommit_held : s.applyCommit.Held c := by
  unfold State.applyCommit
  split
  · exact hs
  · split
    · refine State.Held.complete ?_ _ _ _
      exact hs
    · refine State.Held.complete ?_ _ _ _
      exact hs

theorem State.handReply_held (o : AttemptEnd) : (s.handReply o).Held c := by
  unfold State.handReply
  split
  · exact hs
  · split
    · exact State.dropReply_held hs _
    · exact State.dropReply_held hs _
    · split
      · exact State.lateReply_held hs _ _
      · dsimp only
        refine State.setReplies_held ?_ (changeFirst_map _ _ _ _ ?_)
        · split
          · exact State.lateReply_held hs _ _
          · exact hs
        · exact fun _ => rfl
    · refine State.setReplies_held hs ?_
      exact changeFirst_map _ _ _ _ (fun _ => rfl)

theorem State.hand_held (hn : (s.sender.queue.map SendEntry.tag).Nodup) (src : Carried) (o : AttemptEnd) :
    (s.hand src o).Held c := by
  unfold State.hand
  split
  · rename_i tag
    unfold State.handSend
    split
    · exact hs
    · rename_i e he
      have hf := find?_key SendEntry.tag hn (List.mem_of_find?_eq_some he)
      split
      · exact State.completeSend_held hs _ _ hf
      · exact State.completeSend_held hs _ _ hf
      · refine State.setSends_held hs ?_
        exact changeFirst_map _ _ _ _ (fun _ => rfl)
      · refine State.setSends_held hs ?_
        exact changeFirst_map _ _ _ _ (fun _ => rfl)
  · exact State.handReply_held hs o

end

theorem Pool.initial_holds : Pool.initial.Holds (State.cleared.owed 0) := by
  intro h
  cases h with
  | queue q => revert q; decide
  | _ => rfl

/-- The merging of notices leaves every reply, and so every chain, in the outbox. -/
theorem Merging.foldl_cells (doze : Option Byte) (es : List OutEntry) (m : Merging) :
    ((es.foldl (Merging.take doze) m).kept.map (fun e => e.msg.cells)).sum =
      (m.kept.map (fun e => e.msg.cells)).sum + (es.map (fun e => e.msg.cells)).sum := by
  induction es generalizing m with
  | nil => rfl
  | cons e es ih =>
    rw [List.foldl_cons, ih, List.map_cons, List.sum_cons, ← Nat.add_assoc]
    congr 1
    unfold Merging.take
    cases hm : e.msg with
    | notice n =>
      dsimp only
      split
      · rw [changeFirst_map _ _ _ _ (OutEntry.mergeNotice_cells n)]
        rfl
      · simp
    | reply k tag inline chain => simp

theorem State.unsentAgain_cells (s : State) :
    (s.unsentAgain.link.outbox.map (fun e => e.msg.cells)).sum =
      (s.link.outbox.map (fun e => e.msg.cells)).sum := by
  show ((List.foldl _ (⟨[], 0, _⟩ : Merging) _).kept.map _).sum = _
  rw [Merging.foldl_cells, absorbPending_map _ OutEntry.mergeNotice_cells, List.map_map]
  simp [Function.comp_def]

/-- A member in whose place one of the same value stands leaves the values as they were. -/
theorem map_set_same {α β : Type} (g : α → β) {l : List α} {i : Nat} {e e' : α} (h : l[i]? = some e)
    (hg : g e' = g e) : (l.set i e').map g = l.map g := by
  obtain ⟨hi, he⟩ := List.getElem?_eq_some_iff.mp h
  rw [List.map_set, hg, ← he, ← List.getElem_map g (h := by simpa using hi), List.set_getElem_self]

theorem State.choose_sendCells (s : State) :
    s.choose.sender.queue.map (fun e => e.frame.cells) = s.sender.queue.map (fun e => e.frame.cells) := by
  unfold State.choose State.grantReply State.grantSend
  split
  · split
    · rfl
    · split
      · rfl
      · exact changeFirst_map _ _ _ _ (fun _ => rfl)
  · rfl
  · exact changeFirst_map _ _ _ _ (fun _ => rfl)
  · rfl

theorem State.choose_replyCells (s : State) :
    s.choose.responder.queue.map (fun e => e.frame.cells) =
      s.responder.queue.map (fun e => e.frame.cells) := by
  unfold State.choose State.grantReply State.grantSend
  split
  · split
    · exact changeFirst_map _ _ _ _ (fun _ => rfl)
    · split
      · exact changeFirst_map _ _ _ _ (fun _ => rfl)
      · rfl
  · exact changeFirst_map _ _ _ _ (fun _ => rfl)
  · rfl
  · rfl

theorem Frame.bytes_length (f : Frame) : f.bytes.length = f.length := by
  simp [Frame.bytes, Frame.length, be16]
  omega

theorem cellsFor_succ (n : Nat) : cellsFor (n + 1) = cellsFor n + (if n % 64 = 0 then 1 else 0) := by
  unfold cellsFor
  split <;> omega

/-- A move outside a scan's end keeps the holders' law, in the company of the law of the deferred requests. -/
theorem Move.held {stop : Prop} {ends : State → Prop} {s t : State} (h : Move False stop ends s t)
    (hd : s.Defers) (hs : s.Held s.classifier.evalCells) : t.Held t.classifier.evalCells := by
  cases h with
  | data h =>
    unfold Classifier.evalCells at *
    rw [h.eval]
    exact h.owed.held hs
  | cleared => exact ⟨Pool.initial_holds, fun _ => rfl⟩
  | reset cause =>
    unfold State.fullReset
    exact State.append_held_of_zero _ rfl ⟨Pool.initial_holds, fun _ => rfl⟩
  | replied k tag body =>
    rw [State.append_classifier]
    exact State.append_held_of_zero _ rfl hs
  | repliedLong k tag body =>
    rw [State.append_classifier]
    refine State.append_held _ (Pool.Holds.claim hs.holds ?_ ?_) hs.deaf
    · rw [if_pos rfl]
      rfl
    · intro a ha
      rw [if_neg ha]
      rfl
  | handedOver q r rest c k tag inline _ hr =>
    rw [State.append_classifier]
    have hrec : ∀ a, ((s.setQueue q { s.queues[q] with records := rest, counters := c }).queues[a]).records =
      if a = q then rest else s.queues[a].records := fun a => s.setQueue_records q a _
    refine State.append_held _ (Pool.Holds.move (a := .queue q) (b := .outbox) hs.holds (by simp) ?_ ?_ ?_) hs.deaf
    · rw [if_neg (by simp)]
      show cellsOf (State.queues (s.setQueue q _))[q].records + _ = cellsOf s.queues[q].records
      rw [hrec, if_pos rfl, hr]
      simp [cellsOf, Nat.add_comm]
    · rw [if_pos rfl]
      show _ + cellsFor r.frame.bytes.length = _
      rw [Frame.bytes_length]
      rfl
    · intro a ha hb
      rw [if_neg hb]
      cases a with
      | queue q' =>
        show cellsOf (State.queues (s.setQueue q _))[q'].records = _
        rw [hrec, if_neg (fun h => ha (by rw [h]))]
        rfl
      | _ => rfl
  | posted n =>
    rw [State.post_classifier]
    exact State.post_held n hs
  | noticeMoved n =>
    rw [State.append_classifier]
    exact State.append_held_of_zero _ rfl hs
  | acked i ack h =>
    refine ⟨Pool.Holds.release (a := .outbox) hs.holds ?_ ?_, hs.deaf⟩
    · show ((s.link.outbox.drop (i + 1)).map (fun e => e.msg.cells)).sum +
        ((s.link.outbox.take (i + 1)).map (fun e => e.msg.cells)).sum =
          (s.link.outbox.map (fun e => e.msg.cells)).sum
      rw [Nat.add_comm, ← List.sum_append, ← List.map_append, List.take_append_drop]
    · intro a ha
      cases a with
      | outbox => exact absurd rfl ha
      | _ => rfl
  | unsentAgain =>
    exact SameOwed.held (s := s) ⟨fun _ => rfl, rfl, rfl, rfl, fun _ => rfl, rfl, rfl, s.unsentAgain_cells⟩ hs
  | sent =>
    refine SameOwed.held (s := s) ⟨fun _ => rfl, rfl, rfl, rfl, fun _ => rfl, rfl, rfl, ?_⟩ hs
    refine congrArg List.sum ?_
    exact changeFirst_map _ _ _ _ (fun _ => rfl)
  | enteredSend tag f =>
    refine ⟨Pool.Holds.claim (a := .send) hs.holds ?_ ?_, hs.deaf⟩
    · show ((s.sender.queue ++ [_]).map _).sum = _
      simp
      rfl
    · intro a ha
      cases a with
      | send => exact absurd rfl ha
      | _ => rfl
  | commitApplied =>
    unfold Classifier.evalCells at *
    rw [State.applyCommit_eval]
    exact State.applyCommit_held hs
  | sendCompleted e st content h _ =>
    rw [State.completeSend_classifier]
    exact State.completeSend_held hs _ _ h
  | lineStopCompleted =>
    rw [State.completeLineStop_classifier]
    unfold State.completeLineStop
    split
    · exact hs
    · refine State.Held.complete ?_ _ _ _
      exact hs
  | sideCompleted r =>
    rw [State.refuse_classifier]
    refine State.Held.complete ?_ _ _ _
    exact hs
  | recordsRemoved q kept removed _ hc => exact State.removeRecords_held q kept removed hc hs
  | settingsChanged q c =>
    refine SameOwed.held (s := s) ⟨fun _ => rfl, rfl, rfl, rfl, fun a => ?_, rfl, rfl, rfl⟩ hs
    rw [State.setQueue_records]
    split
    · rename_i h
      rw [h]
    · rfl
  | classificationEmptied =>
    refine ⟨Pool.Holds.release (a := .classify) hs.holds ?_ ?_, hs.deaf⟩
    · show 0 + s.classifier.evalCells + _ = _ + s.classifier.evalCells
      rw [Nat.zero_add, Nat.add_comm]
    · intro a ha
      cases a with
      | classify => exact absurd rfl ha
      | _ => rfl
  | evaluationBegun w ws g o p he hq =>
    refine ⟨fun a => ?_, hs.deaf⟩
    refine (hs.holds a).trans ?_
    cases a with
    | classify =>
      simp [State.owed, Classifier.evalCells, he, hq, Nat.add_comm]
    | _ => rfl
  | released h => exact h.elim
  | accepted h => exact h.elim
  | placed h => exact h.elim
  | evaluationEnded h => exact h.elim
  | frameDropped claimed after c ha hp =>
    have hu : ∀ a, a ≠ .receive →
        (if claimed then s.claim .receive 1 else s).pool.held a = s.owed s.classifier.evalCells a := by
      intro a hne
      rw [← hs.holds a]
      cases claimed
      · rfl
      · exact Pool.held_setHeld_of_ne _ _ hne
    have h0 : after.cells = 0 := by
      rcases ha with rfl | ⟨rfl, -⟩ <;> rfl
    have hrec : (State.dropFrame (if claimed then s.claim .receive 1 else s) after c).line.receiver = after := rfl
    refine ⟨Pool.Holds.release (a := .receive) (f := fun a => (if claimed then s.claim .receive 1 else s).pool.held a)
      (fun _ => rfl) ?_ ?_, ?_⟩
    · show after.cells + _ = _
      rw [h0]
      exact Nat.zero_add _
    · intro a hne
      rw [hu a hne]
      cases claimed <;>
        cases a with
        | receive => exact absurd rfl hne
        | _ => rfl
    · intro hh
      have hi := hs.deaf (by cases claimed <;> exact hh)
      rcases ha with rfl | ⟨-, bs, hb⟩
      · rfl
      · rw [hb] at hi
        cases hi
  | bytePlaced bs b h hp =>
    have hlisten : s.line.hears = false → False := by
      intro hh
      have hi := hs.deaf hh
      rw [h] at hi
      cases hi
    have hrec : s.line.receiver.cells = cellsFor bs.length := by
      rw [h]
      rfl
    split
    · rename_i hn
      refine ⟨Pool.Holds.claim (a := .receive) hs.holds ?_ ?_, fun hh => (hlisten hh).elim⟩
      · show cellsFor (bs ++ [b]).length = s.line.receiver.cells + 1
        rw [hrec, List.length_append, List.length_singleton, cellsFor_succ, if_pos (by simpa [needsCell] using hn)]
      · intro a ha
        cases a with
        | receive => exact absurd rfl ha
        | _ => rfl
    · rename_i hn
      refine ⟨fun a => (hs.holds a).trans ?_, fun hh => (hlisten hh).elim⟩
      cases a with
      | receive =>
        show s.line.receiver.cells = cellsFor (bs ++ [b]).length
        rw [hrec, List.length_append, List.length_singleton, cellsFor_succ, if_neg (by simpa [needsCell] using hn)]
        rfl
      | _ => rfl
  | receiverSet r hrs hr hh hw =>
    have h0 : s.line.receiver.cells = 0 := by
      rcases hrs with h | h
      · exact h
      · rw [hs.deaf h]
        rfl
    refine ⟨fun a => (hs.holds a).trans ?_, fun hd => ?_⟩
    · cases a with
      | receive => exact h0.trans hr.symm
      | _ => rfl
    · rcases hh with hh | hh
      · rw [show s.line.hears = false from hd] at hh
        cases hh
      · exact hh
  | frameTaken bs c h hb _ =>
    have hcells : s.owed s.classifier.evalCells .receive = (Frame.ofBytes bs).cells := by
      unfold storedComplete at hb
      simp only [Bool.and_eq_true, decide_eq_true_eq] at hb
      show s.line.receiver.cells = cellsFor (7 + (bs.drop 7).length)
      rw [h, List.length_drop, Nat.add_sub_cancel' hb.1]
      rfl
    unfold State.enqueue
    split
    · refine ⟨Pool.Holds.move (a := .receive) (b := .classify) hs.holds (by simp) ?_ ?_ ?_, fun _ => rfl⟩
      · rw [hcells]
        exact Nat.zero_add _
      · show ((s.classifier.queue ++ [_]).map _).sum + s.classifier.evalCells =
          (s.classifier.queue.map _).sum + s.classifier.evalCells + _
        rw [List.map_append, List.sum_append]
        exact Nat.add_right_comm _ _ _
      · intro a ha hb
        cases a with
        | receive => exact absurd rfl ha
        | classify => exact absurd rfl hb
        | _ => rfl
    · refine ⟨Pool.Holds.release (a := .receive) hs.holds ?_ ?_, fun _ => rfl⟩
      · rw [hcells]
        exact Nat.zero_add _
      · intro a ha
        cases a with
        | receive => exact absurd rfl ha
        | _ => rfl
  | slotClosed =>
    rw [State.closeSlot_classifier]
    exact State.closeSlot_held hs
  | chosen =>
    obtain ⟨tr, hl⟩ := s.choose_line
    rw [State.choose_classifier]
    refine SameOwed.held (s := s) ⟨fun a => ?_, ?_, ?_, ?_, fun q => ?_, s.choose_replyCells, s.choose_sendCells, ?_⟩ hs
    · rw [State.choose_pool]
    · rw [hl]
    · rw [hl]
    · rw [State.choose_classifier]
    · rw [State.choose_queues]
    · rw [State.choose_link]
  | notStarted =>
    rw [State.notStarted_classifier]
    exact State.notStarted_held hs
  | startedInGap g =>
    rw [State.startSending_classifier, State.closeSlot_classifier]
    unfold State.startSending
    have hc := State.closeSlot_held hs
    split <;> exact hc
  | startedInSlot g =>
    rw [State.startSending_classifier]
    unfold State.startSending
    split <;> exact hs
  | attemptEnded g l o h _ _ =>
    rw [State.hand_classifier]
    have hl : State.Held { s with line := l } s.classifier.evalCells := ?_
    · exact State.hand_held hl hd.sendTags _ _
    refine ⟨fun a => (hs.holds a).trans ?_, fun hh => ?_⟩
    · cases a with
      | receive =>
        show s.line.receiver.cells = l.receiver.cells
        rcases h.receiver with hr | ⟨hr, hr'⟩
        · rw [hr]
        · rw [hr, hr']
          rfl
      | _ => rfl
    · have hi : s.line.receiver = .idle := by
        refine hs.deaf ?_
        unfold Line.hears at *
        rwa [show l.mode = s.line.mode from h.mode] at hh
      rcases h.receiver with hr | ⟨hr, hr'⟩
      · exact hr.trans hi
      · exact hr'
  | sendWaits tag p =>
    refine State.setSends_held hs ?_
    exact changeFirst_map _ _ _ _ (fun _ => rfl)
  | replyWaits place e p h hb => exact State.setReplies_held hs (map_set_same _ h rfl)
  | repliesDiscarded =>
    refine ⟨Pool.Holds.release (a := .responder) hs.holds (Nat.zero_add _) ?_, hs.deaf⟩
    intro a ha
    cases a with
    | responder => exact absurd rfl ha
    | _ => rfl
  | modeChanged m r h =>
    refine ⟨hs.holds, fun hh => (h.deaf ?_ ?_).1⟩
    · rintro rfl
      cases hh
    · rintro rfl
      cases hh
  | lineStarted m g p c hf ho =>
    have hi : s.line.receiver = .idle := hs.deaf (by
      unfold Line.hears
      rw [hf]
      rfl)
    refine ⟨fun a => (hs.holds a).trans ?_, fun hh => ?_⟩
    · cases a with
      | receive =>
        show s.line.receiver.cells = _
        rw [hi]
        rfl
      | _ => rfl
    · cases m <;> cases hh
  | _ => exact hs

/-- A reply that is placed takes its cells (R113). -/
theorem Answered.held {m : Waiting} {s t : State} {c : Nat} (h : Answered m s t) (hs : s.Held c) : t.Held c := by
  cases h with
  | nothing => exact hs
  | placed n f w _ _ _ =>
    unfold State.placeReply
    dsimp only
    split
    · refine ⟨Pool.Holds.claim (a := .responder) hs.holds ?_ ?_, hs.deaf⟩
      · show ((s.responder.queue ++ [_]).map _).sum = _
        simp
        rfl
      · intro a ha
        cases a with
        | responder => exact absurd rfl ha
        | _ => rfl
    · exact hs

/-- The deliver stage takes the cells of the frame from CLASSIFY (R68, R81). -/
theorem Delivered.held {m : Waiting} {s t : State} (h : Delivered m s t) (hs : s.Held m.frame.cells) :
    t.Held 0 := by
  cases h with
  | released =>
    refine ⟨Pool.Holds.release (a := .classify) hs.holds rfl ?_, hs.deaf⟩
    intro a ha
    cases a with
    | classify => exact absurd rfl ha
    | _ => rfl
  | accepted q r hf hi _ =>
    have hrec : ∀ a, (s.acceptRecord q r).queues[a].records =
        if a = q then s.queues[q].records ++ [r] else s.queues[a].records := fun a => s.setQueue_records q a _
    refine ⟨Pool.Holds.move (a := .classify) (b := .queue q) hs.holds (by simp) ?_ ?_ ?_, hs.deaf⟩
    · rw [hf]
      rfl
    · show cellsOf (s.acceptRecord q r).queues[q].records = _
      rw [hrec, if_pos rfl, cellsOf_append]
      rfl
    · intro a ha hb
      cases a with
      | classify => exact absurd rfl ha
      | queue q' =>
        show cellsOf (s.acceptRecord q r).queues[q'].records = _
        rw [hrec, if_neg (fun h => hb (by rw [h]))]
        rfl
      | _ => rfl

end Sys2Proof.Machine

namespace Sys2Proof

open Machine

/-- Settles O56: each move keeps the holders' counts; at a scan's end the frame's chain leaves CLASSIFY, and the frame
the evaluation. -/
theorem stepsKeepTheHolders : Obligations.StepsKeepTheHolders := by
  intro s t hd hs h
  rw [deferredLaw_iff] at hd
  rw [holdersLaw_iff] at *
  refine (step_keeps_scan (stop := True) (ends := fun _ => True)
    (P := fun s => s.Defers ∧ s.Held s.classifier.evalCells) (fun _ _ h => h)
    (fun hm hP => ⟨hm.defers hP.1, hm.held hP.1 hP.2⟩) ?_ ⟨hd, hs⟩ h ?_).2
  · intro e a b c d f he hP hb hc hd hf
    obtain ⟨hdef, hheld⟩ := hP
    refine ⟨?_, ?_⟩
    · exact ((((hb.moves trivial).trans hc.moves).trans (hd.moves trivial)).trans hf.moves).tail
        (.evaluationEnded trivial) |>.keep (P := State.Defers) (scan := True) (stop := True)
        (ends := fun _ => True) (fun hm => hm.defers) hdef
    · have ha : a.Held e.member.frame.cells := by
        unfold Classifier.evalCells at hheld
        rwa [he] at hheld
      have hcd := hc.keep (P := fun s => s.Held e.member.frame.cells) (fun hq => hq.held) (hb.held ha)
      exact hf.keep (P := fun s => s.Held 0) (fun hq => hq.held) (hd.held hcd)
  · intro c rest _ hc
    exact .inl ⟨fun dt h => hc dt h, fun _ _ _ _ => trivial, fun _ _ _ _ _ => trivial, fun _ _ _ _ => trivial⟩

end Sys2Proof
end

section
/-! The laws of the modes, of the queues in STOPPED, of the pass count and of presence, a move at a time. -/

namespace Sys2Proof.Machine

/-! ### The modes (R5, R11, R15, R17, R19, R20) -/

/-- `ModeLaw` of the line alone. -/
structure Line.Moded (l : Line) : Prop where
  drives : l.transmitter ≠ .idle → l.mode = .active
  deaf : l.hears = false → l.receiver = .idle ∧ l.slot = .none
  resume : l.resume.isSome = true ↔ l.mode = .faulted
  own : l.mode = .active ∨ l.resume = some .active → l.own ≠ []

theorem modeLaw_iff (s : State) : ModeLaw s ↔ s.line.Moded :=
  ⟨fun ⟨h1, h2, h3, h4⟩ => ⟨h1, h2, h3, h4⟩, fun ⟨h1, h2, h3, h4⟩ => ⟨h1, h2, h3, h4⟩⟩

/-- A line of the same mode, resume mode and own list keeps the law where its transmitter, receiver and slot do. -/
theorem Line.Moded.edit {l m : Line} (h : l.Moded) (hm : m.mode = l.mode) (hr : m.resume = l.resume)
    (ho : m.own = l.own) (hd : m.transmitter ≠ .idle → l.transmitter ≠ .idle ∨ l.mode = .active)
    (hs : l.hears = false → m.receiver = l.receiver ∧ m.slot = l.slot ∨ m.receiver = .idle ∧ m.slot = .none) :
    m.Moded := by
  constructor
  · intro ht
    rw [hm]
    rcases hd ht with hd | hd
    · exact h.drives hd
    · exact hd
  · intro hh
    have hh' : l.hears = false := by
      unfold Line.hears at *
      rwa [hm] at hh
    rcases hs hh' with ⟨h1, h2⟩ | hs
    · rw [h1, h2]
      exact h.deaf hh'
    · exact hs
  · rw [hr, hm]
    exact h.resume
  · rw [hr, hm, ho]
    exact h.own

theorem Line.hears_of_active {l : Line} (h : l.mode = .active) : l.hears = true := by
  unfold Line.hears
  rw [h]
  rfl

theorem Line.Moded.not_deaf {l : Line} {α : Prop} (h : l.mode = .active) (hd : l.hears = false) : α := by
  rw [Line.hears_of_active h] at hd
  cases hd

theorem State.startSending_line (s : State) (g : Grant) :
    ∃ tr p, (s.startSending g).line = { s.line with transmitter := tr, lastActivity := p } := by
  unfold State.startSending
  split
  · exact ⟨s.line.transmitter, s.line.lastActivity, rfl⟩
  · exact ⟨_, _, rfl⟩

theorem Line.Moded.same {l m : Line} (h : l.Moded) (hm : m.mode = l.mode) (hr : m.resume = l.resume)
    (ho : m.own = l.own) (ht : m.transmitter = l.transmitter) (hc : m.receiver = l.receiver)
    (hs : m.slot = l.slot) : m.Moded :=
  h.edit hm hr ho (fun hd => .inl (ht ▸ hd)) (fun _ => .inl ⟨hc, hs⟩)

theorem State.closeSlot_moded {s : State} (h : s.line.Moded) : s.closeSlot.line.Moded := by
  refine h.edit (by simp) (by simp) (by simp) (fun ht => ?_) (fun hd => .inl ⟨by simp, by simp [(h.deaf hd).2]⟩)
  rcases s.closeSlot_transmitter with h | h
  · exact .inl (h ▸ ht)
  · exact absurd h ht

/-- A move keeps the law of the modes. -/
theorem Move.moded {scan stop : Prop} {ends : State → Prop} {s t : State} (h : Move scan stop ends s t)
    (hs : s.line.Moded) : t.line.Moded := by
  cases h with
  | data h => exact hs.same h.mode h.resume h.own h.transmitter h.receiver h.slot
  | cleared => exact (modeLaw_iff State.cleared).mp ⟨by decide, by decide, by decide, by decide⟩
  | reset cause =>
    unfold State.fullReset
    rw [State.append_line]
    exact (modeLaw_iff State.cleared).mp ⟨by decide, by decide, by decide, by decide⟩
  | replied | repliedLong | handedOver | noticeMoved =>
    rw [State.append_line]
    exact hs
  | posted =>
    rw [State.post_line]
    exact hs
  | enteredStop | enteredSide => exact hs.same rfl rfl rfl rfl rfl rfl
  | commitApplied =>
    rw [State.applyCommit_line]
    exact hs
  | sendCompleted =>
    rw [State.completeSend_line]
    exact hs
  | lineStopCompleted =>
    unfold State.completeLineStop
    split
    · exact hs
    · rw [State.refuse_line]
      exact hs.same rfl rfl rfl rfl rfl rfl
  | sideCompleted =>
    rw [State.refuse_line]
    exact hs.same rfl rfl rfl rfl rfl rfl
  | placed =>
    rw [State.placeReply_line]
    exact hs
  | frameDropped claimed after c ha _ =>
    have h : (if claimed then s.claim .receive 1 else s).line = s.line := by cases claimed <;> rfl
    have hl : s.line.hears = false → after = .idle := by
      intro hd
      rcases ha with ha | ⟨-, bs, hb⟩
      · exact ha
      · rw [(hs.deaf hd).1] at hb
        cases hb
    refine hs.edit ?_ ?_ ?_ ?_ ?_
    all_goals simp only [State.dropFrame, State.setReceiver, State.setLineCounters, State.release, h]
    · exact .inl
    · exact fun hd => .inr ⟨hl hd, (hs.deaf hd).2⟩
  | bytePlaced bs b h _ =>
    have hl : (if needsCell bs then s.claim .receive 1 else s).line = s.line := by split <;> rfl
    refine hs.edit ?_ ?_ ?_ ?_ ?_
    all_goals simp only [State.setReceiver, hl]
    · exact .inl
    · intro hd
      rw [(hs.deaf hd).1] at h
      cases h
  | receiverSet r _ _ hh _ =>
    refine hs.edit rfl rfl rfl .inl (fun hd => .inr ⟨?_, (hs.deaf hd).2⟩)
    rcases hh with hh | hh
    · rw [hd] at hh
      cases hh
    · exact hh
  | frameTaken bs c h _ _ =>
    obtain ⟨p, g, sl, hl, -⟩ := s.line.frameEnded_eq (Frame.ofBytes bs) true
    rw [State.enqueue_line]
    refine hs.edit ?_ ?_ ?_ ?_ ?_
    all_goals simp only [hl]
    · exact .inl
    · intro hd
      rw [(hs.deaf hd).1] at h
      cases h
  | slotClosed => exact State.closeSlot_moded hs
  | chosen hm _ =>
    obtain ⟨tr, hl⟩ := s.choose_line
    rw [hl]
    exact hs.edit rfl rfl rfl (fun _ => .inr hm) (fun _ => .inl ⟨rfl, rfl⟩)
  | notStarted =>
    refine hs.edit (by simp [State.notStarted_line]) (by simp [State.notStarted_line])
      (by simp [State.notStarted_line]) ?_ (fun _ => .inl (by simp [State.notStarted_line]))
    rw [State.notStarted_line]
    split
    · exact fun h => absurd rfl h
    · exact .inl
  | startedInGap g _ _ hm _ =>
    obtain ⟨tr, p, hl⟩ := s.closeSlot.startSending_line g
    have hm' : s.closeSlot.line.mode = .active := (State.closeSlot_line_mode s).trans hm
    rw [hl]
    exact (State.closeSlot_moded hs).edit rfl rfl rfl (fun _ => .inr hm') (fun _ => .inl ⟨rfl, rfl⟩)
  | startedInSlot g fe _ _ hm _ =>
    obtain ⟨tr, p, hl⟩ := State.startSending_line { s with line := { s.line with slot := .none } } g
    rw [hl]
    exact hs.edit rfl rfl rfl (fun _ => .inr hm) (fun hd => Line.Moded.not_deaf hm hd)
  | jammed g start bytes p h =>
    exact hs.edit rfl rfl rfl (fun _ => .inl (by rw [h]; simp)) (fun _ => .inl ⟨rfl, rfl⟩)
  | attemptEnded g l o h _ _ =>
    rw [State.hand_line]
    have hm : s.line.mode = .active := by
      refine hs.drives ?_
      rcases h.drove with ⟨_, _, h⟩ | ⟨_, h, -⟩ <;> rw [h] <;> simp
    exact hs.edit h.mode h.resume h.own (fun ht => absurd h.idle ht) (fun hd => Line.Moded.not_deaf hm hd)
  | modeChanged m r h =>
    constructor
    · exact fun ht => h.drives (hs.drives ht) ht
    · intro hd
      refine h.deaf ?_ ?_
      · rintro rfl
        cases hd
      · rintro rfl
        cases hd
    · exact h.resume
    · intro hm
      rcases h.own hm with ho | ho | ho
      · exact ho
      · exact hs.own (.inl ho)
      · exact hs.own (.inr ho)
  | resumeChanged m hf ho =>
    refine ⟨hs.drives, hs.deaf, ?_, ?_⟩
    · exact ⟨fun _ => hf, fun _ => rfl⟩
    · intro h
      rcases h with h | h
      · exact absurd (hf.symm.trans h) (by decide)
      · exact ho (Option.some.inj h)
  | lineStarted m g p c hf ho =>
    refine ⟨fun ht => absurd (hf.symm.trans (hs.drives ht)) (by decide), ?_, ?_, ?_⟩
    · cases m <;> simp [Line.hears, HearMode.mode]
    · cases m <;> simp [HearMode.mode]
    · cases m <;> simp [HearMode.mode] at *
      exact ho
  | ownChanged own group ho =>
    refine ⟨hs.drives, hs.deaf, hs.resume, ?_⟩
    intro hm h
    have hn := ho h
    unfold Line.needsOwn at hn
    simp only [Bool.or_eq_false_iff, decide_eq_false_iff_not, Bool.and_eq_false_iff] at hn
    rcases hm with hm | hm
    · exact hn.1 hm
    · rcases hn.2 with hn | hn
      · exact hn (hs.resume.mp (by
          show s.line.resume.isSome = true
          rw [show s.line.resume = some .active from hm]
          rfl))
      · exact hn hm
  | _ => exact hs

/-! ### The queues in STOPPED (R134, R119) -/

section

variable {s : State} (h : s.NothingToSend)

include h

theorem State.closeSlot_nothing : s.closeSlot.NothingToSend := by
  obtain ⟨h1, h2⟩ := h
  unfold State.closeSlot State.closingReport
  split
  · exact ⟨h1, h2⟩
  · rw [h2]
    exact ⟨h1, h2⟩
  · exact ⟨h1, h2⟩

theorem State.notStarted_nothing : s.notStarted.NothingToSend := by
  obtain ⟨h1, h2⟩ := h
  unfold State.notStarted
  split
  · split
    · refine ⟨?_, h2⟩
      show changeFirst _ _ s.sender.queue = []
      rw [h1]
      rfl
    · refine ⟨h1, ?_⟩
      show changeFirst _ _ s.responder.queue = []
      rw [h2]
      rfl
  · exact ⟨h1, h2⟩

end

/-- A move keeps the law of the queues in STOPPED, in the company of the law of the modes. -/
theorem Move.stopped {scan stop : Prop} {ends : State → Prop} {s t : State} (h : Move scan stop ends s t)
    (hl : s.line.Moded) (hs : s.line.mode = .stopped → s.NothingToSend) :
    t.line.mode = .stopped → t.NothingToSend := by
  have absurdActive : ∀ {α : Prop}, s.line.mode = .active → s.line.mode = .stopped → α :=
    fun h h' => by cases h.symm.trans h'
  intro hm
  cases h with
  | data h =>
    obtain ⟨h1, h2⟩ := hs (h.mode ▸ hm)
    exact ⟨h.sends.trans h1, h.replies.trans h2⟩
  | cleared => exact ⟨rfl, rfl⟩
  | reset cause =>
    unfold State.fullReset
    exact ⟨by simp; rfl, by simp; rfl⟩
  | replied | repliedLong | handedOver | noticeMoved =>
    simp only [State.append_line] at hm
    obtain ⟨h1, h2⟩ := hs hm
    exact ⟨by simpa using h1, by simpa using h2⟩
  | posted n =>
    rw [State.post_line] at hm
    obtain ⟨h1, h2⟩ := hs hm
    exact ⟨by rwa [State.post_sender], by rwa [State.post_responder]⟩
  | enteredSend tag f _ _ hne => exact absurd hm hne
  | commitApplied =>
    rw [State.applyCommit_line] at hm
    obtain ⟨h1, h2⟩ := hs hm
    exact ⟨by rwa [State.applyCommit_sender], by rwa [State.applyCommit_responder]⟩
  | sendCompleted e st content he _ =>
    rw [State.completeSend_line] at hm
    rw [(hs hm).1] at he
    cases he
  | lineStopCompleted =>
    unfold State.completeLineStop at *
    split at hm
    · exact hs hm
    · rw [State.refuse_line] at hm
      obtain ⟨h1, h2⟩ := hs hm
      exact ⟨by simpa using h1, by simpa using h2⟩
  | sideCompleted =>
    rw [State.refuse_line] at hm
    obtain ⟨h1, h2⟩ := hs hm
    exact ⟨by simpa using h1, by simpa using h2⟩
  | placed _ n f w _ hma =>
    rw [State.placeReply_line] at hm
    exact absurdActive hma hm
  | frameDropped claimed => cases claimed <;> exact hs hm
  | bytePlaced bs => split at hm <;> split <;> exact hs hm
  | frameTaken bs c =>
    obtain ⟨p, g, sl, hfe, -⟩ := s.line.frameEnded_eq (Frame.ofBytes bs) true
    simp only [State.enqueue_line, hfe] at hm
    obtain ⟨h1, h2⟩ := hs hm
    exact ⟨by simpa using h1, by simpa using h2⟩
  | slotClosed =>
    rw [State.closeSlot_line_mode] at hm
    exact State.closeSlot_nothing (hs hm)
  | chosen hma _ =>
    obtain ⟨tr, hch⟩ := s.choose_line
    rw [hch] at hm
    exact absurdActive hma hm
  | notStarted =>
    simp only [State.notStarted_line] at hm
    exact State.notStarted_nothing (hs hm)
  | startedInGap g _ _ hma _ =>
    obtain ⟨tr, p, hst⟩ := s.closeSlot.startSending_line g
    rw [hst] at hm
    exact absurdActive hma ((State.closeSlot_line_mode s).symm.trans hm)
  | startedInSlot g fe _ _ hma _ =>
    obtain ⟨tr, p, hst⟩ := State.startSending_line { s with line := { s.line with slot := .none } } g
    rw [hst] at hm
    exact absurdActive hma hm
  | attemptEnded g l o h _ _ =>
    rw [State.hand_line] at hm
    refine absurdActive (hl.drives ?_) (h.mode.symm.trans hm)
    rcases h.drove with ⟨_, _, h⟩ | ⟨_, h, -⟩ <;> rw [h] <;> simp
  | sendWaits tag p =>
    obtain ⟨h1, h2⟩ := hs hm
    refine ⟨?_, h2⟩
    show changeFirst _ _ s.sender.queue = []
    rw [h1]
    rfl
  | replyWaits place e p he _ =>
    rw [(hs hm).2] at he
    cases he
  | repliesDiscarded => exact ⟨(hs hm).1, rfl⟩
  | modeChanged m r h => exact h.queues hm
  | resumeChanged m hf _ => cases hf.symm.trans hm
  | lineStarted m => cases m <;> cases hm
  | _ => exact hs hm

/-! ### The pass count (R131) -/

/-- `PassLaw` of the send arbiter alone. -/
def Sender.Passing (p : Sender) : Prop := p.pass ≤ 4 ∧ (p.queue = [] → p.pass = 0)

theorem changeFirst_eq_nil {α : Type} (p : α → Bool) (f : α → α) (l : List α) :
    changeFirst p f l = [] ↔ l = [] := by
  cases l with
  | nil => simp [changeFirst]
  | cons a as =>
    unfold changeFirst
    split <;> simp

theorem Sender.Passing.changed {p : Sender} (h : p.Passing) (c : SendEntry → Bool)
    (f : SendEntry → SendEntry) : Sender.Passing { p with queue := changeFirst c f p.queue } :=
  ⟨h.1, fun hq => h.2 ((changeFirst_eq_nil _ _ _).mp hq)⟩

theorem State.completeSend_passing {s : State} (h : s.sender.Passing) (e : SendEntry) (st : Status)
    (content : List Byte) : (s.completeSend e st content).sender.Passing := by
  rw [State.completeSend_eq, State.complete_sender]
  refine ⟨?_, fun hq => ?_⟩
  · show (if _ then 0 else s.sender.pass) ≤ 4
    split
    · exact Nat.zero_le 4
    · exact h.1
  · exact if_pos hq

theorem State.notStarted_passing {s : State} (h : s.sender.Passing) : s.notStarted.sender.Passing := by
  unfold State.notStarted
  split
  · split
    · exact Sender.Passing.changed h _ _
    · exact h
  · exact h

theorem State.closeSlot_passing {s : State} (h : s.sender.Passing) : s.closeSlot.sender.Passing := by
  unfold State.closeSlot State.closingReport
  split
  · exact h
  · split
    · exact h
    · dsimp only
      split
      · refine State.notStarted_passing ?_
        rw [State.lateReply_sender]
        exact h
      · rw [State.lateReply_sender]
        exact h
  · exact h

/-- A grant to a reply counts a pass over the send candidate that waits (R131). -/
theorem State.choose_passing {s : State} (h : s.sender.Passing) : s.choose.sender.Passing := by
  unfold State.choose State.grantReply State.grantSend
  split
  · rename_i r e _ he
    have hq : s.sender.queue ≠ [] := by
      intro hq
      rw [hq] at he
      cases he
    split
    · exact h
    · split
      · rename_i hp
        exact ⟨hp, fun hn => absurd hn hq⟩
      · exact ⟨Nat.zero_le 4, fun _ => rfl⟩
  · exact h
  · exact ⟨Nat.zero_le 4, fun _ => rfl⟩
  · exact h

theorem State.hand_passing {s : State} (h : s.sender.Passing) (src : Carried) (o : AttemptEnd) :
    (s.hand src o).sender.Passing := by
  unfold State.hand
  split
  · unfold State.handSend
    split
    · exact h
    · split
      · exact State.completeSend_passing h _ _ _
      · exact State.completeSend_passing h _ _ _
      · exact Sender.Passing.changed h _ _
      · exact Sender.Passing.changed h _ _
  · rw [State.handReply_sender]
    exact h

/-- A move keeps the law of the pass count. -/
theorem Move.passing {scan stop : Prop} {ends : State → Prop} {s t : State} (h : Move scan stop ends s t)
    (hs : s.sender.Passing) : t.sender.Passing := by
  cases h with
  | data h =>
    unfold Sender.Passing at *
    rw [h.pass, h.sends]
    exact hs
  | cleared => exact ⟨Nat.zero_le 4, fun _ => rfl⟩
  | reset cause =>
    unfold State.fullReset
    rw [State.append_sender]
    exact ⟨Nat.zero_le 4, fun _ => rfl⟩
  | replied | repliedLong | handedOver | noticeMoved =>
    rw [State.append_sender]
    exact hs
  | posted =>
    rw [State.post_sender]
    exact hs
  | enteredSend tag f =>
    refine ⟨hs.1, fun hq => ?_⟩
    have hq' : s.sender.queue ++ [⟨tag, f, 0, .waiting⟩] = [] := hq
    simp at hq'
  | commitApplied =>
    rw [State.applyCommit_sender]
    exact hs
  | sendCompleted => exact State.completeSend_passing hs _ _ _
  | lineStopCompleted =>
    unfold State.completeLineStop
    split
    · exact hs
    · rw [State.refuse_sender]
      exact hs
  | sideCompleted =>
    rw [State.refuse_sender]
    exact hs
  | placed =>
    rw [State.placeReply_sender]
    exact hs
  | frameDropped claimed => cases claimed <;> exact hs
  | bytePlaced bs => split <;> exact hs
  | frameTaken =>
    rw [State.enqueue_sender]
    exact hs
  | slotClosed => exact State.closeSlot_passing hs
  | chosen => exact State.choose_passing hs
  | notStarted => exact State.notStarted_passing hs
  | startedInGap =>
    rw [State.startSending_sender]
    exact State.closeSlot_passing hs
  | startedInSlot =>
    rw [State.startSending_sender]
    exact hs
  | attemptEnded => exact State.hand_passing (by exact hs) _ _
  | sendWaits => exact Sender.Passing.changed hs _ _
  | _ => exact hs

/-! ### Presence (R160, R161, R165) -/

/-- `PresenceLaw` of the inbound buffer and the presence controller alone. -/
structure Presence.Present (p : Presence) (b : InBuffer) : Prop where
  awake : b ≠ .empty → p.state = .awake
  doze : p.dozeReply.isSome = true ↔ p.state = .dozeRequested
  dozing : p.state = .dozing → p.causes = 0
  waking : p.state = .waking → p.causes ≠ 0

/-- `PresenceLaw` of a state. -/
def State.Present (s : State) : Prop := s.presence.Present s.link.buffer

theorem presenceLaw_iff (s : State) : PresenceLaw s ↔ s.Present :=
  ⟨fun ⟨h1, h2, h3, h4⟩ => ⟨h1, h2, h3, h4⟩, fun ⟨h1, h2, h3, h4⟩ => ⟨h1, h2, h3, h4⟩⟩

theorem Cause.set_ne_zero (c : Cause) : c.set ≠ 0 := by
  have hb : c.bit < 24 := by
    cases c <;> simp [Cause.bit] <;> omega
  intro h
  have hn := congrArg BitVec.toNat h
  have hlt : 2 ^ c.bit < 2 ^ 24 := Nat.pow_lt_pow_right (by decide) hb
  rw [Cause.set, BitVec.toNat_ofNat, Nat.mod_eq_of_lt hlt] at hn
  exact absurd hn (by simp)

theorem joined_ne_zero {a b : BitVec 24} (h : a ≠ 0 ∨ b ≠ 0) : a ||| b ≠ 0 := by
  intro hz
  replace hz := BitVec.or_eq_zero_iff.mp hz
  rcases h with h | h
  · exact h hz.1
  · exact h hz.2

/-- A given cause keeps the law (R163, R164). -/
theorem Presence.Present.give {p : Presence} {b : InBuffer} (h : p.Present b) (c : Cause) :
    (p.give c).Present b := by
  unfold Presence.give
  split
  · split
    · exact h
    · rename_i hst
      exact ⟨h.awake, h.doze, fun hd => (by cases hst.symm.trans hd), fun hd => (by cases hst.symm.trans hd)⟩
    · rename_i hst
      exact ⟨h.awake, h.doze, fun hd => (by cases hst.symm.trans hd), fun hw => joined_ne_zero (.inl (h.waking hw))⟩
    · rename_i hst
      refine ⟨fun hb => (by cases hst.symm.trans (h.awake hb)), ?_, fun hd => (by cases hd),
        fun _ => joined_ne_zero (.inr c.set_ne_zero)⟩
      rw [h.doze, hst]
      simp
  · exact h

theorem State.append_present {s : State} (h : s.Present) (m : Message) : (s.append m).Present := by
  unfold State.append
  dsimp only
  split
  · exact Presence.Present.give h _
  · exact h

theorem State.complete_present {s : State} (h : s.Present) (k : ReqKind) (tag : Byte)
    (inline chain : List Byte) : (s.complete k tag inline chain).Present := by
  unfold State.complete
  split
  · exact State.append_present h _
  · exact h

theorem State.post_present {s : State} (h : s.Present) (n : Notice) : (s.post n).Present := by
  unfold State.post
  split
  · exact h
  · split
    · exact h
    · split
      · exact State.append_present h _
      · exact h

theorem State.completeSend_present {s : State} (h : s.Present) (e : SendEntry) (st : Status)
    (content : List Byte) : (s.completeSend e st content).Present := by
  rw [State.completeSend_eq]
  exact State.complete_present (by exact h) _ _ _ _

theorem State.applyCommit_present {s : State} (h : s.Present) : s.applyCommit.Present := by
  unfold State.applyCommit
  split
  · exact h
  · split
    · exact State.complete_present (by exact h) _ _ _ _
    · exact State.complete_present (by exact h) _ _ _ _

theorem State.hand_present {s : State} (h : s.Present) (src : Carried) (o : AttemptEnd) :
    (s.hand src o).Present := by
  unfold State.hand
  split
  · unfold State.handSend
    split
    · exact h
    · split
      · exact State.completeSend_present h _ _ _
      · exact State.completeSend_present h _ _ _
      · exact h
      · exact h
  · unfold State.Present
    rw [State.handReply_presence, State.handReply_link]
    exact h

/-- The acknowledgment of the doze reply ends DOZE_REQUESTED (R162). -/
theorem Presence.Present.acknowledge {p : Presence} {b : InBuffer} (h : p.Present b) (removed : List OutEntry) :
    (p.acknowledge removed).Present b := by
  unfold Presence.acknowledge
  split
  · exact h
  · split
    · rename_i hd
      have hb : b = .empty := by
        by_contra hb
        cases hd.1.symm.trans (h.awake hb)
      refine ⟨fun hne => absurd hb hne, ?_, ?_, ?_⟩
      · dsimp only
        split <;> simp
      · dsimp only
        split
        · rename_i hz
          exact fun _ => hz
        · simp
      · dsimp only
        split
        · simp
        · rename_i hz
          exact fun _ => hz
    · exact h

theorem Merging.take_doze (doze : Option Byte) (m : Merging) (e : OutEntry)
    (h : m.doze.isSome = doze.isSome) : (Merging.take doze m e).doze.isSome = doze.isSome := by
  have hk : ∀ seq : Byte, (if doze = some e.seq then some seq else m.doze).isSome = doze.isSome := by
    intro seq
    split
    · rename_i hd
      rw [hd]
      rfl
    · exact h
  unfold Merging.take
  cases e.msg with
  | notice n =>
    dsimp only
    split
    · exact h
    · exact hk _
  | reply k tag inline chain => exact hk _

theorem Merging.foldl_doze (doze : Option Byte) (es : List OutEntry) (m : Merging)
    (h : m.doze.isSome = doze.isSome) :
    (es.foldl (Merging.take doze) m).doze.isSome = doze.isSome := by
  induction es generalizing m with
  | nil => exact h
  | cons e es ih => exact ih _ (Merging.take_doze doze m e h)

/-- A move keeps the law of presence. -/
theorem Move.present {scan stop : Prop} {ends : State → Prop} {s t : State} (h : Move scan stop ends s t)
    (hs : s.Present) : t.Present := by
  cases h with
  | data h =>
    obtain ⟨h1, h2, h3, h4⟩ := hs
    constructor
    · rw [h.buffer, h.presence]
      exact h1
    · rw [h.dozeReply, h.presence]
      exact h2
    · rw [h.presence, h.causes]
      exact h3
    · rw [h.presence, h.causes]
      exact h4
  | cleared => exact (presenceLaw_iff State.cleared).mp ⟨by decide, by decide, by decide, by decide⟩
  | reset cause =>
    refine State.append_present ?_ _
    exact (presenceLaw_iff State.cleared).mp ⟨by decide, by decide, by decide, by decide⟩
  | emptied => exact ⟨fun h => absurd rfl h, hs.doze, hs.dozing, hs.waking⟩
  | filled b h =>
    refine ⟨fun _ => ?_, hs.doze, hs.dozing, hs.waking⟩
    rcases h with h | h
    · exact h
    · exact hs.awake h
  | replied | repliedLong | handedOver | noticeMoved => exact State.append_present (by exact hs) _
  | posted n => exact State.post_present hs n
  | acked => exact Presence.Present.acknowledge hs _
  | unsentAgain =>
    refine ⟨hs.awake, ?_, hs.dozing, hs.waking⟩
    refine Iff.trans ?_ hs.doze
    have h := Merging.foldl_doze s.presence.dozeReply
      (absorbPending (s.link.outbox.map (fun e => { e with sent := false })) s.link.notices).1
      ⟨[], 0, s.presence.dozeReply⟩ rfl
    exact Eq.congr h rfl
  | gave c => exact Presence.Present.give hs c
  | roused h =>
    have hn : s.presence.dozeReply.isSome = false := by
      rw [Bool.eq_false_iff]
      intro hd
      rw [hs.doze] at hd
      rcases h with h | h <;> cases hd.symm.trans h
    refine ⟨fun _ => rfl, ?_, fun h => (by cases h), fun h => (by cases h)⟩
    dsimp only
    rw [hn]
    simp
  | dozeCancelled => exact ⟨fun _ => rfl, by simp, fun h => (by cases h), fun h => (by cases h)⟩
  | causesCleared h =>
    have ha : s.presence.state = .awake := by
      rcases h with h | h
      · exact h
      · exact hs.awake h
    exact ⟨fun _ => ha, hs.doze, fun _ => rfl, fun hw => (by cases ha.symm.trans hw)⟩
  | dozed d h => exact ⟨fun hb => absurd h hb, by simp, fun h => (by cases h), fun h => (by cases h)⟩
  | commitApplied => exact State.applyCommit_present hs
  | sendCompleted => exact State.completeSend_present hs _ _ _
  | lineStopCompleted =>
    unfold State.completeLineStop
    split
    · exact hs
    · exact State.complete_present (by exact hs) _ _ _ _
  | sideCompleted => exact State.complete_present (by exact hs) _ _ _ _
  | placed =>
    unfold State.Present
    rw [State.placeReply_presence, State.placeReply_link]
    exact hs
  | frameDropped claimed => cases claimed <;> exact hs
  | bytePlaced bs => split <;> exact hs
  | frameTaken =>
    unfold State.Present
    rw [State.enqueue_presence, State.enqueue_link]
    exact hs
  | slotClosed =>
    unfold State.Present
    rw [State.closeSlot_presence, State.closeSlot_link]
    exact hs
  | chosen =>
    unfold State.Present
    rw [State.choose_presence, State.choose_link]
    exact hs
  | notStarted =>
    unfold State.Present
    rw [State.notStarted_presence, State.notStarted_link]
    exact hs
  | startedInGap =>
    unfold State.Present
    rw [State.startSending_presence, State.startSending_link, State.closeSlot_presence, State.closeSlot_link]
    exact hs
  | startedInSlot =>
    unfold State.Present
    rw [State.startSending_presence, State.startSending_link]
    exact hs
  | attemptEnded => exact State.hand_present (by exact hs) _ _
  | _ => exact hs

end Sys2Proof.Machine
end

section
/-! The law of the grant (R124, R130, R6), a move at a time. -/

namespace Sys2Proof.Machine

/-! ### The entries that are on the line, as the grants they have -/

/-- The grant of a send entry that is ON_LINE. -/
def SendEntry.grant (e : SendEntry) : Option Grant :=
  if e.state = .onLine then some ⟨.send e.tag, e.attempts + 1, none⟩ else none

/-- The grant of a reply entry that is ON_LINE. -/
def ReplyEntry.grant (e : ReplyEntry) : Option Grant :=
  if e.state = .onLine then some ⟨.reply, e.attempts + 1, e.window⟩ else none

/-- The grants that the entries of the two queues have. -/
def State.grants (s : State) : List Grant :=
  s.sender.queue.filterMap SendEntry.grant ++ s.responder.queue.filterMap ReplyEntry.grant

/-- `GrantLaw`: no entry has made 8 attempts, and the entries on the line have the transmitter's grant and no other. -/
structure State.Granted (s : State) : Prop where
  sends : ∀ e ∈ s.sender.queue, e.attempts < 8
  replies : ∀ e ∈ s.responder.queue, e.attempts < 8
  agree : s.grants = s.line.transmitter.grant?.toList

theorem SendEntry.grant_eq_none (e : SendEntry) : e.grant = none ↔ e.state ≠ .onLine := by
  unfold SendEntry.grant
  split <;> simp_all

theorem ReplyEntry.grant_eq_none (e : ReplyEntry) : e.grant = none ↔ e.state ≠ .onLine := by
  unfold ReplyEntry.grant
  split <;> simp_all

theorem SendEntry.grant_eq_some (e : SendEntry) (g : Grant) :
    e.grant = some g ↔ e.state = .onLine ∧ ⟨.send e.tag, e.attempts + 1, none⟩ = g := by
  unfold SendEntry.grant
  split <;> simp_all

theorem ReplyEntry.grant_eq_some (e : ReplyEntry) (g : Grant) :
    e.grant = some g ↔ e.state = .onLine ∧ ⟨.reply, e.attempts + 1, e.window⟩ = g := by
  unfold ReplyEntry.grant
  split <;> simp_all

/-- A list yields one value exactly where one member yields it and the others nothing. -/
theorem filterMap_eq_singleton {α β : Type} (g : α → Option β) (l : List α) (b : β) :
    l.filterMap g = [b] ↔
      ∃ x e y, l = x ++ e :: y ∧ (∀ z ∈ x ++ y, g z = none) ∧ g e = some b := by
  constructor
  · intro h
    induction l with
    | nil => cases h
    | cons a l ih =>
      cases ha : g a with
      | none =>
        rw [List.filterMap_cons_none ha] at h
        obtain ⟨x, e, y, rfl, hn, he⟩ := ih h
        refine ⟨a :: x, e, y, rfl, ?_, he⟩
        intro z hz
        rcases List.mem_cons.mp hz with rfl | hz
        · exact ha
        · exact hn z hz
      | some c =>
        rw [List.filterMap_cons_some ha] at h
        obtain ⟨rfl, hl⟩ := List.cons.inj h
        exact ⟨[], a, l, rfl, fun z hz => List.filterMap_eq_nil_iff.mp hl z hz, ha⟩
  · rintro ⟨x, e, y, rfl, hn, he⟩
    rw [List.filterMap_append, List.filterMap_cons_some he,
      List.filterMap_eq_nil_iff.mpr (fun z hz => hn z (List.mem_append_left _ hz)),
      List.filterMap_eq_nil_iff.mpr (fun z hz => hn z (List.mem_append_right _ hz))]
    rfl

theorem grantLaw_iff (s : State) : GrantLaw s ↔ s.Granted := by
  have hs : s.sender.queue.filterMap SendEntry.grant = [] ↔ ∀ e ∈ s.sender.queue, e.state ≠ .onLine := by
    simp [List.filterMap_eq_nil_iff, SendEntry.grant_eq_none]
  have hr : s.responder.queue.filterMap ReplyEntry.grant = [] ↔
      ∀ e ∈ s.responder.queue, e.state ≠ .onLine := by
    simp [List.filterMap_eq_nil_iff, ReplyEntry.grant_eq_none]
  have split : ∀ (h : GrantLaw s ↔ (∀ e ∈ s.sender.queue, e.attempts < 8) ∧
      (∀ e ∈ s.responder.queue, e.attempts < 8) ∧ s.grants = s.line.transmitter.grant?.toList),
      GrantLaw s ↔ s.Granted := fun h => h.trans ⟨fun ⟨a, b, c⟩ => ⟨a, b, c⟩, fun ⟨a, b, c⟩ => ⟨a, b, c⟩⟩
  refine split (and_congr_right fun _ => and_congr_right fun _ => ?_)
  unfold State.grants
  cases s.line.transmitter.grant? with
  | none => simp only [Option.toList_none, List.append_eq_nil_iff, hs, hr]
  | some g =>
    obtain ⟨source, n, se⟩ := g
    rw [Option.toList_some, List.append_eq_singleton_iff]
    cases source with
    | send tag =>
      have h1 : s.responder.queue.filterMap ReplyEntry.grant ≠ [⟨.send tag, n, se⟩] := by
        intro h
        obtain ⟨x, e, y, -, -, he⟩ := (filterMap_eq_singleton _ _ _).mp h
        cases ((ReplyEntry.grant_eq_some e _).mp he).2
      simp only [h1, and_false, false_or]
      rw [hr, filterMap_eq_singleton, and_comm]
      simp only [SendEntry.grant_eq_none, SendEntry.grant_eq_some, Grant.mk.injEq, Carried.send.injEq]
      refine and_congr_left fun _ => ?_
      constructor
      · rintro ⟨a, e, b, hq, ho, hon, ht, hn, hse⟩
        exact ⟨a, e, b, hq, ho, hon, ht, hn.symm, hse.symm⟩
      · rintro ⟨a, e, b, hq, ho, hon, ht, hn, hse⟩
        exact ⟨a, e, b, hq, ho, hon, ht, hn.symm, hse.symm⟩
    | reply =>
      have h1 : s.sender.queue.filterMap SendEntry.grant ≠ [⟨.reply, n, se⟩] := by
        intro h
        obtain ⟨x, e, y, -, -, he⟩ := (filterMap_eq_singleton _ _ _).mp h
        cases ((SendEntry.grant_eq_some e _).mp he).2
      simp only [h1, false_and, or_false]
      rw [hs, filterMap_eq_singleton]
      simp only [ReplyEntry.grant_eq_none, ReplyEntry.grant_eq_some, Grant.mk.injEq, true_and]
      refine and_congr_right fun _ => ?_
      constructor
      · rintro ⟨a, e, b, hq, ho, hon, hn, hse⟩
        exact ⟨a, e, b, hq, ho, hon, hn.symm, hse.symm⟩
      · rintro ⟨a, e, b, hq, ho, hon, hn, hse⟩
        exact ⟨a, e, b, hq, ho, hon, hn.symm, hse.symm⟩

/-! ### One member of a list changed or removed -/

/-- The first member that meets `p` parts the list; removing and changing it act there. -/
theorem find?_parts {α : Type} {p : α → Bool} {l : List α} {e : α} (h : l.find? p = some e) :
    ∃ x y, l = x ++ e :: y ∧ l.eraseP p = x ++ y ∧ ∀ f, changeFirst p f l = x ++ f e :: y := by
  obtain ⟨he, x, y, rfl, hx⟩ := List.find?_eq_some_iff_append.mp h
  have hx' : ∀ z ∈ x, p z = false := fun z hz => by simpa using hx z hz
  exact ⟨x, y, rfl, eraseP_split p x y e hx' he, fun f => changeFirst_split p f x y e hx' he⟩

/-- Two changes of the first member that meets `p` are one. -/
theorem changeFirst_changeFirst {α : Type} (p : α → Bool) (f g : α → α) (l : List α)
    (h : ∀ e, p e = true → p (f e) = true) :
    changeFirst p g (changeFirst p f l) = changeFirst p (fun e => g (f e)) l := by
  induction l with
  | nil => rfl
  | cons a l ih =>
    by_cases ha : p a = true
    · simp [changeFirst, ha, h a ha]
    · simp [changeFirst, ha, ih]

section

variable {α β : Type} {p : α → Bool} {l : List α} {e : α} {b c : β} (g : α → Option β)

theorem filterMap_split_singleton {x y : List α} (he : g e = some c) (hl : (x ++ e :: y).filterMap g = [b]) :
    x.filterMap g = [] ∧ y.filterMap g = [] ∧ c = b := by
  rw [List.filterMap_append, List.filterMap_cons_some he] at hl
  cases hx : x.filterMap g with
  | nil =>
    rw [hx] at hl
    obtain ⟨rfl, hy⟩ := List.cons.inj hl
    exact ⟨rfl, hy, rfl⟩
  | cons z zs =>
    rw [hx] at hl
    simp at hl

theorem filterMap_eraseP_none (h : l.find? p = some e) (he : g e = none) :
    (l.eraseP p).filterMap g = l.filterMap g := by
  obtain ⟨x, y, hl, hr, -⟩ := find?_parts h
  rw [hr, hl]
  simp [he]

theorem filterMap_eraseP_some (h : l.find? p = some e) (he : g e = some c) (hl : l.filterMap g = [b]) :
    (l.eraseP p).filterMap g = [] := by
  obtain ⟨x, y, rfl, hr, -⟩ := find?_parts h
  obtain ⟨hx, hy, -⟩ := filterMap_split_singleton g he hl
  rw [hr, List.filterMap_append, hx, hy]
  rfl

/-- What the first member that meets `p` yields is put in the place of what it yielded. -/
theorem filterMap_changeFirst_none {f : α → α} (h : l.find? p = some e) (he : g e = none)
    (hf : g (f e) = none) : (changeFirst p f l).filterMap g = l.filterMap g := by
  obtain ⟨x, y, hl, -, hc⟩ := find?_parts h
  rw [hc, hl]
  simp [he, hf]

theorem filterMap_changeFirst_some {f : α → α} (h : l.find? p = some e) (he : g e = some c)
    (hl : l.filterMap g = [b]) : (changeFirst p f l).filterMap g = (g (f e)).toList := by
  obtain ⟨x, y, rfl, -, hc⟩ := find?_parts h
  obtain ⟨hx, hy, -⟩ := filterMap_split_singleton g he hl
  rw [hc, List.filterMap_append, List.filterMap_cons, hx, hy]
  cases g (f e) <;> rfl

theorem filterMap_changeFirst_nil {f : α → α} (h : l.find? p = some e) (hl : l.filterMap g = []) :
    (changeFirst p f l).filterMap g = (g (f e)).toList := by
  obtain ⟨x, y, rfl, -, hc⟩ := find?_parts h
  rw [List.filterMap_eq_nil_iff] at hl
  rw [hc, List.filterMap_append, List.filterMap_cons,
    List.filterMap_eq_nil_iff.mpr (fun z hz => hl z (by simp [hz])),
    List.filterMap_eq_nil_iff.mpr (fun z hz => hl z (by simp [hz]))]
  cases g (f e) <;> rfl

end

/-- A change of the first member that meets `p` brings that member's new value alone. -/
theorem mem_changeFirst_of_find? {α : Type} {p : α → Bool} {l : List α} {e z : α} {f : α → α}
    (h : l.find? p = some e) (hz : z ∈ changeFirst p f l) : z ∈ l ∨ z = f e := by
  obtain ⟨x, y, rfl, -, hc⟩ := find?_parts h
  rw [hc] at hz
  simp only [List.mem_append, List.mem_cons] at *
  tauto

/-- A change that keeps a bounded count keeps the bound. -/
theorem changeFirst_bound {α : Type} (p : α → Bool) (f : α → α) (n : α → Nat) {l : List α}
    (h : ∀ e ∈ l, n e < 8) (hf : ∀ e, n (f e) = n e) : ∀ e ∈ changeFirst p f l, n e < 8 := by
  intro e he
  rcases changeFirst_mem p f l e he with he | ⟨y, hy, -, rfl⟩
  · exact h e he
  · rw [hf]
    exact h y hy

/-! ### The grant's entry -/

theorem State.Granted.none {s : State} (h : s.Granted) (ht : s.line.transmitter.grant? = none) :
    s.sender.queue.filterMap SendEntry.grant = [] ∧ s.responder.queue.filterMap ReplyEntry.grant = [] := by
  have ha := h.agree
  rw [ht] at ha
  exact List.append_eq_nil_iff.mp ha

theorem State.Granted.send {s : State} {g : Grant} {tag : Byte} (h : s.Granted)
    (ht : s.line.transmitter.grant? = some g) (hg : g.source = .send tag) :
    s.sender.queue.filterMap SendEntry.grant = [g] ∧ s.responder.queue.filterMap ReplyEntry.grant = [] := by
  have ha := h.agree
  rw [ht] at ha
  rcases List.append_eq_singleton_iff.mp ha with ⟨-, h2⟩ | h2
  · obtain ⟨x, e, y, -, -, he⟩ := (filterMap_eq_singleton _ _ _).mp h2
    have hs := ((ReplyEntry.grant_eq_some e _).mp he).2
    rw [← hs] at hg
    cases hg
  · exact h2

theorem State.Granted.reply {s : State} {g : Grant} (h : s.Granted)
    (ht : s.line.transmitter.grant? = some g) (hg : g.source = .reply) :
    s.sender.queue.filterMap SendEntry.grant = [] ∧ s.responder.queue.filterMap ReplyEntry.grant = [g] := by
  have ha := h.agree
  rw [ht] at ha
  rcases List.append_eq_singleton_iff.mp ha with h2 | ⟨h2, -⟩
  · exact h2
  · obtain ⟨x, e, y, -, -, he⟩ := (filterMap_eq_singleton _ _ _).mp h2
    have hs := ((SendEntry.grant_eq_some e _).mp he).2
    rw [← hs] at hg
    cases hg

/-- The send entry that a grant names is found. -/
theorem find?_granted {l : List SendEntry} {g : Grant} {tag : Byte} (h : l.filterMap SendEntry.grant = [g])
    (hg : g.source = .send tag) :
    ∃ e, l.find? (fun e => e.tag == tag && e.state.isOnLine) = some e ∧ e.grant = some g := by
  obtain ⟨x, e, y, rfl, hn, he⟩ := (filterMap_eq_singleton _ _ _).mp h
  obtain ⟨hon, rfl⟩ := (SendEntry.grant_eq_some e _).mp he
  cases hg
  refine ⟨e, find?_split _ _ _ _ (fun z hz => ?_) (by simp [hon, TxState.isOnLine]), he⟩
  have hz' := (SendEntry.grant_eq_none z).mp (hn z (List.mem_append_left _ hz))
  simp [TxState.isOnLine, hz']

/-- The reply that is on the line is found. -/
theorem find?_onLine {l : List ReplyEntry} {g : Grant} (h : l.filterMap ReplyEntry.grant = [g]) :
    ∃ e, l.find? (fun e => e.state.isOnLine) = some e ∧ e.grant = some g := by
  obtain ⟨x, e, y, rfl, hn, he⟩ := (filterMap_eq_singleton _ _ _).mp h
  obtain ⟨hon, rfl⟩ := (ReplyEntry.grant_eq_some e _).mp he
  refine ⟨e, find?_split _ _ _ _ (fun z hz => ?_) (by simp [hon, TxState.isOnLine]), he⟩
  have hz' := (ReplyEntry.grant_eq_none z).mp (hn z (List.mem_append_left _ hz))
  simp [TxState.isOnLine, hz']

theorem backoffState_ne_onLine (now r : Nat) : backoffState now r ≠ .onLine := by
  unfold backoffState
  split <;> simp

theorem State.completeSend_granted {s : State} (hs : s.Granted) {e : SendEntry} (st : Status)
    (content : List Byte) (h : s.sender.queue.find? (fun x => x.tag == e.tag) = some e) (he : e.grant = none) :
    (s.completeSend e st content).Granted := by
  constructor
  · intro x hx
    rw [State.completeSend_queue] at hx
    exact hs.sends x (List.mem_of_mem_eraseP hx)
  · rw [State.completeSend_responder]
    exact hs.replies
  · unfold State.grants
    rw [State.completeSend_queue, State.completeSend_responder, State.completeSend_line,
      filterMap_eraseP_none _ h he]
    exact hs.agree

/-- The outcome of a send entry's attempt leaves nothing on the line. -/
theorem State.handSend_granted {s : State} {l : Line} {g : Grant} {tag : Byte} {o : AttemptEnd}
    (hd : (s.sender.queue.map SendEntry.tag).Nodup) (hs : s.Granted) (hg : s.line.transmitter.grant? = some g)
    (hsrc : g.source = .send tag) (hi : l.transmitter = .idle) (ho : o ≠ .stopped)
    (hc : ∀ r, o = .collided r → g.attempt < 8) : (State.handSend { s with line := l } tag o).Granted := by
  obtain ⟨h1, h2⟩ := hs.send hg hsrc
  obtain ⟨e, hf, he⟩ := find?_granted h1 hsrc
  have hkey := find?_key SendEntry.tag hd (List.mem_of_find?_eq_some hf)
  have completed : ∀ st content, (State.completeSend { s with line := l } e st content).Granted := by
    intro st content
    constructor
    · intro x hx
      rw [State.completeSend_queue] at hx
      exact hs.sends x (List.mem_of_mem_eraseP hx)
    · rw [State.completeSend_responder]
      exact hs.replies
    · unfold State.grants
      rw [State.completeSend_queue, State.completeSend_responder, State.completeSend_line]
      dsimp only
      rw [filterMap_eraseP_some _ hkey he h1, h2, hi]
      rfl
  unfold State.handSend
  dsimp only
  rw [hf]
  cases o with
  | stopped => exact absurd rfl ho
  | sent => exact completed _ _
  | exhausted => exact completed _ _
  | collided r =>
    dsimp only
    have hn : e.attempts + 1 < 8 := by
      obtain ⟨-, rfl⟩ := (SendEntry.grant_eq_some e _).mp he
      exact hc r rfl
    refine ⟨?_, hs.replies, ?_⟩
    · intro x hx
      replace hx : x ∈ changeFirst _ _ s.sender.queue := hx
      rcases mem_changeFirst_of_find? hf hx with hx | rfl
      · exact hs.sends x hx
      · exact hn
    · show (changeFirst _ _ s.sender.queue).filterMap _ ++ s.responder.queue.filterMap _ = l.transmitter.grant?.toList
      rw [filterMap_changeFirst_some _ hf he h1, h2, hi,
        (SendEntry.grant_eq_none _).mpr (backoffState_ne_onLine _ _)]
      rfl

/-- Where a reply is late, the entry that meets `p` is removed or loses its window: nothing else changes. -/
theorem State.lateReply_replies {s : State} {p : ReplyEntry → Bool} (late : LatePolicy) :
    (s.lateReply p late).responder.queue = s.responder.queue.eraseP p ∨
      (s.lateReply p late).responder.queue =
        changeFirst p (fun e => { e with window := none }) s.responder.queue := by
  cases late with
  | drop =>
    refine .inl ?_
    show (s.dropReply p).responder.queue = _
    unfold State.dropReply
    split
    · rename_i hn
      rw [List.eraseP_of_forall_not (fun a ha => by simpa using List.find?_eq_none.mp hn a ha)]
    · rfl
  | send => exact .inr rfl

theorem State.dropReply_queue (s : State) (p : ReplyEntry → Bool) :
    (s.dropReply p).responder.queue = s.responder.queue.eraseP p := by
  unfold State.dropReply
  split
  · rename_i hn
    rw [List.eraseP_of_forall_not (fun a ha => by simpa using List.find?_eq_none.mp hn a ha)]
  · rfl

theorem State.lateReply_bound {s : State} {p : ReplyEntry → Bool} (late : LatePolicy)
    (h : ∀ e ∈ s.responder.queue, e.attempts < 8) :
    ∀ e ∈ (s.lateReply p late).responder.queue, e.attempts < 8 := by
  rcases s.lateReply_replies (p := p) late with hq | hq <;> rw [hq]
  · exact fun e he => h e (List.mem_of_mem_eraseP he)
  · exact changeFirst_bound p _ ReplyEntry.attempts h (fun _ => rfl)

/-- A reply that is not on the line and is late leaves the grants as they were. -/
theorem State.lateReply_grants_waiting {s : State} {p : ReplyEntry → Bool} {e : ReplyEntry} (late : LatePolicy)
    (hf : s.responder.queue.find? p = some e) (he : e.state ≠ .onLine) :
    (s.lateReply p late).responder.queue.filterMap ReplyEntry.grant =
      s.responder.queue.filterMap ReplyEntry.grant := by
  have hg := (ReplyEntry.grant_eq_none e).mpr he
  rcases s.lateReply_replies (p := p) late with hq | hq <;> rw [hq]
  · exact filterMap_eraseP_none _ hf hg
  · exact filterMap_changeFirst_none _ hf hg ((ReplyEntry.grant_eq_none _).mpr he)

/-- The outcome of a reply's attempt leaves nothing on the line. -/
theorem State.handReply_granted {s : State} {l : Line} {g : Grant} {o : AttemptEnd} (hs : s.Granted)
    (hg : s.line.transmitter.grant? = some g) (hsrc : g.source = .reply) (hi : l.transmitter = .idle)
    (ho : o ≠ .stopped) (hc : ∀ r, o = .collided r → g.attempt < 8) :
    (State.handReply { s with line := l } o).Granted := by
  obtain ⟨h1, h2⟩ := hs.reply hg hsrc
  obtain ⟨e, hf, he⟩ := find?_onLine h2
  have emptied : ∀ t : State, t.sender = s.sender → t.line = l →
      (∀ x ∈ t.responder.queue, x.attempts < 8) → t.responder.queue.filterMap ReplyEntry.grant = [] →
      t.Granted := by
    intro t hts htl htb htg
    refine ⟨hts ▸ hs.sends, htb, ?_⟩
    unfold State.grants
    rw [hts, htg, h1, htl, hi]
    rfl
  have dropped : ∀ t : State, t.sender = s.sender → t.line = l →
      t.responder.queue = s.responder.queue.eraseP (fun e => e.state.isOnLine) → t.Granted := by
    intro t hts htl htq
    refine emptied t hts htl ?_ ?_ <;> rw [htq]
    · exact fun x hx => hs.replies x (List.mem_of_mem_eraseP hx)
    · exact filterMap_eraseP_some _ hf he h2
  have backed : ∀ (t : State) (f : ReplyEntry → ReplyEntry), t.sender = s.sender → t.line = l →
      t.responder.queue = changeFirst (fun e => e.state.isOnLine) f s.responder.queue →
      (f e).attempts < 8 → (f e).state ≠ .onLine → t.Granted := by
    intro t f hts htl htq hb hst
    refine emptied t hts htl ?_ ?_ <;> rw [htq]
    · intro x hx
      rcases mem_changeFirst_of_find? hf hx with hx | rfl
      · exact hs.replies x hx
      · exact hb
    · rw [filterMap_changeFirst_some _ hf he h2, (ReplyEntry.grant_eq_none _).mpr hst]
      rfl
  unfold State.handReply
  dsimp only
  rw [hf]
  cases o with
  | stopped => exact absurd rfl ho
  | sent => exact dropped _ (by simp) (by simp) (State.dropReply_queue _ _)
  | exhausted => exact dropped _ (by simp) (by simp) (State.dropReply_queue _ _)
  | collided r =>
    have hn : e.attempts + 1 < 8 := by
      obtain ⟨-, rfl⟩ := (ReplyEntry.grant_eq_some e _).mp he
      exact hc r rfl
    dsimp only
    split
    · exact dropped _ (by simp) (by simp) (State.dropReply_queue _ _)
    · split
      · refine backed _ (fun x => { x with
            window := none, attempts := x.attempts + 1, state := backoffState l.point r }) (by rfl) (by rfl) ?_ hn
          (backoffState_ne_onLine _ _)
        exact changeFirst_changeFirst _ _ _ _ (fun _ h => h)
      · exact backed _ _ rfl rfl rfl hn (backoffState_ne_onLine _ _)

/-- A reply's grant that is handed back NOT_STARTED leaves nothing on the line, whether the reply is still there or
not. -/
theorem State.notStarted_reply_granted {s : State} {g : Grant} (ht : s.line.transmitter = .gapWait g)
    (hsrc : g.source = .reply) (hs : ∀ e ∈ s.sender.queue, e.attempts < 8)
    (hr : ∀ e ∈ s.responder.queue, e.attempts < 8) (h1 : s.sender.queue.filterMap SendEntry.grant = [])
    (h2 : s.responder.queue.filterMap ReplyEntry.grant = [] ∨
      ∃ g', s.responder.queue.filterMap ReplyEntry.grant = [g']) : s.notStarted.Granted := by
  unfold State.notStarted
  rw [ht]
  dsimp only
  rw [hsrc]
  dsimp only
  refine ⟨hs, changeFirst_bound _ _ ReplyEntry.attempts hr (fun _ => rfl), ?_⟩
  show s.sender.queue.filterMap _ ++ (changeFirst _ _ s.responder.queue).filterMap _ = []
  rcases h2 with h2 | ⟨g', h2⟩
  · rw [changeFirst_none, h1, h2]
    · rfl
    · intro x hx
      have hn := (ReplyEntry.grant_eq_none x).mp (List.filterMap_eq_nil_iff.mp h2 x hx)
      simp [TxState.isOnLine, hn]
  · obtain ⟨e, hf, he⟩ := find?_onLine h2
    rw [filterMap_changeFirst_some _ hf he h2, h1]
    rfl

/-- A grant that is handed back NOT_STARTED leaves nothing on the line. -/
theorem State.notStarted_granted {s : State} (hs : s.Granted) : s.notStarted.Granted := by
  cases ht : s.line.transmitter with
  | gapWait g =>
    have hg : s.line.transmitter.grant? = some g := by rw [ht]; rfl
    cases hsrc : g.source with
    | send tag =>
      obtain ⟨h1, h2⟩ := hs.send hg hsrc
      obtain ⟨e, hf, he⟩ := find?_granted h1 hsrc
      unfold State.notStarted
      rw [ht]
      dsimp only
      rw [hsrc]
      refine ⟨changeFirst_bound _ _ SendEntry.attempts hs.sends (fun _ => rfl), hs.replies, ?_⟩
      show (changeFirst _ _ s.sender.queue).filterMap _ ++ s.responder.queue.filterMap _ = []
      rw [filterMap_changeFirst_some _ hf he h1, h2]
      rfl
    | reply =>
      obtain ⟨h1, h2⟩ := hs.reply hg hsrc
      exact State.notStarted_reply_granted ht hsrc hs.sends hs.replies h1 (.inr ⟨g, h2⟩)
  | _ =>
    unfold State.notStarted
    rw [ht]
    exact hs

theorem ReplyEntry.closedBy_iff (fe : Nat) (w : Bool) (e : ReplyEntry) :
    e.closedBy fe w = true ↔ e.window = some fe ∧ (e.state = .waiting ∨ e.state = .onLine ∧ w = true) := by
  simp [ReplyEntry.closedBy, TxState.isWaiting, TxState.isOnLine]

/-- A reply on the line has the transmitter's grant. -/
theorem State.Granted.of_onLine {s : State} (hs : s.Granted) {e : ReplyEntry} (he : e ∈ s.responder.queue)
    (hon : e.state = .onLine) :
    s.line.transmitter.grant? = some ⟨.reply, e.attempts + 1, e.window⟩ := by
  have hm : (⟨.reply, e.attempts + 1, e.window⟩ : Grant) ∈ s.grants :=
    List.mem_append_right _ (List.mem_filterMap.mpr ⟨e, he, (ReplyEntry.grant_eq_some e _).mpr ⟨hon, rfl⟩⟩)
  rw [hs.agree] at hm
  cases hg : s.line.transmitter.grant? with
  | none =>
    rw [hg] at hm
    cases hm
  | some g =>
    rw [hg] at hm
    simp only [Option.toList_some, List.mem_singleton] at hm
    rw [hm]

theorem Transmitter.inGapWait_grant {t : Transmitter} {g : Grant} (hw : t.inGapWait = true)
    (hg : t.grant? = some g) : t = .gapWait g := by
  cases t with
  | gapWait g' =>
    cases hg
    rfl
  | _ => cases hw

/-- The close of a slot hands back a grant in its window, and leaves every other one (R117). -/
theorem State.closingReport_granted {s : State} (hs : s.Granted) (fe : Nat) :
    (s.closingReport fe).Granted := by
  unfold State.closingReport
  split
  · exact hs
  · rename_i e hf
    have hm := List.mem_of_find?_eq_some hf
    obtain ⟨hwin, hst⟩ := (ReplyEntry.closedBy_iff _ _ _).mp (List.find?_some hf)
    dsimp only
    rcases hst with hst | ⟨hon, hw⟩
    · rw [if_neg (by simp [TxState.isOnLine, hst])]
      refine ⟨by simpa using hs.sends, State.lateReply_bound _ hs.replies, ?_⟩
      unfold State.grants
      rw [State.lateReply_sender, State.lateReply_line,
        State.lateReply_grants_waiting _ hf (by rw [hst]; simp)]
      exact hs.agree
    · rw [if_pos (by simp [TxState.isOnLine, hon])]
      have hg := hs.of_onLine hm hon
      obtain ⟨h1, h2⟩ := hs.reply hg rfl
      have he := (ReplyEntry.grant_eq_some e _).mpr ⟨hon, rfl⟩
      refine State.notStarted_reply_granted (g := ⟨.reply, e.attempts + 1, e.window⟩) ?_ rfl ?_ ?_ ?_ ?_
      · rw [State.lateReply_line]
        exact Transmitter.inGapWait_grant hw hg
      · simpa using hs.sends
      · exact State.lateReply_bound _ hs.replies
      · simpa using h1
      · rcases State.lateReply_replies (s := s) (p := ReplyEntry.closedBy fe s.line.transmitter.inGapWait) e.late
          with hq | hq <;> rw [hq]
        · exact .inl (filterMap_eraseP_some _ hf he h2)
        · refine .inr ⟨⟨.reply, e.attempts + 1, none⟩, ?_⟩
          rw [filterMap_changeFirst_some _ hf he h2, (ReplyEntry.grant_eq_some { e with window := none } _).mpr ⟨hon, rfl⟩]
          rfl

theorem State.closeSlot_granted {s : State} (hs : s.Granted) : s.closeSlot.Granted := by
  have hn : State.Granted { s with line := { s.line with slot := .none } } := ⟨hs.sends, hs.replies, hs.agree⟩
  unfold State.closeSlot
  split
  · exact hs
  · exact State.closingReport_granted hn _
  · exact hn

/-- The close of a slot leaves a grant that waits in no slot. -/
theorem State.closeSlot_transmitter_of_contend {s : State} (hs : s.Granted) {g : Grant}
    (hg : s.line.transmitter = .gapWait g) (hn : g.slotEnd = none) :
    s.closeSlot.line.transmitter = s.line.transmitter := by
  unfold State.closeSlot
  split
  · rfl
  · unfold State.closingReport
    split
    · rfl
    · rename_i e hf
      have hm := List.mem_of_find?_eq_some hf
      obtain ⟨hwin, hst⟩ := (ReplyEntry.closedBy_iff _ _ _).mp (List.find?_some hf)
      have hwait : e.state ≠ .onLine := by
        intro hon
        have h := hs.of_onLine hm hon
        rw [hg] at h
        cases h
        exact absurd (hn.symm.trans hwin) (by simp)
      dsimp only
      rw [if_neg (by simp [TxState.isOnLine, hwait]), State.lateReply_line]
  · rfl

/-- The arbiter's choice puts on the line the entry that it grants (R131). -/
theorem State.choose_granted {s : State} (hs : s.Granted) (hi : s.line.transmitter = .idle) :
    s.choose.Granted := by
  obtain ⟨h1, h2⟩ := hs.none (by rw [hi]; rfl)
  have reply : ∀ (u : State) (r : ReplyEntry), u.sender.queue = s.sender.queue → u.responder = s.responder →
      replyHead s.responder.queue = some r → (u.grantReply r).Granted := by
    intro u r hu hur hr
    have hf : s.responder.queue.find? (fun x => x.window.isSome == r.window.isSome && x.state.isWaiting) =
        some r := by
      unfold replyHead at hr
      split at hr
      · rename_i e he
        cases hr
        have hw := List.find?_some he
        simp only [Bool.and_eq_true] at hw
        simpa [hw.1] using he
      · rename_i hno
        rw [List.find?_eq_none] at hno
        obtain ⟨hw, x, y, hq, hx⟩ := List.find?_eq_some_iff_append.mp hr
        have hopen : ∀ z ∈ s.responder.queue, z.state.isWaiting = true → z.window.isSome = false := by
          intro z hz hzw
          have := hno z hz
          simpa [hzw] using this
        rw [hq]
        refine find?_split _ _ _ _ (fun z hz => ?_) ?_
        · have := hx z hz
          simp only [Bool.not_eq_true'] at this
          simp [this]
        · simp [hw]
    refine ⟨?_, ?_, ?_⟩
    · show ∀ e ∈ u.sender.queue, _
      rw [hu]
      exact hs.sends
    · show ∀ e ∈ changeFirst _ _ u.responder.queue, _
      rw [hur]
      exact changeFirst_bound _ _ ReplyEntry.attempts hs.replies (fun _ => rfl)
    · show u.sender.queue.filterMap _ ++ (changeFirst _ _ u.responder.queue).filterMap _ = _
      rw [hu, hur, h1, filterMap_changeFirst_nil _ hf h2]
      rfl
  have send : ∀ e, sendCandidate s.sender.queue = some e → (s.grantSend e).Granted := by
    intro e he
    refine ⟨changeFirst_bound _ _ SendEntry.attempts hs.sends (fun _ => rfl), hs.replies, ?_⟩
    show (changeFirst _ _ s.sender.queue).filterMap _ ++ s.responder.queue.filterMap _ = _
    rw [filterMap_changeFirst_nil _ he h1, h2]
    rfl
  unfold State.choose
  split
  · rename_i r e hr he
    split
    · exact reply _ r rfl rfl hr
    · split
      · exact reply _ r rfl rfl hr
      · exact send e he
  · rename_i r hr _
    exact reply _ r rfl rfl hr
  · rename_i e _ he
    exact send e he
  · exact hs

theorem State.startSending_granted {s : State} (hs : s.Granted) {g : Grant}
    (hg : s.line.transmitter = .gapWait g) : (s.startSending g).Granted := by
  unfold State.startSending
  split
  · exact hs
  · refine ⟨hs.sends, hs.replies, hs.agree.trans ?_⟩
    rw [hg]
    rfl

theorem State.Granted.same {s t : State} (hs : s.Granted) (h1 : t.sender.queue = s.sender.queue)
    (h2 : t.responder.queue = s.responder.queue) (h3 : t.line.transmitter = s.line.transmitter) :
    t.Granted := by
  refine ⟨h1 ▸ hs.sends, h2 ▸ hs.replies, ?_⟩
  unfold State.grants
  rw [h1, h2, h3]
  exact hs.agree

theorem State.cleared_granted : State.cleared.Granted :=
  (grantLaw_iff State.cleared).mp ⟨by decide, by decide, by decide, by decide⟩

theorem State.append_granted {s : State} (hs : s.Granted) (m : Message) : (s.append m).Granted :=
  hs.same (by rw [State.append_sender]) (by rw [State.append_responder]) (by rw [State.append_line])

/-- A member that yields nothing, with another that yields nothing in its place. -/
theorem filterMap_set_none {α β : Type} (g : α → Option β) {l : List α} {i : Nat} {e e' : α}
    (h : l[i]? = some e) (he : g e = none) (he' : g e' = none) : (l.set i e').filterMap g = l.filterMap g := by
  induction l generalizing i with
  | nil => rfl
  | cons a l ih =>
    cases i with
    | zero =>
      cases h
      simp [he, he']
    | succ i => simp [List.filterMap_cons, ih h]

/-- A move, none of a jam's end in a stopping sequence, keeps the law of the grant, in the company of the law of the
deferred requests. -/
theorem Move.granted {scan : Prop} {ends : State → Prop} {s t : State} (h : Move scan False ends s t)
    (hd : s.Defers) (hs : s.Granted) : t.Granted := by
  cases h with
  | data h => exact hs.same h.sends h.replies h.transmitter
  | cleared => exact State.cleared_granted.same rfl rfl rfl
  | reset cause =>
    refine State.append_granted ?_ _
    exact State.cleared_granted.same rfl rfl rfl
  | replied | repliedLong | handedOver | noticeMoved =>
    refine State.append_granted ?_ _
    exact hs.same rfl rfl rfl
  | posted =>
    exact hs.same (by rw [State.post_sender]) (by rw [State.post_responder]) (by rw [State.post_line])
  | enteredSend tag f =>
    refine ⟨?_, hs.replies, ?_⟩
    · intro e he
      replace he : e ∈ s.sender.queue ++ [(⟨tag, f, 0, .waiting⟩ : SendEntry)] := he
      rcases List.mem_append.mp he with he | he
      · exact hs.sends e he
      · rw [List.mem_singleton.mp he]
        exact (by decide : 0 < 8)
    · refine Eq.trans ?_ hs.agree
      show (s.sender.queue ++ [_]).filterMap SendEntry.grant ++ _ = s.grants
      rw [List.filterMap_append]
      exact congrArg (fun l => l ++ _) (List.append_nil _)
  | commitApplied =>
    exact hs.same (by rw [State.applyCommit_sender]) (by rw [State.applyCommit_responder])
      (by rw [State.applyCommit_line])
  | sendCompleted e st content he hi =>
    refine State.completeSend_granted hs _ _ he ((SendEntry.grant_eq_none e).mpr ?_)
    rcases hi with hi | hi
    · exact hi
    · have h1 := (hs.none (by rw [hi]; rfl)).1
      exact (SendEntry.grant_eq_none e).mp
        (List.filterMap_eq_nil_iff.mp h1 e (List.mem_of_find?_eq_some he))
  | lineStopCompleted =>
    unfold State.completeLineStop
    split
    · exact hs
    · exact hs.same (by rw [State.refuse_sender]) (by rw [State.refuse_responder]) (by rw [State.refuse_line])
  | sideCompleted =>
    exact hs.same (by rw [State.refuse_sender]) (by rw [State.refuse_responder]) (by rw [State.refuse_line])
  | placed _ n f w _ _ =>
    unfold State.placeReply
    dsimp only
    split
    · refine ⟨hs.sends, ?_, ?_⟩
      · intro e he
        replace he : e ∈ s.responder.queue ++ [_] := he
        rcases List.mem_append.mp he with he | he
        · exact hs.replies e he
        · rw [List.mem_singleton.mp he]
          exact (by decide : 0 < 8)
      · refine Eq.trans ?_ hs.agree
        show _ ++ (s.responder.queue ++ [_]).filterMap ReplyEntry.grant = s.grants
        rw [List.filterMap_append]
        exact congrArg _ (List.append_nil _)
    · exact hs
  | frameDropped claimed => cases claimed <;> exact hs.same rfl rfl rfl
  | bytePlaced bs => split <;> exact hs.same rfl rfl rfl
  | frameTaken bs c =>
    obtain ⟨p, g, sl, hl, -⟩ := s.line.frameEnded_eq (Frame.ofBytes bs) true
    refine hs.same ?_ ?_ ?_
    · rw [State.enqueue_sender]
    · rw [State.enqueue_responder]
    · rw [State.enqueue_line, hl]
  | slotClosed => exact State.closeSlot_granted hs
  | chosen _ hi => exact State.choose_granted hs hi
  | notStarted => exact State.notStarted_granted hs
  | startedInGap g hg hn _ _ =>
    exact State.startSending_granted (State.closeSlot_granted hs)
      ((State.closeSlot_transmitter_of_contend hs hg hn).trans hg)
  | startedInSlot g fe hg _ _ _ =>
    refine State.startSending_granted ?_ hg
    exact hs.same rfl rfl rfl
  | jammed g start bytes p ht =>
    refine ⟨hs.sends, hs.replies, hs.agree.trans ?_⟩
    rw [ht]
    rfl
  | attemptEnded g l o h ho hc =>
    have hg : s.line.transmitter.grant? = some g := by
      rcases h.drove with ⟨_, _, h⟩ | ⟨_, h, -⟩ <;> rw [h] <;> rfl
    unfold State.hand
    cases hsrc : g.source with
    | send tag => exact State.handSend_granted hd.sendTags hs hg hsrc h.idle ho hc
    | reply => exact State.handReply_granted hs hg hsrc h.idle ho hc
  | sendWaits tag p =>
    refine ⟨changeFirst_bound _ _ SendEntry.attempts hs.sends (fun _ => rfl), hs.replies, ?_⟩
    refine Eq.trans ?_ hs.agree
    show (changeFirst _ _ s.sender.queue).filterMap _ ++ _ = _
    rw [filterMap_changeFirst]
    · rfl
    · intro e he
      rw [(SendEntry.grant_eq_none _).mpr (by simp), (SendEntry.grant_eq_none e).mpr]
      intro hon
      simp [hon, TxState.backoffRun] at he
  | replyWaits place e p h hb =>
    have hon : e.state ≠ .onLine := by
      intro hon
      simp [hon, TxState.backoffRun] at hb
    refine ⟨hs.sends, ?_, ?_⟩
    · intro x hx
      rcases List.mem_or_eq_of_mem_set hx with hx | rfl
      · exact hs.replies x hx
      · exact hs.replies e (List.mem_of_getElem? h)
    · refine Eq.trans ?_ hs.agree
      show _ ++ (s.responder.queue.set place _).filterMap _ = _
      rw [filterMap_set_none _ h ((ReplyEntry.grant_eq_none e).mpr hon) ((ReplyEntry.grant_eq_none _).mpr (by simp))]
      rfl
  | repliesDiscarded hi =>
    obtain ⟨h1, h2⟩ := hs.none (by rw [hi]; rfl)
    refine ⟨hs.sends, fun e he => (by cases he), ?_⟩
    show s.sender.queue.filterMap _ ++ [] = s.line.transmitter.grant?.toList
    rw [h1, hi]
    rfl
  | _ => exact hs.same rfl rfl rfl

/-- Where nothing waits to be sent and the transmitter is IDLE, the law of the grant stands. -/
theorem State.NothingToSend.granted {s : State} (h : s.NothingToSend) (hi : s.line.transmitter = .idle) :
    s.Granted := by
  obtain ⟨h1, h2⟩ := h
  refine ⟨by simp [h1], by simp [h2], ?_⟩
  unfold State.grants
  rw [h1, h2, hi]
  rfl

/-- What a scan's end does keeps a law that every move keeps. -/
theorem scan_keeps {stop : Prop} {ends : State → Prop} {P : State → Prop}
    (hm : ∀ {s t : State}, Move True stop ends s t → P s → P t) {m : Waiting} {a b c d f : State} (ha : P a)
    (hb : Answered m a b) (hc : Quietly b c) (hd : Delivered m c d) (hf : Quietly d f) :
    P { f with classifier := { f.classifier with eval := none } } :=
  (((((hb.moves trivial).trans hc.moves).trans (hd.moves trivial)).trans hf.moves).tail
    (.evaluationEnded trivial)).keep hm ha

end Sys2Proof.Machine

namespace Sys2Proof

open Machine

/-- Settles O59: the laws of the modes, the pass count and presence a move at a time; the law of STOPPED in the company
of the law of the modes, and the law of the grant in that of the law of the deferred requests. -/
theorem stepsKeepTheLineAndPresence : Obligations.StepsKeepTheLineAndPresence := by
  refine ⟨?_, ?_, ?_, ?_, ?_⟩
  · intro s t hs h
    rw [modeLaw_iff] at *
    exact step_keeps (P := fun s => s.line.Moded) (fun _ _ h => h) (fun hm => hm.moded) hs h
  · intro s t hl hs h
    rw [modeLaw_iff] at hl
    exact (step_keeps (P := fun s => s.line.Moded ∧ (s.line.mode = .stopped → s.NothingToSend))
      (fun _ _ h => h) (fun hm hP => ⟨hm.moded hP.1, hm.stopped hP.1 hP.2⟩) ⟨hl, hs⟩ h).2
  · intro s t hs h
    exact step_keeps (P := fun s => s.sender.Passing) (fun _ _ h => h) (fun hm => hm.passing) hs h
  · intro s t hs h
    rw [presenceLaw_iff] at *
    exact step_keeps (P := State.Present) (fun _ _ h => h) (fun hm => hm.present) hs h
  · intro s t hd hs h
    rw [deferredLaw_iff] at hd
    rw [grantLaw_iff] at *
    have keep : ∀ {scan : Prop} {s t : State}, Move scan False (fun _ => True) s t →
        s.Defers ∧ s.Granted → t.Defers ∧ t.Granted :=
      fun hm hP => ⟨hm.defers hP.1, hm.granted hP.1 hP.2⟩
    refine (step_keeps_careful (ends := fun _ => True) (P := fun s => s.Defers ∧ s.Granted)
      (fun _ _ h => ⟨h.1, h.2.same rfl rfl rfl⟩) keep (fun _ => scan_keeps keep) ?_ ⟨hd, hs⟩ h (fun _ _ _ _ _ => trivial)).2
    intro s u hP hm hi _ hn
    exact ⟨hm.keep (P := State.Defers) (fun hm => hm.defers) hP.1, hn.granted hi⟩

end Sys2Proof
end

section
/-! The bounds of the queues, the templates that ACTIVE names, and the frame ids, a move at a time. -/

namespace Sys2Proof.Machine

/-! ### The four places of the classification queue and of the reply queue (R115) -/

theorem changeFirst_length {α : Type} (p : α → Bool) (f : α → α) (l : List α) :
    (changeFirst p f l).length = l.length := by
  induction l with
  | nil => rfl
  | cons a l ih =>
    unfold changeFirst
    split <;> simp [ih]

theorem State.lateReply_length (s : State) (p : ReplyEntry → Bool) (late : LatePolicy) :
    (s.lateReply p late).responder.queue.length ≤ s.responder.queue.length := by
  rcases s.lateReply_replies (p := p) late with h | h <;> rw [h]
  · exact List.eraseP_sublist.length_le
  · rw [changeFirst_length]

theorem State.dropReply_length (s : State) (p : ReplyEntry → Bool) :
    (s.dropReply p).responder.queue.length ≤ s.responder.queue.length := by
  rw [State.dropReply_queue]
  exact List.eraseP_sublist.length_le

theorem State.notStarted_length (s : State) :
    s.notStarted.responder.queue.length = s.responder.queue.length := by
  unfold State.notStarted
  split
  · split
    · rfl
    · exact changeFirst_length _ _ _
  · rfl

theorem State.closeSlot_length (s : State) :
    s.closeSlot.responder.queue.length ≤ s.responder.queue.length := by
  unfold State.closeSlot
  split
  · exact Nat.le_refl _
  · unfold State.closingReport
    split
    · exact Nat.le_refl _
    · have h := fun p l => State.lateReply_length { s with line := { s.line with slot := .none } } p l
      dsimp only at *
      split
      · rw [State.notStarted_length]
        exact h _ _
      · exact h _ _
  · exact Nat.le_refl _

theorem State.choose_length (s : State) : s.choose.responder.queue.length = s.responder.queue.length := by
  have h := congrArg List.length s.choose_replyCells
  rwa [List.length_map, List.length_map] at h

theorem State.handReply_length (s : State) (o : AttemptEnd) :
    (s.handReply o).responder.queue.length ≤ s.responder.queue.length := by
  unfold State.handReply
  split
  · exact Nat.le_refl _
  · split
    · exact State.dropReply_length _ _
    · exact State.dropReply_length _ _
    · split
      · exact State.lateReply_length _ _ _
      · show (changeFirst _ _ _).length ≤ _
        rw [changeFirst_length]
        split
        · exact State.lateReply_length _ _ _
        · exact Nat.le_refl _
    · show (changeFirst _ _ _).length ≤ _
      rw [changeFirst_length]

theorem State.hand_length (s : State) (src : Carried) (o : AttemptEnd) :
    (s.hand src o).responder.queue.length ≤ s.responder.queue.length := by
  unfold State.hand
  split
  · rw [State.handSend_responder]
  · exact s.handReply_length o

/-- A move keeps the bounds of the classification queue and the reply queue. -/
theorem Move.four {scan stop : Prop} {ends : State → Prop} {s t : State} (h : Move scan stop ends s t)
    (hs : FourLaw s) : FourLaw t := by
  obtain ⟨h1, h2⟩ := hs
  cases h with
  | data h => exact ⟨by rw [h.waiting]; exact h1, by rw [h.replies]; exact h2⟩
  | cleared => exact ⟨Nat.zero_le 4, Nat.zero_le 4⟩
  | reset cause =>
    unfold State.fullReset
    exact ⟨by rw [State.append_classifier]; exact Nat.zero_le 4, by rw [State.append_responder]; exact Nat.zero_le 4⟩
  | replied | repliedLong | handedOver | noticeMoved =>
    exact ⟨by rw [State.append_classifier]; exact h1, by rw [State.append_responder]; exact h2⟩
  | posted => exact ⟨by rw [State.post_classifier]; exact h1, by rw [State.post_responder]; exact h2⟩
  | commitApplied =>
    exact ⟨by rw [State.applyCommit_waiting]; exact h1, by rw [State.applyCommit_responder]; exact h2⟩
  | sendCompleted =>
    exact ⟨by rw [State.completeSend_classifier]; exact h1, by rw [State.completeSend_responder]; exact h2⟩
  | lineStopCompleted =>
    exact ⟨by rw [State.completeLineStop_classifier]; exact h1, by rw [State.completeLineStop_responder]; exact h2⟩
  | sideCompleted =>
    exact ⟨by rw [State.refuse_classifier]; exact h1, by rw [State.refuse_responder]; exact h2⟩
  | classificationEmptied => exact ⟨Nat.zero_le 4, h2⟩
  | evaluationBegun w ws g o p he hq =>
    rw [hq] at h1
    exact ⟨Nat.le_of_succ_le h1, h2⟩
  | placed _ n f w hq _ =>
    refine ⟨by rw [State.placeReply_classifier]; exact h1, ?_⟩
    unfold State.placeReply
    dsimp only
    split
    · show (s.responder.queue ++ [_]).length ≤ 4
      rw [List.length_append]
      exact hq
    · exact h2
  | frameDropped claimed => cases claimed <;> exact ⟨h1, h2⟩
  | bytePlaced bs => split <;> exact ⟨h1, h2⟩
  | frameTaken bs c =>
    refine ⟨?_, by rw [State.enqueue_responder]; exact h2⟩
    unfold State.enqueue
    split
    · rename_i hq
      show (s.classifier.queue ++ [_]).length ≤ 4
      rw [List.length_append]
      exact hq
    · exact h1
  | slotClosed => exact ⟨by rw [State.closeSlot_classifier]; exact h1, s.closeSlot_length.trans h2⟩
  | chosen => exact ⟨by rw [State.choose_classifier]; exact h1, s.choose_length.le.trans h2⟩
  | notStarted => exact ⟨by rw [State.notStarted_classifier]; exact h1, s.notStarted_length.le.trans h2⟩
  | startedInGap =>
    exact ⟨by rw [State.startSending_classifier, State.closeSlot_classifier]; exact h1,
      by rw [State.startSending_responder]; exact s.closeSlot_length.trans h2⟩
  | startedInSlot =>
    exact ⟨by rw [State.startSending_classifier]; exact h1, by rw [State.startSending_responder]; exact h2⟩
  | attemptEnded =>
    exact ⟨by rw [State.hand_classifier]; exact h1, (State.hand_length _ _ _).trans h2⟩
  | replyWaits =>
    refine ⟨h1, ?_⟩
    show (s.responder.queue.set _ _).length ≤ 4
    rw [List.length_set]
    exact h2
  | repliesDiscarded => exact ⟨h1, Nat.zero_le 4⟩
  | _ => exact ⟨h1, h2⟩

/-! ### The delivery queues (R76, R77) -/

/-- A queue whose records are among those it had, under the depth it had, keeps its law. -/
theorem QueueLaw.edit {s t : State} (hs : QueueLaw s)
    (hd : ∀ q : Fin 4, t.queues[q].settings.depth = s.queues[q].settings.depth)
    (hr : ∀ q : Fin 4, t.queues[q].records.length ≤ s.queues[q].records.length) : QueueLaw t := by
  intro q
  obtain ⟨h1, h2, h3⟩ := hs q
  rw [hd]
  exact ⟨h1, h2, (hr q).trans h3⟩

theorem State.setQueue_depth (s : State) (q a : Fin 4) (d : DeliveryQueue) :
    (s.setQueue q d).queues[a].settings.depth =
      if a = q then d.settings.depth else s.queues[a].settings.depth := by
  by_cases h : a = q
  · subst h
    simp [State.setQueue]
  · have hq : (q : Nat) ≠ a := fun hh => h (Fin.ext hh.symm)
    simp [State.setQueue, h, Vector.getElem_set_ne _ _ hq]

theorem QueueLaw.setQueue {s : State} (hs : QueueLaw s) (q : Fin 4) (d : DeliveryQueue)
    (hd : 1 ≤ d.settings.depth ∧ d.settings.depth ≤ 64) (hr : d.records.length ≤ 64) :
    QueueLaw (s.setQueue q d) := by
  intro a
  rw [State.setQueue_depth, State.setQueue_records]
  split
  · exact ⟨hd.1, hd.2, hr⟩
  · exact hs a

theorem State.cleared_queueLaw : QueueLaw State.cleared := by
  unfold QueueLaw
  decide

theorem QueueLaw.of_queues {s t : State} (hs : QueueLaw s) (h : t.queues = s.queues) : QueueLaw t :=
  hs.edit (fun _ => by rw [h]) (fun _ => by rw [h])

/-- A move keeps the bounds of the delivery queues. -/
theorem Move.queueLaw {scan stop : Prop} {ends : State → Prop} {s t : State} (h : Move scan stop ends s t)
    (hs : QueueLaw s) : QueueLaw t := by
  cases h with
  | data h => exact hs.edit h.depths (fun q => by rw [h.records])
  | cleared => exact State.cleared_queueLaw
  | reset cause => exact State.cleared_queueLaw.of_queues (State.append_queues _ _)
  | replied | repliedLong | noticeMoved => exact hs.of_queues (State.append_queues _ _)
  | handedOver q r rest c k tag inline _ hr =>
    refine QueueLaw.of_queues (hs.setQueue q { s.queues[q] with records := rest, counters := c }
      ⟨(hs q).1, (hs q).2.1⟩ ?_) (State.append_queues _ _)
    have h3 := (hs q).2.2
    rw [hr] at h3
    exact Nat.le_of_succ_le h3
  | posted => exact hs.of_queues (State.post_queues _ _)
  | commitApplied => exact hs.of_queues (State.applyCommit_queues _)
  | sendCompleted => exact hs.of_queues (State.completeSend_queues _ _ _ _)
  | lineStopCompleted => exact hs.of_queues (State.completeLineStop_queues _)
  | sideCompleted => exact hs.of_queues (State.refuse_queues _ _ _ _)
  | recordsRemoved q kept removed h _ =>
    exact hs.setQueue q { s.queues[q] with records := kept } ⟨(hs q).1, (hs q).2.1⟩ (h.length_le.trans (hs q).2.2)
  | settingsChanged q c h => exact hs.setQueue q { s.queues[q] with settings := c } h (hs q).2.2
  | accepted _ q r hr =>
    refine hs.setQueue q { s.queues[q] with records := s.queues[q].records ++ [r], counters := _ }
      ⟨(hs q).1, (hs q).2.1⟩ ?_
    obtain ⟨-, hd, -⟩ := hs q
    rw [List.length_append]
    rcases hr with hr | hr
    · exact Nat.le_trans hr hd
    · rw [hr]
      exact (by decide : 1 ≤ 64)
  | placed => exact hs.of_queues (State.placeReply_queues _ _ _ _)
  | frameDropped claimed => cases claimed <;> exact hs
  | bytePlaced bs => split <;> exact hs
  | frameTaken => exact hs.of_queues (State.enqueue_queues _ _ _ _)
  | slotClosed => exact hs.of_queues (State.closeSlot_queues _)
  | chosen => exact hs.of_queues (State.choose_queues _)
  | notStarted => exact hs.of_queues (State.notStarted_queues _)
  | startedInGap =>
    exact hs.of_queues ((State.startSending_queues _ _).trans (State.closeSlot_queues _))
  | startedInSlot => exact hs.of_queues (State.startSending_queues _ _)
  | attemptEnded => exact hs.of_queues (State.hand_queues _ _ _)
  | _ => exact hs

/-! ### The templates that ACTIVE names (R51) -/

/-- `TemplateLaw` of a bank and the templates. -/
def Bank.Named (b : Bank) (templates : Vector Template 16) : Prop :=
  ∀ (i : Fin 32) (t : Fin 16), b.entries[i].inUse = true → b.entries[i].answer = some t →
    templates[t].defined = true

theorem templateLaw_iff (s : State) : TemplateLaw s ↔ s.sieve.active.Named s.responder.templates := Iff.rfl

/-- A bank with no failing entry names DEFINED templates alone (R51). -/
theorem Bank.named_of_failing {b : Bank} {templates : Vector Template 16}
    (h : b.failing templates = none) : b.Named templates := by
  intro i t hi ht
  unfold Bank.failing at h
  rw [List.findSome?_eq_none_iff] at h
  have hn := h i (List.mem_finRange i)
  simp only [hi, ht, if_true] at hn
  by_contra hd
  rw [if_neg hd] at hn
  cases hn

theorem getElem_set_fin {α : Type} {n : Nat} (v : Vector α n) (i j : Fin n) (a : α) :
    (v.set i a)[j] = if j = i then a else v[j] := by
  by_cases h : j = i
  · subst h
    simp
  · have hn : (i : Nat) ≠ j := fun hh => h (Fin.ext hh.symm)
    simp [h, Vector.getElem_set_ne _ _ hn]

/-- A template that takes another's place is DEFINED, or ACTIVE does not name it (R55). -/
theorem Bank.Named.set {b : Bank} {templates : Vector Template 16} (hb : b.Named templates) (n : Fin 16)
    {t : Template} (h : t.defined = true ∨ b.names n = false) : b.Named (templates.set n t) := by
  intro i m hi hm
  rw [getElem_set_fin]
  split
  · rename_i hmn
    rcases h with h | h
    · exact h
    · unfold Bank.names at h
      rw [List.any_eq_false] at h
      have hmem : b.entries[i] ∈ b.entries.toList := by
        rw [Vector.mem_toList_iff]
        exact Vector.getElem_mem _
      exact absurd (by rw [hi, hm, hmn]; simp) (h _ hmem)
  · exact hb i m hi hm

theorem State.cleared_named : State.cleared.sieve.active.Named State.cleared.responder.templates := by
  unfold Bank.Named
  intro i t hi
  have hu : ∀ i : Fin 32, State.cleared.sieve.active.entries[i].inUse = false := by decide
  rw [hu i] at hi
  cases hi

theorem Bank.Named.of {b : Bank} {r : Responder} (hb : b.Named r.templates) {b' : Bank} {r' : Responder}
    (h1 : b' = b) (h2 : r'.templates = r.templates) : b'.Named r'.templates := by
  rw [h1, h2]
  exact hb

theorem State.dropReply_templates (s : State) (p : ReplyEntry → Bool) :
    (s.dropReply p).responder.templates = s.responder.templates := by
  unfold State.dropReply
  split <;> rfl

theorem State.lateReply_templates (s : State) (p : ReplyEntry → Bool) (late : LatePolicy) :
    (s.lateReply p late).responder.templates = s.responder.templates := by
  cases late with
  | drop => exact s.dropReply_templates p
  | send => rfl

theorem State.notStarted_templates (s : State) :
    s.notStarted.responder.templates = s.responder.templates := by
  unfold State.notStarted
  split
  · split <;> rfl
  · rfl

theorem State.closeSlot_templates (s : State) :
    s.closeSlot.responder.templates = s.responder.templates := by
  unfold State.closeSlot State.closingReport
  split
  · rfl
  · split
    · rfl
    · dsimp only
      split
      · rw [State.notStarted_templates, State.lateReply_templates]
      · rw [State.lateReply_templates]
  · rfl

theorem State.choose_templates (s : State) : s.choose.responder.templates = s.responder.templates := by
  unfold State.choose
  split
  · split
    · rfl
    · split <;> rfl
  · rfl
  · rfl
  · rfl

theorem State.hand_templates (s : State) (src : Carried) (o : AttemptEnd) :
    (s.hand src o).responder.templates = s.responder.templates := by
  unfold State.hand
  split
  · rw [State.handSend_responder]
  · unfold State.handReply
    split
    · rfl
    · split
      · exact State.dropReply_templates _ _
      · exact State.dropReply_templates _ _
      · split
        · exact State.lateReply_templates _ _ _
        · dsimp only
          split
          · exact State.lateReply_templates _ _ _
          · rfl
      · rfl

/-- A move keeps every template that ACTIVE names DEFINED. -/
theorem Move.named {scan stop : Prop} {ends : State → Prop} {s t : State} (h : Move scan stop ends s t)
    (hs : s.sieve.active.Named s.responder.templates) : t.sieve.active.Named t.responder.templates := by
  cases h with
  | data h => exact hs.of h.active h.templates
  | cleared => exact State.cleared_named
  | reset cause =>
    exact State.cleared_named.of (congrArg Sieve.active (State.append_sieve _ _))
      (congrArg Responder.templates (State.append_responder _ _))
  | replied | repliedLong | handedOver | noticeMoved =>
    exact hs.of (congrArg Sieve.active (State.append_sieve _ _))
      (congrArg Responder.templates (State.append_responder _ _))
  | posted n =>
    exact hs.of (congrArg Sieve.active (State.post_sieve s n)) (congrArg Responder.templates (State.post_responder s n))
  | commitApplied =>
    unfold State.applyCommit
    split
    · exact hs
    · split
      · refine hs.of ?_ ?_
        · rw [State.complete_sieve]
        · rw [State.complete_responder]
      · rename_i hf
        refine (Bank.named_of_failing hf).of ?_ ?_
        · rw [State.complete_sieve]
        · rw [State.complete_responder]
  | sendCompleted e st content =>
    exact hs.of (congrArg Sieve.active (State.completeSend_sieve s e st content))
      (congrArg Responder.templates (State.completeSend_responder s e st content))
  | lineStopCompleted =>
    exact hs.of (congrArg Sieve.active s.completeLineStop_sieve)
      (congrArg Responder.templates s.completeLineStop_responder)
  | sideCompleted r =>
    exact hs.of (congrArg Sieve.active (State.refuse_sieve _ _ _ _))
      (congrArg Responder.templates (State.refuse_responder _ _ _ _))
  | activeChanged n t h => exact hs.set n h
  | placed _ n f w _ _ =>
    unfold State.placeReply
    dsimp only
    split
    · intro i m hi hm
      have hd := hs i m hi hm
      show (s.responder.templates.set n _)[m].defined = true
      rw [getElem_set_fin]
      split
      · rename_i hmn
        rw [hmn] at hd
        exact hd
      · exact hd
    · exact hs
  | frameDropped claimed => cases claimed <;> exact hs
  | bytePlaced bs => split <;> exact hs
  | frameTaken bs c =>
    exact hs.of (congrArg Sieve.active (State.enqueue_sieve _ _ _ _))
      (congrArg Responder.templates (State.enqueue_responder _ _ _ _))
  | slotClosed => exact hs.of (congrArg Sieve.active s.closeSlot_sieve) s.closeSlot_templates
  | chosen => exact hs.of (congrArg Sieve.active s.choose_sieve) s.choose_templates
  | notStarted => exact hs.of (congrArg Sieve.active s.notStarted_sieve) s.notStarted_templates
  | startedInGap g =>
    exact hs.of (congrArg Sieve.active ((State.startSending_sieve _ _).trans s.closeSlot_sieve))
      ((congrArg Responder.templates (State.startSending_responder _ _)).trans s.closeSlot_templates)
  | startedInSlot g =>
    exact hs.of (congrArg Sieve.active (State.startSending_sieve _ _))
      (congrArg Responder.templates (State.startSending_responder _ _))
  | attemptEnded g l o =>
    exact hs.of (congrArg Sieve.active (State.hand_sieve _ _ _)) (State.hand_templates _ _ _)
  | _ => exact hs

/-! ### The frame ids (R60) -/

/-- How often an id stands among the waiting frames, the ids `o`, and the records of the queues. -/
def State.idCount (s : State) (o : List Half) (i : Half) : Nat :=
  (s.classifier.queue.map (fun w => w.id)).count i + o.count i +
    ∑ q : Fin 4, (s.queues[q].records.map (fun r => r.id)).count i

/-- The ids that are held are all different, where those of `o` stand for the frame under evaluation's. -/
def State.IdsDiffer (s : State) (o : List Half) : Prop := ∀ i, s.idCount o i ≤ 1

/-- The id of the frame under evaluation. -/
def Classifier.evalIds (c : Classifier) : List Half :=
  match c.eval with
  | some e => [e.member.id]
  | none => []

theorem State.queues_toList (s : State) : s.queues.toList = (List.finRange 4).map (fun q => s.queues[q]) := by
  refine List.ext_getElem (by simp) (fun i h1 h2 => ?_)
  simp

theorem State.frameIds_eq (s : State) :
    s.frameIds = s.classifier.queue.map (fun w => w.id) ++ s.classifier.evalIds ++
      (List.finRange 4).flatMap (fun q => s.queues[q].records.map (fun r => r.id)) := by
  unfold State.frameIds Classifier.evalIds
  rw [State.queues_toList, List.flatMap_map] <;> rfl

theorem State.count_frameIds (s : State) (i : Half) :
    s.frameIds.count i = s.idCount s.classifier.evalIds i := by
  rw [State.frameIds_eq, List.count_append, List.count_append, List.count_flatMap]
  unfold State.idCount
  congr 1

theorem frameIds_nodup_iff (s : State) : s.frameIds.Nodup ↔ s.IdsDiffer s.classifier.evalIds := by
  rw [List.nodup_iff_count_le_one]
  simp only [State.count_frameIds]
  rfl

end Sys2Proof.Machine
end

section
/-! The frame ids that are held are all different (R60), a move at a time. -/

namespace Sys2Proof.Machine

/-! ### The next frame id -/

theorem State.holdsId_iff (s : State) (i : Half) : s.holdsId i = true ↔ i ∈ s.frameIds := by
  unfold State.holdsId State.frameIds
  simp only [Bool.or_eq_true, List.any_eq_true, beq_iff_eq, List.mem_append, List.mem_map, List.mem_flatMap]
  refine or_congr_left (or_congr_right ?_)
  cases s.classifier.eval with
  | none => exact ⟨fun h => (by cases h), fun h => (by cases h)⟩
  | some e => exact beq_iff_eq.trans (eq_comm.trans List.mem_singleton.symm)

/-- Ids run from 1 to 0xFFFF and begin again at 1 (R60). -/
theorem idAfter_toNat (i : Half) : (idAfter i).toNat = i.toNat % 65535 + 1 := by
  unfold idAfter
  split
  · rename_i hi
    rw [hi]
    rfl
  · rename_i hi
    have hn : i.toNat ≠ 65535 := fun hh => hi (BitVec.eq_of_toNat_eq hh)
    have hl := i.isLt
    rw [BitVec.toNat_add]
    simp
    omega

theorem idAfter_ne_zero (i : Half) : idAfter i ≠ 0 := by
  intro hz
  have hn := idAfter_toNat i
  rw [hz] at hn
  simp at hn

theorem iterate_idAfter (i : Half) (h : i ≠ 0) (k : Nat) :
    (idAfter^[k] i).toNat = (i.toNat - 1 + k) % 65535 + 1 ∧ idAfter^[k] i ≠ 0 := by
  have hl := i.isLt
  have hp : i.toNat ≠ 0 := fun hh => h (BitVec.eq_of_toNat_eq hh)
  induction k with
  | zero =>
    refine ⟨?_, h⟩
    simp only [Function.iterate_zero, id_eq]
    omega
  | succ k ih =>
    rw [Function.iterate_succ_apply', idAfter_toNat, ih.1]
    exact ⟨by omega, idAfter_ne_zero _⟩

/-- The tries are all different. -/
theorem iterate_idAfter_nodup (i : Half) (h : i ≠ 0) :
    ((List.range 262).map (fun k => idAfter^[k] i)).Nodup := by
  refine List.Nodup.map_on ?_ List.nodup_range
  intro a ha b hb hab
  have hn := congrArg BitVec.toNat hab
  rw [(iterate_idAfter i h a).1, (iterate_idAfter i h b).1] at hn
  rw [List.mem_range] at ha hb
  omega

/-- A free id is found, or every try is held. -/
theorem State.freeId_free (s : State) (n : Nat) (i : Half) :
    s.freeId n i ∉ s.frameIds ∨ ∀ k < n, idAfter^[k] (idAfter i) ∈ s.frameIds := by
  induction n generalizing i with
  | zero => exact .inr (fun k hk => absurd hk (Nat.not_lt_zero k))
  | succ n ih =>
    unfold State.freeId
    split
    · rename_i hh
      rcases ih (idAfter i) with h | h
      · exact .inl h
      · refine .inr (fun k hk => ?_)
        cases k with
        | zero => exact (s.holdsId_iff _).mp hh
        | succ k =>
          rw [Function.iterate_succ_apply]
          exact h k (Nat.lt_of_succ_lt_succ hk)
    · rename_i hh
      exact .inl (fun hm => hh ((s.holdsId_iff _).mpr hm))

/-- At most 261 ids are held at one time (R60). -/
theorem State.frameIds_length (s : State) (hf : FourLaw s) (hq : QueueLaw s) : s.frameIds.length ≤ 261 := by
  have he : s.classifier.evalIds.length ≤ 1 := by
    unfold Classifier.evalIds
    split <;> simp
  have h0 := (hq 0).2.2
  have h1 := (hq 1).2.2
  have h2 := (hq 2).2.2
  have h3 := (hq 3).2.2
  have h4 := hf.1
  rw [State.frameIds_eq, List.length_append, List.length_append, List.length_map,
    show List.finRange 4 = [0, 1, 2, 3] from rfl]
  simp only [List.flatMap_cons, List.flatMap_nil, List.length_append, List.length_map, List.length_nil]
  omega

/-- The next frame id is held by nothing (R60). -/
theorem State.nextFrameId_fresh (s : State) (hf : FourLaw s) (hq : QueueLaw s) :
    s.nextFrameId ∉ s.frameIds := by
  rcases s.freeId_free 262 s.classifier.frameId with h | h
  · exact h
  · have hsub : (List.range 262).map (fun k => idAfter^[k] (idAfter s.classifier.frameId)) ⊆ s.frameIds := by
      intro i hi
      obtain ⟨k, hk, rfl⟩ := List.mem_map.mp hi
      exact h k (List.mem_range.mp hk)
    have hlen := (List.subperm_of_subset (iterate_idAfter_nodup _ (idAfter_ne_zero _)) hsub).length_le
    rw [List.length_map, List.length_range] at hlen
    have := s.frameIds_length hf hq
    omega

/-! ### What the moves keep -/

/-- Fewer frames are held. -/
theorem State.IdsDiffer.fewer {s t : State} {o o' : List Half} (h : s.IdsDiffer o)
    (hw : (t.classifier.queue.map (fun w => w.id)).Sublist (s.classifier.queue.map (fun w => w.id)))
    (ho : o'.Sublist o) (hr : ∀ q : Fin 4, t.queues[q].records.Sublist s.queues[q].records) :
    t.IdsDiffer o' := by
  intro i
  refine Nat.le_trans ?_ (h i)
  unfold State.idCount
  exact Nat.add_le_add (Nat.add_le_add (hw.count_le i) (ho.count_le i))
    (Finset.sum_le_sum fun q _ => ((hr q).map _).count_le i)

theorem State.IdsDiffer.same {s t : State} {o : List Half} (h : s.IdsDiffer o)
    (hw : t.classifier.queue = s.classifier.queue) (hr : t.queues = s.queues) : t.IdsDiffer o :=
  h.fewer (by rw [hw]) (List.Sublist.refl o) (fun q => by rw [hr])

theorem State.IdsDiffer.append {s : State} {o : List Half} (h : s.IdsDiffer o) (m : Message) :
    (s.append m).IdsDiffer o := h.same (by rw [State.append_classifier]) (State.append_queues _ _)

theorem State.setQueue_sublist {s : State} (q : Fin 4) (d : DeliveryQueue)
    (h : d.records.Sublist s.queues[q].records) (a : Fin 4) :
    (s.setQueue q d).queues[a].records.Sublist s.queues[a].records := by
  rw [State.setQueue_records]
  split
  · rename_i ha
    rw [ha]
    exact h
  · exact List.Sublist.refl _

theorem Quiet.idsDiffer {s t : State} {o : List Half} (h : Quiet s t) (hs : s.IdsDiffer o) : t.IdsDiffer o := by
  cases h with
  | data h => exact hs.fewer (by rw [h.waiting]) (List.Sublist.refl o) (fun q => by rw [h.records])
  | posted n => exact hs.same (by rw [State.post_classifier]) (State.post_queues s n)
  | gave c => exact hs
  | recordsRemoved q kept removed h _ =>
    exact hs.fewer (List.Sublist.refl _) (List.Sublist.refl o) (State.setQueue_sublist q _ h)

theorem Answered.idsDiffer {m : Waiting} {s t : State} {o : List Half} (h : Answered m s t)
    (hs : s.IdsDiffer o) : t.IdsDiffer o := by
  cases h with
  | nothing => exact hs
  | placed n f w _ _ _ =>
    exact hs.same (by rw [State.placeReply_classifier]) (State.placeReply_queues s n f w)

/-- The id goes with the frame from the evaluation to the queue (R68). -/
theorem Delivered.idsDiffer {m : Waiting} {s t : State} (h : Delivered m s t) (hs : s.IdsDiffer [m.id]) :
    t.IdsDiffer [] := by
  cases h with
  | released => exact hs.fewer (List.Sublist.refl _) (List.nil_sublist _) (fun _ => List.Sublist.refl _)
  | accepted q r _ hi _ =>
    intro i
    refine Nat.le_trans (Nat.le_of_eq ?_) (hs i)
    have hrec : ∀ a, ((s.acceptRecord q r).queues[a].records.map (fun r => r.id)).count i =
        (s.queues[a].records.map (fun r => r.id)).count i + if a = q then [m.id].count i else 0 := by
      intro a
      rw [show (s.acceptRecord q r).queues[a].records =
        if a = q then s.queues[q].records ++ [r] else s.queues[a].records from s.setQueue_records q a _]
      split
      · rename_i ha
        rw [ha, List.map_append, List.count_append, List.map_singleton, hi]
      · rfl
    unfold State.idCount
    simp only [hrec, Finset.sum_add_distrib, Finset.sum_ite_eq', Finset.mem_univ, if_true]
    show (s.classifier.queue.map _).count i + 0 + _ = _
    omega

theorem State.cleared_idsDiffer : State.cleared.IdsDiffer [] := by
  intro i
  have hr : ∀ q : Fin 4, State.cleared.queues[q].records = [] := by decide
  unfold State.idCount
  simp only [hr]
  rw [show State.cleared.classifier.queue = [] from rfl]
  simp

/-- One more id, that was not held, is held. -/
theorem State.IdsDiffer.enter {s t : State} {o : List Half} {id : Half} (h : s.IdsDiffer o)
    (hw : t.classifier.queue.map (fun w => w.id) = s.classifier.queue.map (fun w => w.id) ++ [id])
    (hr : t.queues = s.queues) (hf : s.idCount o id = 0) : t.IdsDiffer o := by
  intro i
  have hc : t.idCount o i = s.idCount o i + [id].count i := by
    unfold State.idCount
    rw [hw, hr, List.count_append]
    omega
  rw [hc]
  by_cases hi : i = id
  · rw [hi, hf]
    simp
  · rw [List.count_eq_zero.mpr (by simpa using hi)]
    exact h i

theorem State.enqueue_idsDiffer {s : State} (hf : FourLaw s) (hq : QueueLaw s)
    (hs : s.IdsDiffer s.classifier.evalIds) (f : Frame) (stamp : Word) (fe : Nat) :
    (s.enqueue f stamp fe).IdsDiffer (s.enqueue f stamp fe).classifier.evalIds := by
  unfold State.enqueue
  split
  · refine State.IdsDiffer.enter (id := s.nextFrameId) hs ?_ rfl ?_
    · show (s.classifier.queue ++ [_]).map _ = _
      rw [List.map_append]
      rfl
    · show s.idCount s.classifier.evalIds s.nextFrameId = 0
      rw [← State.count_frameIds, List.count_eq_zero]
      exact s.nextFrameId_fresh hf hq
  · exact hs

/-- A move outside a scan's end keeps the ids different, in the company of the bounds of the queues. -/
theorem Move.idsDiffer {stop : Prop} {ends : State → Prop} {s t : State} (h : Move False stop ends s t)
    (hf : FourLaw s) (hq : QueueLaw s) (hs : s.IdsDiffer s.classifier.evalIds) :
    t.IdsDiffer t.classifier.evalIds := by
  cases h with
  | data h =>
    unfold Classifier.evalIds at *
    rw [h.eval]
    exact hs.fewer (by rw [h.waiting]) (List.Sublist.refl _) (fun q => by rw [h.records])
  | cleared => exact State.cleared_idsDiffer
  | reset cause =>
    have hc : s.clearAll.IdsDiffer [] := State.cleared_idsDiffer.same rfl rfl
    have he : s.clearAll.classifier.evalIds = [] := rfl
    unfold State.fullReset
    rw [State.append_classifier, he]
    exact hc.append _
  | replied | repliedLong | noticeMoved =>
    rw [State.append_classifier]
    refine State.IdsDiffer.append ?_ _
    exact hs.same rfl rfl
  | handedOver q r rest c k tag inline _ hr =>
    rw [State.append_classifier]
    refine hs.fewer (by rw [State.append_classifier]; exact List.Sublist.refl _) (List.Sublist.refl _) ?_
    rw [State.append_queues]
    refine State.setQueue_sublist q _ ?_
    rw [hr]
    exact List.sublist_cons_self r rest
  | posted n =>
    rw [State.post_classifier]
    exact hs.same (by rw [State.post_classifier]) (State.post_queues s n)
  | commitApplied =>
    unfold Classifier.evalIds at *
    rw [State.applyCommit_eval]
    exact hs.same s.applyCommit_waiting s.applyCommit_queues
  | sendCompleted e st content =>
    rw [State.completeSend_classifier]
    exact hs.same (by rw [State.completeSend_classifier]) (State.completeSend_queues _ _ _ _)
  | lineStopCompleted =>
    rw [State.completeLineStop_classifier]
    exact hs.same (by rw [State.completeLineStop_classifier]) s.completeLineStop_queues
  | sideCompleted =>
    rw [State.refuse_classifier]
    exact hs.same (by rw [State.refuse_classifier]) (State.refuse_queues _ _ _ _)
  | recordsRemoved q kept removed h _ =>
    exact hs.fewer (List.Sublist.refl _) (List.Sublist.refl _) (State.setQueue_sublist q _ h)
  | settingsChanged q c h =>
    exact hs.fewer (List.Sublist.refl _) (List.Sublist.refl _) (State.setQueue_sublist q _ (List.Sublist.refl _))
  | classificationEmptied =>
    exact hs.fewer (List.nil_sublist _) (List.Sublist.refl _) (fun _ => List.Sublist.refl _)
  | evaluationBegun w ws g o p he hw =>
    intro i
    refine Nat.le_trans (Nat.le_of_eq ?_) (hs i)
    unfold State.idCount Classifier.evalIds
    rw [he, hw]
    show (ws.map _).count i + [w.id].count i + _ = (w.id :: ws.map _).count i + 0 + _
    rw [List.count_cons, List.count_cons]
    simp only [List.count_nil]
    omega
  | released h => exact h.elim
  | accepted h => exact h.elim
  | placed h => exact h.elim
  | evaluationEnded h => exact h.elim
  | frameDropped claimed => cases claimed <;> exact hs
  | bytePlaced bs => split <;> exact hs
  | frameTaken bs c =>
    refine State.enqueue_idsDiffer ?_ ?_ ?_ _ _ _
    · exact hf
    · exact hq
    · exact hs
  | slotClosed =>
    rw [State.closeSlot_classifier]
    exact hs.same (by rw [State.closeSlot_classifier]) s.closeSlot_queues
  | chosen =>
    rw [State.choose_classifier]
    exact hs.same (by rw [State.choose_classifier]) s.choose_queues
  | notStarted =>
    rw [State.notStarted_classifier]
    exact hs.same (by rw [State.notStarted_classifier]) s.notStarted_queues
  | startedInGap g =>
    rw [State.startSending_classifier, State.closeSlot_classifier]
    exact hs.same (by rw [State.startSending_classifier, State.closeSlot_classifier])
      ((State.startSending_queues _ _).trans s.closeSlot_queues)
  | startedInSlot g =>
    rw [State.startSending_classifier]
    exact hs.same (by rw [State.startSending_classifier]) (State.startSending_queues _ _)
  | attemptEnded g l o =>
    rw [State.hand_classifier]
    exact hs.same (by rw [State.hand_classifier]) (State.hand_queues _ _ _)
  | _ => exact hs

end Sys2Proof.Machine
end

section
/-! The law of the reply window (R112, R113, R117), a move at a time. -/

namespace Sys2Proof.Machine

/-! ### The window of one reply -/

/-- How a reply that answers the frame ended at `fe` stands to the transmitter and the slot. -/
def ReplyEntry.InSlot (e : ReplyEntry) (fe : Nat) (l : Line) : Prop :=
  ((e.state = .waiting ∨ (e.state = .onLine ∧ l.transmitter.inGapWait = true)) ∧ l.slot = .own fe) ∨
    (e.state = .onLine ∧ l.transmitter.inGapWait = false ∧ ∀ p, l.slot ≠ .own p)

/-- `WindowLaw` with the frame end points `ends` for those that are held. -/
structure State.Windowed (s : State) (ends : List Nat) : Prop where
  one : s.responder.queue.countP (fun e => e.window.isSome) ≤ 1
  held : ∀ e ∈ s.responder.queue, ∀ fe, e.window = some fe → fe ∉ ends ∧ e.InSlot fe s.line
  receiving : ∀ bs, s.line.receiver = .receiving bs → s.line.slot = .none
  sending : ∀ g start bytes, s.line.transmitter = .sending g start bytes →
    s.line.slot = .none ∧ ∀ bs, s.line.receiver ≠ .receiving bs
  nodup : ends.Nodup

theorem windowLaw_iff (s : State) : WindowLaw s ↔ s.Windowed s.frameEnds :=
  ⟨fun ⟨h1, h2, h3, h4, h5⟩ => ⟨h1, h2, h3, h4, h5⟩, fun ⟨h1, h2, h3, h4, h5⟩ => ⟨h1, h2, h3, h4, h5⟩⟩

section

variable {s t : State} {ends : List Nat} (hs : s.Windowed ends)

include hs

theorem State.Windowed.same (hq : t.responder.queue = s.responder.queue) (ht : t.line.transmitter = s.line.transmitter)
    (hl : t.line.slot = s.line.slot) (hr : t.line.receiver = s.line.receiver) : t.Windowed ends := by
  refine ⟨by rw [hq]; exact hs.one, ?_, ?_, ?_, hs.nodup⟩
  · unfold ReplyEntry.InSlot
    rw [hq, ht, hl]
    exact hs.held
  · rw [hr, hl]
    exact hs.receiving
  · rw [ht, hr, hl]
    exact hs.sending

/-- Fewer frame end points are held. -/
theorem State.Windowed.fewer {ends' : List Nat} (h : ends'.Sublist ends) : s.Windowed ends' :=
  ⟨hs.one, fun e he fe hw => ⟨fun hm => (hs.held e he fe hw).1 (h.subset hm), (hs.held e he fe hw).2⟩,
    hs.receiving, hs.sending, hs.nodup.sublist h⟩

end

/-- Where no reply is in a window, the law is about the receiver, the transmitter and the slot alone. -/
theorem State.Windowed.of_no_window {s : State} {ends : List Nat}
    (hn : ∀ e ∈ s.responder.queue, e.window = none)
    (hr : ∀ bs, s.line.receiver = .receiving bs → s.line.slot = .none)
    (hd : ∀ g start bytes, s.line.transmitter = .sending g start bytes →
      s.line.slot = .none ∧ ∀ bs, s.line.receiver ≠ .receiving bs) (he : ends.Nodup) : s.Windowed ends := by
  refine ⟨?_, ?_, hr, hd, he⟩
  · rw [List.countP_eq_zero.mpr (fun e h => by simp [hn e h])]
    exact Nat.zero_le 1
  · intro e h fe hw
    rw [hn e h] at hw
    cases hw

/-- Of two members that meet `p`, where one at most does, both are the first. -/
theorem find?_of_countP {α : Type} {p : α → Bool} {l : List α} (h : l.countP p ≤ 1) {e x : α}
    (he : l.find? p = some e) (hx : x ∈ l) (hp : p x = true) : x = e := by
  obtain ⟨hpe, a, b, rfl, ha⟩ := List.find?_eq_some_iff_append.mp he
  rw [List.countP_append, List.countP_cons_of_pos hpe] at h
  have hb : b.countP p = 0 := by omega
  rcases List.mem_append.mp hx with hm | hm
  · exact absurd hp (by simpa using ha x hm)
  · rcases List.mem_cons.mp hm with rfl | hm
    · rfl
    · exact absurd hp (List.countP_eq_zero.mp hb x hm)

/-- The reply in its window is the only one. -/
theorem State.Windowed.unique {s : State} {ends : List Nat} (hs : s.Windowed ends) {e x : ReplyEntry}
    (he : e ∈ s.responder.queue) (hew : e.window.isSome = true) (hx : x ∈ s.responder.queue)
    (hxw : x.window.isSome = true) : x = e := by
  obtain ⟨w, hw⟩ := Option.isSome_iff_exists.mp
    (List.find?_isSome (p := fun e : ReplyEntry => e.window.isSome).mpr ⟨e, he, hew⟩)
  rw [find?_of_countP hs.one hw he hew, find?_of_countP hs.one hw hx hxw]

/-! ### The close of a slot -/

/-- Where the reply in its window is found, none is in a window once it is removed or has lost its window. -/
theorem no_window_of_find? {p : ReplyEntry → Bool} {l : List ReplyEntry} {e : ReplyEntry}
    (h : l.countP (fun e => e.window.isSome) ≤ 1) (he : l.find? p = some e) (hw : e.window.isSome = true) :
    (∀ x ∈ l.eraseP p, x.window = none) ∧
      ∀ f, (f e).window = none → ∀ x ∈ changeFirst p f l, x.window = none := by
  obtain ⟨a, b, rfl, hr, hc⟩ := find?_parts he
  rw [List.countP_append, List.countP_cons_of_pos (p := fun e : ReplyEntry => e.window.isSome) hw] at h
  have ha : ∀ x ∈ a, x.window = none := fun x hx => by
    simpa using List.countP_eq_zero.mp (show a.countP (fun e => e.window.isSome) = 0 by omega) x hx
  have hb : ∀ x ∈ b, x.window = none := fun x hx => by
    simpa using List.countP_eq_zero.mp (show b.countP (fun e => e.window.isSome) = 0 by omega) x hx
  refine ⟨?_, fun f hf => ?_⟩
  · rw [hr]
    intro x hx
    rcases List.mem_append.mp hx with hx | hx
    · exact ha x hx
    · exact hb x hx
  · rw [hc]
    intro x hx
    rcases List.mem_append.mp hx with hx | hx
    · exact ha x hx
    · rcases List.mem_cons.mp hx with rfl | hx
      · exact hf
      · exact hb x hx

theorem State.lateReply_no_window {s : State} {p : ReplyEntry → Bool} {e : ReplyEntry} (late : LatePolicy)
    (h : s.responder.queue.countP (fun e => e.window.isSome) ≤ 1) (he : s.responder.queue.find? p = some e)
    (hw : e.window.isSome = true) : ∀ x ∈ (s.lateReply p late).responder.queue, x.window = none := by
  obtain ⟨h1, h2⟩ := no_window_of_find? h he hw
  rcases s.lateReply_replies (p := p) late with hq | hq <;> rw [hq]
  · exact h1
  · exact h2 _ rfl

/-- NOT_STARTED gives a reply back its waiting state and changes nothing else of it. -/
theorem State.notStarted_replies (s : State) {x : ReplyEntry} (hx : x ∈ s.notStarted.responder.queue) :
    x ∈ s.responder.queue ∨ ∃ y ∈ s.responder.queue, y.state = .onLine ∧ x = { y with state := .waiting } := by
  unfold State.notStarted at hx
  split at hx
  · split at hx
    · exact .inl hx
    · rcases changeFirst_mem _ _ _ _ hx with hx | ⟨y, hy, hon, hxy⟩
      · exact .inl hx
      · exact .inr ⟨y, hy, by simpa [TxState.isOnLine] using hon, hxy⟩
  · exact .inl hx

theorem State.closingReport_windowed {s : State} {ends : List Nat} {fe : Nat}
    (h1 : s.responder.queue.countP (fun e => e.window.isSome) ≤ 1)
    (hn : s.responder.queue.find? (ReplyEntry.closedBy fe s.line.transmitter.inGapWait) = none →
      s.Windowed ends)
    (hslot : s.line.slot = .none)
    (hsend : ∀ g start bytes, s.line.transmitter = .sending g start bytes → ∀ bs, s.line.receiver ≠ .receiving bs)
    (he : ends.Nodup) : (s.closingReport fe).Windowed ends := by
  unfold State.closingReport
  split
  · rename_i hf
    exact hn hf
  · rename_i e hf
    obtain ⟨hw, -⟩ := (ReplyEntry.closedBy_iff _ _ _).mp (List.find?_some hf)
    have hno := State.lateReply_no_window e.late h1 hf (by rw [hw]; rfl)
    dsimp only
    split
    · refine State.Windowed.of_no_window ?_ ?_ ?_ he
      · intro x hx
        rcases State.notStarted_replies _ hx with hx | ⟨y, hy, -, rfl⟩
        · exact hno x hx
        · exact hno y hy
      · rw [State.notStarted_line, State.lateReply_line]
        exact fun _ _ => hslot
      · rw [State.notStarted_line, State.lateReply_line]
        dsimp only
        intro g start bytes ht
        refine ⟨hslot, hsend g start bytes ?_⟩
        split at ht
        · cases ht
        · exact ht
    · refine State.Windowed.of_no_window hno ?_ ?_ he
      · rw [State.lateReply_line]
        exact fun _ _ => hslot
      · rw [State.lateReply_line]
        exact fun g start bytes ht => ⟨hslot, hsend g start bytes ht⟩

/-- The close of a slot leaves no reply in its window that has not begun its attempt (R117). -/
theorem State.closeSlot_windowed {s : State} {ends : List Nat} (hs : s.Windowed ends) :
    s.closeSlot.Windowed ends := by
  have closed : (∀ e ∈ s.responder.queue, ∀ fe, e.window = some fe →
      e.state = .onLine ∧ s.line.transmitter.inGapWait = false) →
      State.Windowed { s with line := { s.line with slot := .none } } ends := by
    intro h
    refine ⟨hs.one, ?_, fun _ _ => rfl, fun g start bytes ht => ⟨rfl, (hs.sending g start bytes ht).2⟩, hs.nodup⟩
    intro e he fe hw
    obtain ⟨hon, hg⟩ := h e he fe hw
    exact ⟨(hs.held e he fe hw).1, .inr ⟨hon, hg, by simp⟩⟩
  unfold State.closeSlot
  split
  · exact hs
  · rename_i fe hslot
    refine State.closingReport_windowed hs.one ?_ rfl (fun g start bytes ht => (hs.sending g start bytes ht).2) hs.nodup
    intro hf
    refine closed (fun e he fe' hw => ?_)
    rcases (hs.held e he fe' hw).2 with ⟨hst, hsl⟩ | ⟨hon, hg, -⟩
    · exfalso
      rw [hslot] at hsl
      cases hsl
      exact List.find?_eq_none.mp hf e he ((ReplyEntry.closedBy_iff _ _ _).mpr ⟨hw, hst⟩)
    · exact ⟨hon, hg⟩
  · rename_i p hslot
    refine closed (fun e he fe' hw => ?_)
    rcases (hs.held e he fe' hw).2 with ⟨-, hsl⟩ | ⟨hon, hg, -⟩
    · rw [hslot] at hsl
      cases hsl
    · exact ⟨hon, hg⟩

/-! ### The grant -/

theorem changeFirst_countP_le {α : Type} (p q : α → Bool) (f : α → α) (l : List α)
    (h : ∀ a, q (f a) = true → q a = true) : (changeFirst p f l).countP q ≤ l.countP q := by
  induction l with
  | nil => exact Nat.le_refl _
  | cons a l ih =>
    unfold changeFirst
    split
    · simp only [List.countP_cons]
      by_cases hf : q (f a) = true
      · simp [hf, h a hf]
      · simp [hf]
    · simp only [List.countP_cons]
      omega

/-- A grant handed back NOT_STARTED leaves the reply in its window WAITING in its slot. -/
theorem State.notStarted_windowed {s : State} {ends : List Nat} (hg : s.Granted) (hs : s.Windowed ends) :
    s.notStarted.Windowed ends := by
  cases ht : s.line.transmitter with
  | gapWait g =>
    have hline : s.notStarted.line = { s.line with transmitter := .idle } := by
      rw [State.notStarted_line, ht]
      rfl
    have hgr := State.notStarted_granted hg
    obtain ⟨-, hoff⟩ := hgr.none (by rw [hline]; rfl)
    refine ⟨?_, ?_, ?_, ?_, hs.nodup⟩
    · refine Nat.le_trans ?_ hs.one
      unfold State.notStarted
      split
      · split
        · exact Nat.le_refl _
        · exact changeFirst_countP_le _ _ _ _ (fun _ h => h)
      · exact Nat.le_refl _
    · intro x hx fe hw
      have hx' : ∃ y ∈ s.responder.queue, y.window = some fe ∧ (x = y ∨ x = { y with state := .waiting }) := by
        rcases s.notStarted_replies hx with hx | ⟨y, hy, -, rfl⟩
        · exact ⟨x, hx, hw, .inl rfl⟩
        · exact ⟨y, hy, hw, .inr rfl⟩
      obtain ⟨y, hy, hyw, hxy⟩ := hx'
      obtain ⟨hne, hin⟩ := hs.held y hy fe hyw
      refine ⟨hne, .inl ?_⟩
      rw [hline]
      rw [ReplyEntry.InSlot, ht] at hin
      rcases hin with ⟨hst, hsl⟩ | ⟨-, hgw, -⟩
      · refine ⟨.inl ?_, hsl⟩
        rcases hxy with rfl | rfl
        · rcases hst with hst | ⟨hon, -⟩
          · exact hst
          · exact absurd hon ((ReplyEntry.grant_eq_none x).mp (List.filterMap_eq_nil_iff.mp hoff x hx))
        · rfl
      · cases hgw
    · rw [hline]
      exact hs.receiving
    · rw [hline]
      exact fun g start bytes h => (by cases h)
  | _ =>
    unfold State.notStarted
    rw [ht]
    exact hs

/-- With the transmitter IDLE a reply in its window is WAITING in its slot. -/
theorem State.Windowed.waiting {s : State} {ends : List Nat} (hs : s.Windowed ends) (hg : s.Granted)
    (hi : s.line.transmitter = .idle) {e : ReplyEntry} (he : e ∈ s.responder.queue) {fe : Nat}
    (hw : e.window = some fe) : e.state = .waiting ∧ s.line.slot = .own fe := by
  have hon := (ReplyEntry.grant_eq_none e).mp
    (List.filterMap_eq_nil_iff.mp (hg.none (by rw [hi]; rfl)).2 e he)
  rcases (hs.held e he fe hw).2 with ⟨hst | ⟨h, -⟩, hsl⟩ | ⟨h, -⟩
  · exact ⟨hst, hsl⟩
  · exact absurd h hon
  · exact absurd h hon

/-- The arbiter's choice keeps the reply in its window in its slot (R131). -/
theorem State.choose_windowed {s : State} {ends : List Nat} (hg : s.Granted) (hs : s.Windowed ends)
    (hi : s.line.transmitter = .idle) : s.choose.Windowed ends := by
  have reply : ∀ (u : State) (r : ReplyEntry), u.line = s.line → u.responder = s.responder →
      (u.grantReply r).Windowed ends := by
    intro u r hul hur
    refine ⟨?_, ?_, ?_, fun _ _ _ h => (by cases h), hs.nodup⟩
    · show (changeFirst _ _ u.responder.queue).countP _ ≤ 1
      rw [hur]
      refine Nat.le_trans ?_ hs.one
      exact changeFirst_countP_le _ _ _ _ (fun _ h => h)
    · intro x hx fe hw
      replace hx : x ∈ changeFirst _ _ u.responder.queue := hx
      rw [hur] at hx
      show _ ∧ (((x.state = .waiting ∨ (x.state = .onLine ∧ true = true)) ∧ u.line.slot = .own fe) ∨ _)
      rw [hul]
      rcases changeFirst_mem _ _ _ _ hx with hx | ⟨y, hy, -, rfl⟩
      · obtain ⟨h1, h2⟩ := hs.waiting hg hi hx hw
        exact ⟨(hs.held x hx fe hw).1, .inl ⟨.inl h1, h2⟩⟩
      · obtain ⟨-, h2⟩ := hs.waiting hg hi hy hw
        exact ⟨(hs.held y hy fe hw).1, .inl ⟨.inr ⟨rfl, rfl⟩, h2⟩⟩
    · show ∀ bs, u.line.receiver = _ → u.line.slot = _
      rw [hul]
      exact hs.receiving
  have send : ∀ e, (∀ x ∈ s.responder.queue, x.window = none) → (s.grantSend e).Windowed ends := by
    intro e hn
    exact State.Windowed.of_no_window hn hs.receiving (fun _ _ _ h => (by cases h)) hs.nodup
  have head : ∀ x ∈ s.responder.queue, x.window.isSome = true →
      ∃ r, replyHead s.responder.queue = some r ∧ r.window.isSome = true := by
    intro x hx hxw
    obtain ⟨fe, hw⟩ := Option.isSome_iff_exists.mp hxw
    obtain ⟨hst, -⟩ := hs.waiting hg hi hx hw
    obtain ⟨r, hr⟩ := Option.isSome_iff_exists.mp
      (List.find?_isSome (p := fun e : ReplyEntry => e.window.isSome && e.state.isWaiting).mpr
        ⟨x, hx, by simp [hw, hst, TxState.isWaiting]⟩)
    refine ⟨r, ?_, ?_⟩
    · unfold replyHead
      rw [hr]
    · have := List.find?_some hr
      simp only [Bool.and_eq_true] at this
      exact this.1
  unfold State.choose
  split
  · rename_i r e hr he
    split
    · exact reply _ r rfl rfl
    · rename_i hrw
      split
      · exact reply _ r rfl rfl
      · refine send e (fun x hx => ?_)
        by_contra hx'
        obtain ⟨r', hr', hw'⟩ := head x hx (Option.isSome_iff_ne_none.mpr hx')
        rw [hr] at hr'
        cases hr'
        exact hrw hw'
  · rename_i r hr _
    exact reply _ r rfl rfl
  · rename_i e hr he
    refine send e (fun x hx => ?_)
    by_contra hx'
    obtain ⟨r', hr', -⟩ := head x hx (Option.isSome_iff_ne_none.mpr hx')
    rw [hr] at hr'
    cases hr'
  · exact hs

/-- The entry that a grant carries is found (R6). -/
theorem State.Granted.frame {s : State} (hg : s.Granted) {g : Grant}
    (ht : s.line.transmitter.grant? = some g) : ∃ f, s.grantedFrame g = some f := by
  unfold State.grantedFrame
  cases hsrc : g.source with
  | send tag =>
    obtain ⟨e, he, -⟩ := find?_granted (hg.send ht hsrc).1 hsrc
    exact ⟨e.frame, by simp [he]⟩
  | reply =>
    obtain ⟨e, he, -⟩ := find?_onLine (hg.reply ht hsrc).2
    exact ⟨e.frame, by simp [he]⟩

/-- An attempt that begins leaves GAP_WAIT for SENDING and moves the point of last activity (R7). -/
theorem State.startSending_eq {s : State} {g : Grant} {f : Frame} (h : s.grantedFrame g = some f) :
    s.startSending g = { s with line := { s.line with
      transmitter := .sending g s.line.point f.lineBytes, lastActivity := s.line.point } } := by
  unfold State.startSending
  rw [h]

/-- An attempt that begins in the gap carries no reply in a window. -/
theorem State.startedInGap_windowed {s : State} {ends : List Nat} (hg : s.Granted) (hs : s.Windowed ends) {g : Grant}
    (ht : s.line.transmitter = .gapWait g) (hn : g.slotEnd = none) (hr : s.line.receiver.quiet = true) :
    (s.closeSlot.startSending g).Windowed ends := by
  have htc : s.closeSlot.line.transmitter = .gapWait g :=
    (State.closeSlot_transmitter_of_contend hg ht hn).trans ht
  obtain ⟨f, hf⟩ := (State.closeSlot_granted hg).frame (g := g) (by rw [htc]; rfl)
  have hc := State.closeSlot_windowed hs
  rw [State.startSending_eq hf]
  refine State.Windowed.of_no_window ?_ (fun _ _ => s.closeSlot_line_slot)
    (fun _ _ _ _ => ⟨s.closeSlot_line_slot, ?_⟩) hs.nodup
  · intro x hx
    by_contra hw
    obtain ⟨fe, hw⟩ := Option.ne_none_iff_exists'.mp hw
    rcases (hc.held x hx fe hw).2 with ⟨-, hsl⟩ | ⟨-, hgw, -⟩
    · rw [s.closeSlot_line_slot] at hsl
      cases hsl
    · rw [htc] at hgw
      cases hgw
  · intro bs hb
    replace hb : s.closeSlot.line.receiver = .receiving bs := hb
    rw [State.closeSlot_line_receiver] at hb
    rw [hb] at hr
    cases hr

/-- An attempt that begins in its slot carries the reply in its window (R113). -/
theorem State.startedInSlot_windowed {s : State} {ends : List Nat} (hg : s.Granted) (hs : s.Windowed ends) {g : Grant}
    {fe : Nat} (ht : s.line.transmitter = .gapWait g) (hn : g.slotEnd = some fe) (hsl : s.line.slot = .own fe) :
    (State.startSending { s with line := { s.line with slot := .none } } g).Windowed ends := by
  have hgr : s.line.transmitter.grant? = some g := by
    rw [ht]
    rfl
  have hsrc : g.source = .reply := by
    cases hsrc : g.source with
    | reply => rfl
    | send tag =>
      obtain ⟨e, -, he⟩ := find?_granted (hg.send hgr hsrc).1 hsrc
      obtain ⟨-, rfl⟩ := (SendEntry.grant_eq_some e _).mp he
      cases hn
  obtain ⟨e, he, heg⟩ := find?_onLine (hg.reply hgr hsrc).2
  obtain ⟨hon, hge⟩ := (ReplyEntry.grant_eq_some e _).mp heg
  have hmem := List.mem_of_find?_eq_some he
  have hew : e.window = some fe := by
    rw [← hn, ← hge]
  obtain ⟨f, hf⟩ := hg.frame hgr
  have hrec : ∀ bs, s.line.receiver ≠ .receiving bs := by
    intro bs hb
    have := hs.receiving bs hb
    rw [hsl] at this
    cases this
  rw [State.startSending_eq (f := f) (by exact hf)]
  refine ⟨hs.one, ?_, fun bs hb => absurd hb (hrec bs), fun _ _ _ _ => ⟨rfl, hrec⟩, hs.nodup⟩
  intro x hx fe' hw
  have hxe := hs.unique hmem (by rw [hew]; rfl) hx (by rw [hw]; rfl)
  refine ⟨(hs.held x hx fe' hw).1, .inr ⟨?_, rfl, by simp⟩⟩
  rw [hxe]
  exact hon

/-! ### The end of an attempt -/

/-- A reply that is in its window after an outcome was in it before. -/
theorem State.handReply_window {s : State} {o : AttemptEnd} (ho : o ≠ .stopped) :
    (s.handReply o).responder.queue.countP (fun e => e.window.isSome) ≤
        s.responder.queue.countP (fun e => e.window.isSome) ∧
      ∀ x ∈ (s.handReply o).responder.queue, x.window.isSome = true → x ∈ s.responder.queue := by
  have dropped : ∀ p : ReplyEntry → Bool,
      (s.responder.queue.eraseP p).countP (fun e => e.window.isSome) ≤
        s.responder.queue.countP (fun e => e.window.isSome) ∧
      ∀ x ∈ s.responder.queue.eraseP p, x.window.isSome = true → x ∈ s.responder.queue :=
    fun p => ⟨List.eraseP_sublist.countP_le, fun x hx _ => List.mem_of_mem_eraseP hx⟩
  have changed : ∀ {p : ReplyEntry → Bool} {f : ReplyEntry → ReplyEntry} {e : ReplyEntry},
      s.responder.queue.find? p = some e → (∀ a, (f a).window.isSome = true → a.window.isSome = true) →
      (f e).window = none →
      (changeFirst p f s.responder.queue).countP (fun e => e.window.isSome) ≤
        s.responder.queue.countP (fun e => e.window.isSome) ∧
      ∀ x ∈ changeFirst p f s.responder.queue, x.window.isSome = true → x ∈ s.responder.queue := by
    intro p f e he hf hfe
    refine ⟨changeFirst_countP_le _ _ _ _ hf, fun x hx hw => ?_⟩
    rcases mem_changeFirst_of_find? he hx with hx | rfl
    · exact hx
    · rw [hfe] at hw
      cases hw
  unfold State.handReply
  split
  · exact ⟨Nat.le_refl _, fun x hx _ => hx⟩
  · rename_i e he
    split
    · have h := dropped (fun e => e.state.isOnLine)
      rwa [← State.dropReply_queue] at h
    · have h := dropped (fun e => e.state.isOnLine)
      rwa [← State.dropReply_queue] at h
    · rename_i r
      split
      · have h := dropped (fun e => e.state.isOnLine)
        rwa [← State.dropReply_queue] at h
      · dsimp only
        split
        · have h := changed (f := fun x => { x with
            window := none, attempts := x.attempts + 1, state := backoffState s.line.point r }) he
            (fun _ h => (by cases h)) rfl
          rwa [← changeFirst_changeFirst (fun e : ReplyEntry => e.state.isOnLine) (fun x => { x with window := none })
            (fun x => { x with attempts := x.attempts + 1, state := backoffState s.line.point r }) _
            (fun _ h => h)] at h
        · rename_i hw
          exact changed he (fun _ h => h) (by simpa using hw)
    · exact absurd rfl ho

/-- The end of an attempt keeps the reply in its window, if it waits, in its slot. -/
theorem State.attemptOver_windowed {s t : State} {ends : List Nat} {g : Grant} {l : Line} (hs : s.Windowed ends)
    (h : AttemptOver s g l) (hl : t.line = l) (ht : t.Granted)
    (hq : t.responder.queue.countP (fun e => e.window.isSome) ≤
      s.responder.queue.countP (fun e => e.window.isSome))
    (hm : ∀ x ∈ t.responder.queue, x.window.isSome = true → x ∈ s.responder.queue) : t.Windowed ends := by
  obtain ⟨-, hoff⟩ := ht.none (by rw [hl, h.idle]; rfl)
  refine ⟨hq.trans hs.one, ?_, ?_, ?_, hs.nodup⟩
  · intro x hx fe hw
    obtain ⟨hne, hin⟩ := hs.held x (hm x hx (by rw [hw]; rfl)) fe hw
    refine ⟨hne, .inl ?_⟩
    have hon := (ReplyEntry.grant_eq_none x).mp (List.filterMap_eq_nil_iff.mp hoff x hx)
    rcases hin with ⟨hst | ⟨hst, -⟩, hsl⟩ | ⟨hst, -⟩
    · refine ⟨.inl hst, ?_⟩
      rw [hl]
      rcases h.drove with ⟨start, bytes, hd⟩ | ⟨start, -, hls⟩
      · rw [(hs.sending g start bytes hd).1] at hsl
        cases hsl
      · rw [hls, hsl]
    · exact absurd hst hon
    · exact absurd hst hon
  · intro bs hb
    rw [hl] at hb ⊢
    have hb' : s.line.receiver = .receiving bs := by
      rcases h.receiver with hr | ⟨-, hr⟩
      · rw [← hr, hb]
      · rw [hr] at hb
        cases hb
    rcases h.drove with ⟨start, bytes, hd⟩ | ⟨start, -, hls⟩
    · exact absurd hb' ((hs.sending g start bytes hd).2 bs)
    · rw [hls]
      exact hs.receiving bs hb'
  · intro g' start bytes hd
    rw [hl, h.idle] at hd
    cases hd

/-! ### The frame end points that are held -/

/-- The frame end point of the frame under evaluation. -/
def Classifier.evalEnds (c : Classifier) : List Nat :=
  match c.eval with
  | some e => [e.member.frameEnd]
  | none => []

/-- The frame end points of the waiting frames, and `o` for that of the frame under evaluation. -/
def State.endsWith (s : State) (o : List Nat) : List Nat := s.classifier.queue.map (fun w => w.frameEnd) ++ o

/-- A frame may end: the part does not drive the line, and every frame end point that is held lies before (R1, R2). -/
structure State.EndsNow (s : State) : Prop where
  drives : s.line.transmitter.drives = false
  before : ∀ fe ∈ s.frameEnds, fe < s.line.point

end Sys2Proof.Machine
end

section
/-! The law of the reply window, move by move and at a scan's end. -/

namespace Sys2Proof.Machine

/-- The frame end points that the classifier holds. -/
def Classifier.ends (c : Classifier) : List Nat := c.queue.map (fun w => w.frameEnd) ++ c.evalEnds

theorem State.frameEnds_classifier (s : State) : s.frameEnds = s.classifier.ends := rfl

theorem subperm_nodup {l m : List Nat} (h : l.Subperm m) (hm : m.Nodup) : l.Nodup := by
  obtain ⟨k, hk, hs⟩ := h
  exact hk.nodup_iff.mp (hm.sublist hs)

/-- With the line not driven by the part, and no slot open, no reply is in a window. -/
theorem State.Windowed.none_of_undriven {s : State} {E : List Nat} (hs : s.Windowed E) (hg : s.Granted)
    (hd : s.line.transmitter.drives = false) (hsl : s.line.slot = .none) :
    ∀ e ∈ s.responder.queue, e.window = none := by
  intro e he
  by_contra hw
  obtain ⟨fe, hw⟩ := Option.ne_none_iff_exists'.mp hw
  rcases (hs.held e he fe hw).2 with ⟨-, h⟩ | ⟨hon, hgw, -⟩
  · rw [hsl] at h
    cases h
  · have hgr := hg.of_onLine he hon
    cases ht : s.line.transmitter with
    | idle =>
      rw [ht] at hgr
      cases hgr
    | gapWait g =>
      rw [ht] at hgw
      cases hgw
    | sending g start bytes =>
      rw [ht] at hd
      cases hd
    | jamming g start =>
      rw [ht] at hd
      cases hd

/-- A frame taken opens a slot while no reply is in a window. -/
theorem State.frameTaken_windowed {s : State} {E : List Nat} (hs : s.Windowed E) (hg : s.Granted) (he : s.EndsNow)
    {bs : List Byte} (c : LineCounters) (h : s.line.receiver = .receiving bs) :
    (State.enqueue
      { s with line := { s.line.frameEnded (Frame.ofBytes bs) true with receiver := .idle, counters := c } }
      (Frame.ofBytes bs) s.line.timebase s.line.point).Windowed E := by
  obtain ⟨p, g, sl, hl, -⟩ := s.line.frameEnded_eq (Frame.ofBytes bs) true
  refine State.Windowed.of_no_window ?_ ?_ ?_ hs.nodup
  · rw [State.enqueue_responder]
    exact hs.none_of_undriven hg he.drives (hs.receiving bs h)
  · rw [State.enqueue_line]
    exact fun _ hb => (by cases hb)
  · rw [State.enqueue_line, hl]
    intro g start bytes ht
    have hd := he.drives
    rw [show s.line.transmitter = .sending g start bytes from ht] at hd
    cases hd

theorem State.Windowed.append {s : State} {E : List Nat} (hs : s.Windowed E) (m : Message) :
    (s.append m).Windowed E :=
  hs.same (by rw [State.append_responder]) (by rw [State.append_line]) (by rw [State.append_line])
    (by rw [State.append_line])

theorem State.cleared_windowed {E : List Nat} (h : E.Nodup) : State.cleared.Windowed E :=
  State.Windowed.of_no_window (fun _ he => (by cases he)) (fun _ hr => (by cases hr))
    (fun _ _ _ ht => (by cases ht)) h

/-- A move outside a scan's end and a jam's end in a stopping sequence keeps the window law for the frame end points
held before it, in the company of the law of the grant. -/
theorem Move.windowed {s t : State} {E : List Nat} (h : Move False False State.EndsNow s t) (hd : s.Defers)
    (hg : s.Granted) (hs : s.Windowed E) : t.Windowed E := by
  have hgt := h.granted hd hg
  cases h with
  | data h => exact hs.same h.replies h.transmitter h.slot h.receiver
  | cleared => exact (State.cleared_windowed hs.nodup).same rfl rfl rfl rfl
  | reset cause =>
    refine State.Windowed.append ?_ _
    exact (State.cleared_windowed hs.nodup).same rfl rfl rfl rfl
  | replied | repliedLong | handedOver | noticeMoved =>
    refine State.Windowed.append ?_ _
    exact hs.same rfl rfl rfl rfl
  | posted =>
    exact hs.same (by rw [State.post_responder]) (by rw [State.post_line]) (by rw [State.post_line])
      (by rw [State.post_line])
  | commitApplied =>
    exact hs.same (by rw [State.applyCommit_responder]) (by rw [State.applyCommit_line])
      (by rw [State.applyCommit_line]) (by rw [State.applyCommit_line])
  | sendCompleted =>
    exact hs.same (by rw [State.completeSend_responder]) (by rw [State.completeSend_line])
      (by rw [State.completeSend_line]) (by rw [State.completeSend_line])
  | lineStopCompleted =>
    unfold State.completeLineStop
    split
    · exact hs
    · exact hs.same (by rw [State.refuse_responder]) (by rw [State.refuse_line]) (by rw [State.refuse_line])
        (by rw [State.refuse_line])
  | sideCompleted =>
    exact hs.same (by rw [State.refuse_responder]) (by rw [State.refuse_line]) (by rw [State.refuse_line])
      (by rw [State.refuse_line])
  | released h => exact h.elim
  | accepted h => exact h.elim
  | placed h => exact h.elim
  | evaluationEnded h => exact h.elim
  | frameDropped claimed after c ha _ =>
    have hr : ∀ bs, after ≠ .receiving bs := by
      rintro bs rfl
      rcases ha with ha | ⟨ha, -⟩ <;> cases ha
    have hw : State.Windowed { s with line := { s.line with receiver := after } } E :=
      ⟨hs.one, hs.held, fun bs hb => absurd hb (hr bs),
        fun g start bytes ht => ⟨(hs.sending g start bytes ht).1, hr⟩, hs.nodup⟩
    cases claimed <;> exact hw.same rfl rfl rfl rfl
  | bytePlaced bs b h _ =>
    have hw : State.Windowed { s with line := { s.line with receiver := .receiving (bs ++ [b]) } } E :=
      ⟨hs.one, hs.held, fun _ _ => hs.receiving bs h,
        fun g start bytes ht => absurd h ((hs.sending g start bytes ht).2 bs), hs.nodup⟩
    split <;> exact hw.same rfl rfl rfl rfl
  | receiverSet r _ _ _ hw =>
    refine ⟨hs.one, hs.held, fun bs hb => (hw bs hb).1, fun g start bytes ht => ?_, hs.nodup⟩
    exact ⟨(hs.sending g start bytes ht).1, fun bs hb => (hw bs hb).2 g start bytes ht⟩
  | frameTaken bs c h _ he => exact State.frameTaken_windowed hs hg he c h
  | slotClosed => exact State.closeSlot_windowed hs
  | chosen _ hi => exact State.choose_windowed hg hs hi
  | notStarted => exact State.notStarted_windowed hg hs
  | startedInGap g ht hn _ hr => exact State.startedInGap_windowed hg hs ht hn hr
  | startedInSlot g fe ht hn _ hsl => exact State.startedInSlot_windowed hg hs ht hn hsl
  | jammed g start bytes p ht =>
    refine ⟨hs.one, ?_, hs.receiving, fun _ _ _ h => (by cases h), hs.nodup⟩
    intro e he fe hw
    obtain ⟨hne, hin⟩ := hs.held e he fe hw
    refine ⟨hne, ?_⟩
    rw [ReplyEntry.InSlot, ht] at hin
    exact hin
  | attemptEnded g l o h ho _ =>
    refine State.attemptOver_windowed hs h (State.hand_line _ _ _) hgt ?_ ?_
    · unfold State.hand
      split
      · rw [State.handSend_responder]
      · exact (State.handReply_window (fun h => ho h)).1
    · unfold State.hand
      split
      · rw [State.handSend_responder]
        exact fun x hx _ => hx
      · exact (State.handReply_window (s := { s with line := l }) (fun h => ho h)).2
  | replyWaits place e p h hb =>
    have hew : e.window = none := by
      by_contra hw
      obtain ⟨fe, hw⟩ := Option.ne_none_iff_exists'.mp hw
      rcases (hs.held e (List.mem_of_getElem? h) fe hw).2 with ⟨hst | ⟨hst, -⟩, -⟩ | ⟨hst, -⟩ <;>
        simp [hst, TxState.backoffRun] at hb
    refine ⟨?_, ?_, hs.receiving, hs.sending, hs.nodup⟩
    · refine Nat.le_trans (Nat.le_of_eq ?_) hs.one
      have hm := map_set_same (e' := { e with state := .waiting }) (fun e => e.window.isSome) h rfl
      have hc := congrArg (List.countP id) hm
      rw [List.countP_map, List.countP_map] at hc
      exact hc
    · intro x hx fe hw
      rcases List.mem_or_eq_of_mem_set hx with hx | rfl
      · exact hs.held x hx fe hw
      · rw [show e.window = some fe from hw] at hew
        cases hew
  | repliesDiscarded => exact State.Windowed.of_no_window (fun _ he => (by cases he)) hs.receiving hs.sending hs.nodup
  | lineStarted m g p c hf ho =>
    exact ⟨hs.one, hs.held, fun _ hb => (by cases hb),
      fun g start bytes ht => ⟨(hs.sending g start bytes ht).1, fun _ hb => (by cases hb)⟩, hs.nodup⟩
  | _ => exact hs.same rfl rfl rfl rfl

/-- Of the frame end points that are held, a move adds that of a frame taken alone. -/
theorem Move.ends {stop : Prop} {s t : State} (h : Move False stop State.EndsNow s t) :
    t.classifier.ends.Subperm s.classifier.ends ∨
      (t.classifier.ends.Subperm (s.line.point :: s.classifier.ends) ∧ s.EndsNow ∧
        t.responder = s.responder ∧ ∃ bs, s.line.receiver = .receiving bs) := by
  cases h with
  | data h =>
    refine .inl (List.Perm.subperm (List.Perm.of_eq ?_))
    unfold Classifier.ends Classifier.evalEnds
    rw [h.waiting, h.eval]
  | cleared => exact .inl (List.nil_subperm)
  | reset cause =>
    unfold State.fullReset
    rw [State.append_classifier]
    exact .inl List.nil_subperm
  | replied | repliedLong | handedOver | noticeMoved =>
    rw [State.append_classifier]
    exact .inl (List.Subperm.refl _)
  | posted =>
    rw [State.post_classifier]
    exact .inl (List.Subperm.refl _)
  | commitApplied =>
    refine .inl (List.Perm.subperm (List.Perm.of_eq ?_))
    unfold Classifier.ends Classifier.evalEnds
    rw [State.applyCommit_waiting, State.applyCommit_eval]
  | sendCompleted =>
    rw [State.completeSend_classifier]
    exact .inl (List.Subperm.refl _)
  | lineStopCompleted =>
    rw [State.completeLineStop_classifier]
    exact .inl (List.Subperm.refl _)
  | sideCompleted =>
    rw [State.refuse_classifier]
    exact .inl (List.Subperm.refl _)
  | classificationEmptied => exact .inl (List.sublist_append_right _ _).subperm
  | evaluationBegun w ws g o p he hq =>
    refine .inl (List.Perm.subperm ?_)
    unfold Classifier.ends Classifier.evalEnds
    rw [he, hq]
    simp
  | released h => exact h.elim
  | accepted h => exact h.elim
  | placed h => exact h.elim
  | evaluationEnded h => exact h.elim
  | frameDropped claimed => cases claimed <;> exact .inl (List.Subperm.refl _)
  | bytePlaced bs => split <;> exact .inl (List.Subperm.refl _)
  | frameTaken bs c h _ he =>
    refine .inr ⟨?_, he, State.enqueue_responder _ _ _ _, bs, h⟩
    unfold State.enqueue
    split
    · refine List.Perm.subperm ?_
      show ((s.classifier.queue ++ [_]).map _ ++ s.classifier.evalEnds).Perm _
      rw [List.map_append, List.append_assoc]
      exact List.perm_middle
    · exact (List.sublist_cons_self _ _).subperm
  | slotClosed =>
    rw [State.closeSlot_classifier]
    exact .inl (List.Subperm.refl _)
  | chosen =>
    rw [State.choose_classifier]
    exact .inl (List.Subperm.refl _)
  | notStarted =>
    rw [State.notStarted_classifier]
    exact .inl (List.Subperm.refl _)
  | startedInGap =>
    rw [State.startSending_classifier, State.closeSlot_classifier]
    exact .inl (List.Subperm.refl _)
  | startedInSlot =>
    rw [State.startSending_classifier]
    exact .inl (List.Subperm.refl _)
  | attemptEnded =>
    rw [State.hand_classifier]
    exact .inl (List.Subperm.refl _)
  | _ => exact .inl (List.Subperm.refl _)

/-- The point of a frame taken is not held yet. -/
theorem State.EndsNow.fresh {s : State} (h : s.EndsNow) : s.line.point ∉ s.frameEnds :=
  fun hm => Nat.lt_irrefl _ (h.before _ hm)

/-- A move keeps the frame end points that are held all different. -/
theorem Move.ends_nodup {stop : Prop} {s t : State} (h : Move False stop State.EndsNow s t)
    (hs : s.frameEnds.Nodup) : t.frameEnds.Nodup := by
  rcases h.ends with h | ⟨h, he, -, -⟩
  · exact subperm_nodup h hs
  · exact subperm_nodup h (List.nodup_cons.mpr ⟨he.fresh, hs⟩)

/-- A move keeps the window law. -/
theorem Move.windowLaw {s t : State} (h : Move False False State.EndsNow s t) (hd : s.Defers)
    (hg : s.Granted) (hs : s.Windowed s.frameEnds) : t.Windowed t.frameEnds := by
  have ht := h.windowed hd hg hs
  have hn := h.ends_nodup hs.nodup
  refine ⟨ht.one, fun e he fe hw => ⟨?_, (ht.held e he fe hw).2⟩, ht.receiving, ht.sending, hn⟩
  rcases h.ends with h | ⟨-, hnow, hr, bs, hb⟩
  · exact fun hm => (ht.held e he fe hw).1 (h.subset hm)
  · rw [hr] at he
    rw [hs.none_of_undriven hg hnow.drives (hs.receiving bs hb) e he] at hw
    cases hw

/-! ### A scan's end -/

theorem Quiet.windowed {s t : State} {E : List Nat} (h : Quiet s t) (hs : s.Windowed E) : t.Windowed E := by
  cases h with
  | data h => exact hs.same h.replies h.transmitter h.slot h.receiver
  | posted n =>
    exact hs.same (by rw [State.post_responder]) (by rw [State.post_line]) (by rw [State.post_line])
      (by rw [State.post_line])
  | gave c => exact hs.same rfl rfl rfl rfl
  | recordsRemoved q kept removed => exact hs.same rfl rfl rfl rfl

theorem Quiet.waiting {s t : State} (h : Quiet s t) : t.classifier.queue = s.classifier.queue := by
  cases h with
  | data h => exact h.waiting
  | posted n => rw [State.post_classifier]
  | gave c => rfl
  | recordsRemoved q kept removed => rfl

theorem Delivered.windowed {m : Waiting} {s t : State} {E : List Nat} (h : Delivered m s t) (hs : s.Windowed E) :
    t.Windowed E := by
  cases h with
  | released => exact hs.same rfl rfl rfl rfl
  | accepted q r => exact hs.same rfl rfl rfl rfl

/-- The reply that is placed in its slot answers the frame that leaves the evaluation (R112, R113). -/
theorem Answered.windowed {m : Waiting} {s t : State} {E : List Nat} (h : Answered m s t)
    (hs : s.Windowed (E ++ [m.frameEnd])) : t.Windowed E := by
  have hE := hs.fewer (List.sublist_append_left E [m.frameEnd])
  cases h with
  | nothing => exact hE
  | placed n f w _ _ hw =>
    unfold State.placeReply
    dsimp only
    split
    · rcases hw with rfl | ⟨rfl, hsl⟩
      · refine ⟨?_, ?_, hE.receiving, hE.sending, hE.nodup⟩
        · show (s.responder.queue ++ [_]).countP _ ≤ 1
          rw [List.countP_append]
          exact hE.one
        · intro e he fe hew
          replace he : e ∈ s.responder.queue ++ [_] := he
          rcases List.mem_append.mp he with he | he
          · exact hE.held e he fe hew
          · rw [List.mem_singleton.mp he] at hew
            cases hew
      · have hno : ∀ e ∈ s.responder.queue, e.window = none := by
          intro e he
          by_contra hew
          obtain ⟨fe, hew⟩ := Option.ne_none_iff_exists'.mp hew
          obtain ⟨hne, hin⟩ := hs.held e he fe hew
          rcases hin with ⟨-, h⟩ | ⟨-, -, h⟩
          · rw [hsl] at h
            cases h
            exact hne (by simp)
          · exact h _ hsl
        have hfe : m.frameEnd ∉ E := by
          have := hs.nodup
          rw [List.nodup_append] at this
          exact fun hm => this.2.2 _ hm _ (List.mem_singleton_self _) rfl
        refine ⟨?_, ?_, hE.receiving, hE.sending, hE.nodup⟩
        · show (s.responder.queue ++ [_]).countP _ ≤ 1
          rw [List.countP_append, List.countP_eq_zero.mpr (fun e he => by simp [hno e he])]
          exact Nat.le_refl 1
        · intro e he fe hew
          replace he : e ∈ s.responder.queue ++ [_] := he
          rcases List.mem_append.mp he with he | he
          · rw [hno e he] at hew
            cases hew
          · rw [List.mem_singleton.mp he] at hew ⊢
            cases hew
            exact ⟨hfe, .inl ⟨.inl rfl, hsl⟩⟩
    · exact hE

/-- What a scan's end does keeps the window law. -/
theorem scan_windowed {e : Evaluation} {a b c d f : State} (he : a.classifier.eval = some e)
    (ha : a.Windowed a.frameEnds) (hb : Answered e.member a b) (hc : Quietly b c)
    (hd : Delivered e.member c d) (hf : Quietly d f) :
    State.Windowed { f with classifier := { f.classifier with eval := none } }
      (State.frameEnds { f with classifier := { f.classifier with eval := none } }) := by
  have hwait : f.classifier.queue = a.classifier.queue := by
    have h1 : b.classifier.queue = a.classifier.queue := by
      cases hb with
      | nothing => rfl
      | placed => rw [State.placeReply_classifier]
    have h2 := hc.keep (P := fun t => t.classifier.queue = b.classifier.queue)
      (fun hm ht => hm.waiting.trans ht) rfl
    have h3 : d.classifier.queue = c.classifier.queue := by
      cases hd <;> rfl
    have h4 := hf.keep (P := fun t => t.classifier.queue = d.classifier.queue)
      (fun hm ht => hm.waiting.trans ht) rfl
    rw [h4, h3, h2, h1]
  have hends : a.frameEnds = a.classifier.queue.map (fun w => w.frameEnd) ++ [e.member.frameEnd] := by
    rw [State.frameEnds_classifier]
    unfold Classifier.ends Classifier.evalEnds
    rw [he]
  rw [hends] at ha
  have hfw : f.Windowed (a.classifier.queue.map (fun w => w.frameEnd)) :=
    hf.keep (P := fun s => s.Windowed _) (fun hq => hq.windowed)
      (hd.windowed (hc.keep (P := fun s => s.Windowed _) (fun hq => hq.windowed) (hb.windowed ha)))
  rw [State.frameEnds_classifier]
  unfold Classifier.ends Classifier.evalEnds
  dsimp only
  rw [hwait, List.append_nil]
  exact hfw.same rfl rfl rfl rfl

/-! ### The end of a frame -/

theorem State.receiveByte_keeps (s : State) (b : Byte) :
    (s.receiveByte b).line.transmitter = s.line.transmitter ∧ (s.receiveByte b).line.point = s.line.point ∧
      (s.receiveByte b).classifier = s.classifier := by
  unfold State.receiveByte
  split
  · split
    · exact ⟨rfl, rfl, rfl⟩
    · split
      · exact ⟨rfl, rfl, rfl⟩
      · dsimp only
        split <;> split <;> exact ⟨rfl, rfl, rfl⟩
  · exact ⟨rfl, rfl, rfl⟩

/-- The bytes of a frame are received without a change of the transmitter, the clock or the classifier. -/
theorem State.receiveBytes_keeps (s : State) (bs : List Byte) :
    (s.receiveBytes bs).line.transmitter = s.line.transmitter ∧ (s.receiveBytes bs).line.point = s.line.point ∧
      (s.receiveBytes bs).classifier = s.classifier := by
  have hfold : ∀ (bs : List Byte) (u : State), u.line.transmitter = s.line.transmitter →
      u.line.point = s.line.point → u.classifier = s.classifier →
      (bs.foldl State.receiveByte u).line.transmitter = s.line.transmitter ∧
        (bs.foldl State.receiveByte u).line.point = s.line.point ∧
        (bs.foldl State.receiveByte u).classifier = s.classifier := by
    intro bs
    induction bs with
    | nil => exact fun u h1 h2 h3 => ⟨h1, h2, h3⟩
    | cons b bs ih =>
      intro u h1 h2 h3
      obtain ⟨k1, k2, k3⟩ := u.receiveByte_keeps b
      exact ih _ (k1.trans h1) (k2.trans h2) (k3.trans h3)
  unfold State.receiveBytes
  split
  · exact hfold bs _ rfl rfl rfl
  · exact ⟨rfl, rfl, rfl⟩

/-- What is known of a frame that ends next stands when its bytes have been received (R1, R2). -/
theorem FrameEndsInOrder.endsNow {s : State} (h : FrameEndsInOrder s) {dt : Nat} {bytes : List Byte} {fcs : Half}
    {rest : List Instr} (hp : s.pending = .frameEnd dt bytes fcs :: rest) :
    (({ s with pending := rest }.elapse dt).receiveBytes bytes).EndsNow := by
  obtain ⟨h1, h2, -⟩ := h dt bytes fcs rest hp
  obtain ⟨k1, k2, k3⟩ := ({ s with pending := rest }.elapse dt).receiveBytes_keeps bytes
  constructor
  · rw [k1, State.elapse_line_transmitter]
    exact h1
  · rw [k2, State.frameEnds_classifier, k3, State.elapse_classifier]
    have hpt : ({ s with pending := rest }.elapse dt).line.point = (s.elapse dt).line.point := by
      unfold State.elapse
      dsimp only
      split <;> rfl
    rw [hpt]
    exact h2

end Sys2Proof.Machine

namespace Sys2Proof

open Machine

/-- Settles O60: the bounds and the templates a move at a time; the frame ids and the reply window outside a scan's end
a move at a time, in the company of the laws they lean on, and at a scan's end as a whole. -/
theorem stepsKeepTheClassifier : Obligations.StepsKeepTheClassifier := by
  refine ⟨?_, ?_, ?_, ?_, ?_⟩
  · intro s t hs h
    exact step_keeps (P := FourLaw) (fun _ _ h => h) (fun hm => hm.four) hs h
  · intro s t hs h
    exact step_keeps (P := QueueLaw) (fun _ _ h => h) (fun hm => hm.queueLaw) hs h
  · intro s t hs h
    rw [templateLaw_iff] at *
    exact step_keeps (P := fun s => s.sieve.active.Named s.responder.templates) (fun _ _ h => h)
      (fun hm => hm.named) hs h
  · intro s t hf hq hs h
    rw [frameIds_nodup_iff] at *
    refine (step_keeps_scan (stop := True) (ends := fun _ => True)
      (P := fun s => (FourLaw s ∧ QueueLaw s) ∧ s.IdsDiffer s.classifier.evalIds) (fun _ _ h => h)
      (fun hm hP => ⟨⟨hm.four hP.1.1, hm.queueLaw hP.1.2⟩, hm.idsDiffer hP.1.1 hP.1.2 hP.2⟩) ?_
      ⟨⟨hf, hq⟩, hs⟩ h ?_).2
    · intro e a b c d f he hP hb hc hd hf
      refine ⟨scan_keeps (stop := True) (ends := fun _ => True) (P := fun s => FourLaw s ∧ QueueLaw s)
        (fun hm hP => ⟨hm.four hP.1, hm.queueLaw hP.2⟩) hP.1 hb hc hd hf, ?_⟩
      have ha : a.IdsDiffer [e.member.id] := by
        have hids := hP.2
        unfold Classifier.evalIds at hids
        rwa [he] at hids
      have hcd := hc.keep (P := fun s => s.IdsDiffer [e.member.id]) (fun hq => hq.idsDiffer) (hb.idsDiffer ha)
      exact hf.keep (P := fun s => s.IdsDiffer []) (fun hq => hq.idsDiffer) (hd.idsDiffer hcd)
    · intro c rest _ hc
      exact .inl ⟨fun dt h => hc dt h, fun _ _ _ _ => trivial, fun _ _ _ _ _ => trivial, fun _ _ _ _ => trivial⟩
  · intro s t hd hg he hs h
    rw [deferredLaw_iff] at hd
    rw [grantLaw_iff] at hg
    rw [windowLaw_iff] at *
    have keep : ∀ {scan : Prop} {ends : State → Prop} {s t : State}, Move scan False ends s t →
        s.Defers ∧ s.Granted → t.Defers ∧ t.Granted :=
      fun hm hP => ⟨hm.defers hP.1, hm.granted hP.1 hP.2⟩
    refine (step_keeps_careful (ends := State.EndsNow)
      (P := fun s => (s.Defers ∧ s.Granted) ∧ s.Windowed s.frameEnds)
      (fun _ _ h => ⟨⟨h.1.1, h.1.2.same rfl rfl rfl⟩, h.2.same rfl rfl rfl rfl⟩)
      (fun hm hP => ⟨keep hm hP.1, hm.windowLaw hP.1.1 hP.1.2 hP.2⟩) ?_ ?_ ⟨⟨hd, hg⟩, hs⟩ h ?_).2
    · intro e a b c d f hev hP hb hc hd hf
      exact ⟨scan_keeps (ends := State.EndsNow) keep hP.1 hb hc hd hf, scan_windowed hev hP.2 hb hc hd hf⟩
    · intro s u hP hm hi hr hn
      refine ⟨⟨hm.keep (P := State.Defers) (fun hm => hm.defers) hP.1.1, hn.granted hi⟩, ?_⟩
      refine State.Windowed.of_no_window (by simp [hn.2]) ?_ ?_ ?_
      · intro bs hb
        rw [hr] at hb
        cases hb
      · intro g start bytes ht
        rw [hi] at ht
        cases ht
      · exact hm.keep (P := fun s => s.frameEnds.Nodup) (fun hm => hm.ends_nodup) hP.2.nodup
    · exact fun dt bytes fcs rest hp => he.endsNow hp

end Sys2Proof
end

section
/-! The step, the state after reset and the full resets. -/

namespace Sys2Proof.Machine

/-- Two quarters of a microsecond are counted modulo 4. -/
theorem ofNat_two_add (f : BitVec 2) (dt : Nat) : f + BitVec.ofNat 2 dt = BitVec.ofNat 2 (f.toNat + dt) := by
  rw [BitVec.ofNat_add, BitVec.ofNat_toNat, BitVec.setWidth_eq]

/-- Time in quarter microseconds is counted by the timebase, and by the line clock unless the mode is STOPPED. -/
theorem State.elapse_eq {s : State} (h : s.pins.resetLow = false) (dt : Nat) :
    s.elapse dt = { s with line := { s.line with
      timebase := s.line.timebase + BitVec.ofNat 32 ((s.line.fraction.toNat + dt) / 4)
      fraction := BitVec.ofNat 2 (s.line.fraction.toNat + dt)
      point := if s.line.mode = .stopped then s.line.point
        else s.line.point + dt * s.line.rate.sixteenths } } := by
  unfold State.elapse Line.elapse
  rw [h, if_neg (by decide), ofNat_two_add]
  split <;> rfl

/-- A whole microsecond leaves the quarter as it was. -/
theorem quarter_add_four (f : BitVec 2) :
    BitVec.ofNat 2 (f.toNat + 4) = f ∧ (f.toNat + 4) / 4 = 1 := by
  have h := f.isLt
  refine ⟨?_, by omega⟩
  apply BitVec.eq_of_toNat_eq
  rw [BitVec.toNat_ofNat]
  omega

/-- A move changes nothing of the queue of commands. -/
theorem Move.pending {scan stop : Prop} {ends : State → Prop} {s t : State} (h : Move scan stop ends s t) :
    t.pending = s.pending := by
  cases h with
  | data h => exact h.pending
  | posted | commitApplied | sendCompleted | lineStopCompleted | sideCompleted | slotClosed | chosen | notStarted
  | startedInGap | startedInSlot | attemptEnded | placed | frameTaken | replied | repliedLong | handedOver
  | noticeMoved => simp
  | frameDropped claimed => cases claimed <;> rfl
  | bytePlaced => split <;> rfl
  | reset cause =>
    unfold State.fullReset
    rw [State.append_pending]
    rfl
  | _ => rfl

/-- Every command ends in a state whose signals are driven. -/
theorem exec_done (c : Instr) (s : State) : ∃ u, exec c s = done u ∧ u.pending = s.pending := by
  obtain ⟨u, hu, hm⟩ := exec_moves (scan := True) (stop := True) (ends := fun _ => True) c s
    ⟨fun _ _ => trivial, fun _ _ _ _ => trivial, fun _ _ _ _ _ => trivial, fun _ _ _ _ => trivial⟩
  exact ⟨u, hu, hm.keep (P := fun t => t.pending = s.pending) (fun h ht => h.pending.trans ht) rfl⟩

theorem State.attnCondition_iff (s : State) :
    s.attnCondition = true ↔ (s.presence.state = .awake ∨ s.presence.state = .dozeRequested) ∧
      (∃ e ∈ s.link.outbox, e.sent = false) ∧ s.link.outbox.countP (fun e => e.sent) < 8 := by
  unfold State.attnCondition Link.hasUnsent Link.sentCount
  simp [and_assoc]

/-! ### The full resets (R159) -/

theorem execResetPart_part {s : State} {tag : Byte} (h : Accepted s .reset tag [0]) :
    execResetPart s = done (s.fullReset .request) := by
  unfold execResetPart
  rw [h.1]
  rw [State.dispatch_accepted h]
  rfl

/-- A full reset leaves the values of reset with READY of its cause as sequence number 1. -/
theorem State.drivePins_fullReset (s : State) (cause : ResetCause) (h : s.pins.resetLow = false) :
    (s.fullReset cause).drivePins = { State.reset with
      link := { State.reset.link with outbox := [⟨1, false, .notice (.ready cause)⟩] }
      pending := s.pending } := by
  unfold State.fullReset State.clearAll State.drivePins
  rw [State.append_eq, h]
  rfl

end Sys2Proof.Machine

namespace Sys2Proof

open Machine

/-- Settles O1: the step matches on the queue, and the command is at its front. -/
theorem stepTakesTheFront : Obligations.StepTakesTheFront := fun _ _ _ => rfl

/-- Settles O2: a step on an empty queue lets four quarter microseconds pass. -/
theorem idleStepIsOneMicrosecond : Obligations.IdleStepIsOneMicrosecond := by
  intro s hr
  refine ⟨fun hp => ?_, fun dt => ?_⟩
  · have hstep : step s = .next (s.elapse 4) := by
      unfold step
      rw [hp]
    obtain ⟨hf, hq⟩ := quarter_add_four s.line.fraction
    rw [hstep, State.elapse_eq hr, hf, hq]
    refine ⟨fun hm => ?_, fun hm => ?_⟩
    · rw [if_pos hm]
      rfl
    · rw [if_neg hm]
      cases s.line.rate <;> rfl
  · rw [State.elapse_eq hr]
    cases s.line.rate <;> rfl

/-- Settles O3: every command ends in `done`, and no move touches the queue of commands. -/
theorem everyCommandEndsWithItsSignals : Obligations.EveryCommandEndsWithItsSignals := by
  intro c s
  obtain ⟨u, hu, hp⟩ := exec_done c s
  exact ⟨u.drivePins, hu, hp, u.attnCondition_iff, decide_eq_true_iff⟩

/-- Settles O4: each value of the state after reset, looked up. -/
theorem resetStateIsTheSpecs : Obligations.ResetStateIsTheSpecs := by
  refine ⟨by decide, ⟨rfl, ?held, rfl, rfl⟩, ⟨by decide, by decide⟩, ⟨rfl, rfl, rfl, by decide, rfl, rfl⟩, by decide,
    by decide, by decide, by decide, by decide, by decide, by decide⟩
  case held =>
    intro h
    cases h with
    | queue q =>
      revert q
      decide
    | _ => rfl

/-- Settles O54: each law in the state after reset; the laws with a structure of their own by what it asks. -/
theorem lawsHoldAtReset : Obligations.LawsHoldAtReset := by
  refine ⟨rfl, Nat.le_of_ble_eq_true rfl, ⟨rfl, rfl, by decide, rfl, rfl, rfl, fun _ => rfl⟩, by unfold TableLaw; decide,
    by unfold SentLaw; decide, by unfold SequenceLaw; decide, by unfold NoticeLaw; decide,
    ⟨by decide, by decide, by decide, by decide, by decide, by decide⟩, by unfold PinLaw; decide,
    by unfold PresenceLaw; decide, by unfold ModeLaw; decide, fun _ => ⟨rfl, rfl⟩, by unfold PassLaw; decide,
    by unfold FourLaw; decide, State.cleared_named, State.cleared_queueLaw.of_queues rfl,
    (grantLaw_iff _).mpr (State.cleared_granted.same rfl rfl rfl),
    (windowLaw_iff _).mpr ((State.cleared_windowed List.nodup_nil).same rfl rfl rfl rfl)⟩

/-- Settles O5: a full reset by any cause, READY by its own. -/
theorem fullResetsEndInReady : Obligations.FullResetsEndInReady := by
  intro s
  refine ⟨fun h => ?powerUp, fun h => ?powerUpLow, rfl, fun h => ?release, fun tag h ha => ?request, fun h dt => ?low⟩
  case powerUp =>
    show execPowerUp s = _
    unfold execPowerUp
    rw [h, if_neg (by decide)]
    exact congrArg _ (s.drivePins_fullReset .power h)
  case powerUpLow =>
    show execPowerUp s = _
    unfold execPowerUp
    rw [h, if_pos rfl]
    unfold State.clearAll
    rw [h]
    rfl
  case release =>
    show execResetNRelease s = _
    unfold execResetNRelease
    rw [h, if_pos rfl]
    exact congrArg _ (State.drivePins_fullReset _ .pin rfl)
  case request =>
    show execResetPart s = _
    rw [execResetPart_part ha]
    exact congrArg _ (s.drivePins_fullReset .request h)
  case low =>
    have he : ∀ dt, s.elapse dt = s := fun dt => by
      unfold State.elapse
      rw [if_pos h]
    refine ⟨?_, ?_, ?_⟩
    · show execPut dt s = _
      unfold execPut
      rw [he]
      exact if_pos h
    · show execGet dt s = _
      unfold execGet
      rw [he]
      exact if_pos h
    · show execBadExchange dt s = _
      unfold execBadExchange
      rw [he]
      exact if_pos h

end Sys2Proof
end

section
/-! The exchange codes. -/

namespace Sys2Proof.Machine

/-- Outside RESET_N low, time passes on the line. -/
theorem State.elapse_running {s : State} (h : s.pins.resetLow = false) (dt : Nat) :
    s.elapse dt = { s with line := s.line.elapse dt } := by
  unfold State.elapse
  rw [h, if_neg (by decide)]

/-- A posting keeps the buffer, the exchange, the counters and the request table (R152). -/
theorem State.post_linkKept (s : State) (n : Notice) :
    (s.post n).link.buffer = s.link.buffer ∧ (s.post n).link.exchange = s.link.exchange ∧
      (s.post n).link.counters = s.link.counters ∧ (s.post n).link.table = s.link.table := by
  unfold State.post
  split
  · exact ⟨rfl, rfl, rfl, rfl⟩
  · split
    · exact ⟨rfl, rfl, rfl, rfl⟩
    · split
      · rw [State.append_eq]
        exact ⟨rfl, rfl, rfl, rfl⟩
      · exact ⟨rfl, rfl, rfl, rfl⟩

/-- The select period that an exchange code ends: a message still FILLING is rejected (log 19). -/
theorem State.endSelect_of_not_filling {s : State} (h : ∀ bs, s.link.buffer ≠ .filling bs) :
    s.endSelect = s := by
  unfold State.endSelect
  split
  · rename_i bs hb
    exact absurd hb (h bs)
  · rfl

theorem State.endSelect_of_filling {s : State} {bs : List Byte} (h : s.link.buffer = .filling bs) :
    s.endSelect.link.buffer = .empty ∧
      s.endSelect.link.counters =
        { s.link.counters with rejectShort := bump s.link.counters.rejectShort } := by
  unfold State.endSelect
  rw [h]
  obtain ⟨h1, -, h3, -⟩ := State.post_linkKept
    (State.setLinkCounters { s with link := { s.link with buffer := .empty, exchange := .none } }
      (s.link.counters.reject .short)) (.linkReject .short (receivedTag bs) 1)
  exact ⟨h1, h3⟩

/-- A PUT in AWAKE or DOZE_REQUESTED leaves AWAKE with no doze reply (R162). -/
theorem State.reportPut_present {s : State}
    (h : (s.presence.state = .awake ∧ s.presence.dozeReply = none) ∨ s.presence.state = .dozeRequested) :
    s.reportPut = { s with presence := { s.presence with state := .awake, dozeReply := none } } := by
  unfold State.reportPut
  rcases h with ⟨h, hd⟩ | h
  · have hp : ({ s.presence with state := .awake, dozeReply := none } : Presence) = s.presence := by
      rw [← h, ← hd]
    rw [h, hp]
  · rw [h]

theorem State.reportGet_present {s : State}
    (h : s.presence.state = .awake ∨ s.presence.state = .dozeRequested) : s.reportGet = s := by
  unfold State.reportGet
  rcases h with h | h <;> rw [h]

theorem State.reportPut_returns {s : State} (h : s.presence.state = .dozing ∨ s.presence.state = .waking) :
    s.reportPut = s.hostReturns := by
  unfold State.reportPut
  rcases h with h | h <;> rw [h]

theorem State.reportGet_returns {s : State} (h : s.presence.state = .dozing ∨ s.presence.state = .waking) :
    s.reportGet = s.hostReturns := by
  unfold State.reportGet
  rcases h with h | h <;> rw [h]

/-- The report of an exchange code keeps the buffer and the counters. -/
theorem State.hostReturns_linkKept (s : State) :
    s.hostReturns.link.buffer = s.link.buffer ∧ s.hostReturns.link.counters = s.link.counters := by
  unfold State.hostReturns
  obtain ⟨h1, -, h3, -⟩ := State.post_linkKept { s with presence := { s.presence with state := .awake } }
    (.wakeCause (if s.presence.state = .dozing then s.presence.causes ||| Cause.host.set else s.presence.causes) 1
      s.line.timebase)
  exact ⟨h1, h3⟩

theorem State.reportPut_linkKept (s : State) :
    s.reportPut.link.buffer = s.link.buffer ∧ s.reportPut.link.counters = s.link.counters := by
  unfold State.reportPut
  split
  · exact ⟨rfl, rfl⟩
  · exact ⟨rfl, rfl⟩
  · exact s.hostReturns_linkKept
  · exact s.hostReturns_linkKept

theorem State.reportGet_linkKept (s : State) :
    s.reportGet.link.buffer = s.link.buffer ∧ s.reportGet.link.counters = s.link.counters := by
  unfold State.reportGet
  split
  · exact ⟨rfl, rfl⟩
  · exact ⟨rfl, rfl⟩
  · exact s.hostReturns_linkKept
  · exact s.hostReturns_linkKept

/-- The host's return with room for its WAKE_CAUSE appends it (R165). -/
theorem State.hostReturns_appends {s : State}
    (ho : s.link.outbox.any (OutEntry.isUnsentNotice .wakeCause) = false)
    (hn : s.link.notices.any (fun m => m.id = .wakeCause) = false) (hr : s.link.occupancy < 32) :
    s.hostReturns = { s with
      link := { s.link with
        outbox := s.link.outbox ++ [⟨s.link.nextSeq, false, .notice (.wakeCause
          (if s.presence.state = .dozing then s.presence.causes ||| 0x800000 else s.presence.causes) 1
          s.line.timebase)⟩]
        nextSeq := s.link.nextSeq + 1 }
      presence := { s.presence with state := .awake, causes := 0 } } := by
  have hpost : ∀ (t : State) (c : BitVec 24) (m : Half) (w : Word), t.link = s.link → t.presence.state = .awake →
      t.post (.wakeCause c m w) = { t with link := { t.link with
        outbox := t.link.outbox ++ [⟨t.link.nextSeq, false, .notice (.wakeCause c m w)⟩]
        nextSeq := t.link.nextSeq + 1 } } := by
    intro t c m w hl hp
    unfold State.post
    rw [hl, show Notice.id (.wakeCause c m w) = .wakeCause from rfl, ho, hn, if_neg (by decide), if_neg (by decide),
      if_pos hr, State.append_eq, Presence.give_awake _ _ hp, hl]
    split <;> rfl
  unfold State.hostReturns
  dsimp only
  rw [hpost { s with presence := { s.presence with state := .awake } } _ _ _ rfl rfl]
  rfl

/-- The state of a PUT that is counted and reported (R138, R162). -/
def State.putReported (s : State) (dt : Nat) : State :=
  let u := State.newSelect (State.endSelect { s with line := s.line.elapse dt })
  (u.setLinkCounters { u.link.counters with puts := bump u.link.counters.puts }).reportPut

/-- The state of a GET that is counted and reported (R138, R162). -/
def State.getReported (s : State) (dt : Nat) : State :=
  let u := State.newSelect (State.endSelect { s with line := s.line.elapse dt })
  (u.setLinkCounters { u.link.counters with gets := bump u.link.counters.gets }).reportGet

theorem exec_put_ready {s : State} (h : s.pins.resetLow = false) (dt : Nat)
    (hb : (s.putReported dt).link.buffer = .empty) :
    exec (.put dt) s = done (State.shiftOut { s.putReported dt with
      link := { (s.putReported dt).link with buffer := .filling [], exchange := .put } } [0x00, 0x01]) := by
  show execPut dt s = _
  unfold execPut
  rw [State.elapse_running h]
  unfold State.putReported at *
  dsimp only at *
  rw [h, if_neg (by decide), hb]

theorem exec_put_busy {s : State} (h : s.pins.resetLow = false) (dt : Nat) {kind tag : Byte} {body : List Byte}
    (hb : (s.putReported dt).link.buffer = .held kind tag body) :
    exec (.put dt) s = done (((s.putReported dt).setLinkCounters { (s.putReported dt).link.counters with
      busyReplies := bump (s.putReported dt).link.counters.busyReplies }).shiftOut [0x00, 0x02]) := by
  show execPut dt s = _
  unfold execPut
  rw [State.elapse_running h]
  unfold State.putReported at *
  dsimp only at *
  rw [h, if_neg (by decide), hb]

theorem exec_get_counted {s : State} (h : s.pins.resetLow = false) (dt : Nat) :
    exec (.get dt) s = done (((s.getReported dt).setExchange .getAck).shiftOut [0x00]) := by
  show execGet dt s = _
  unfold execGet
  rw [State.elapse_running h]
  exact if_neg (by rw [h]; decide)

theorem exec_badExchange_counted {s : State} (h : s.pins.resetLow = false) (dt : Nat) :
    exec (.badExchange dt) s = done (State.shiftOut
      (let u := State.newSelect (State.endSelect { s with line := s.line.elapse dt })
      u.setLinkCounters { u.link.counters with badExchange := bump u.link.counters.badExchange }) [0x00]) := by
  show execBadExchange dt s = _
  unfold execBadExchange
  rw [State.elapse_running h]
  exact if_neg (by rw [h]; decide)

/-- Where no message is FILLING, an exchange code begins a select period and changes the line's time alone. -/
theorem State.newSelect_eq {s : State} (h : ∀ bs, s.link.buffer ≠ .filling bs) (dt : Nat) :
    State.newSelect (State.endSelect { s with line := s.line.elapse dt }) = { s with
      line := s.line.elapse dt, link := { s.link with exchange := .none }, pins := { s.pins with sdo := [] } } := by
  rw [State.endSelect_of_not_filling (by exact h)]
  rfl

theorem State.putReported_eq {s : State} (h : ∀ bs, s.link.buffer ≠ .filling bs) (dt : Nat) :
    s.putReported dt = State.reportPut { s with
      line := s.line.elapse dt
      link := { s.link with
        exchange := .none, counters := { s.link.counters with puts := bump s.link.counters.puts } }
      pins := { s.pins with sdo := [] } } := by
  unfold State.putReported
  rw [State.newSelect_eq h]
  rfl

theorem State.getReported_eq {s : State} (h : ∀ bs, s.link.buffer ≠ .filling bs) (dt : Nat) :
    s.getReported dt = State.reportGet { s with
      line := s.line.elapse dt
      link := { s.link with
        exchange := .none, counters := { s.link.counters with gets := bump s.link.counters.gets } }
      pins := { s.pins with sdo := [] } } := by
  unfold State.getReported
  rw [State.newSelect_eq h]
  rfl

end Sys2Proof.Machine

namespace Sys2Proof

open Machine

/-- Settles O6: the report leaves AWAKE, and the buffer is EMPTY or HELD. -/
theorem putAnswersReadyOrBusy : Obligations.PutAnswersReadyOrBusy := by
  intro dt s h hp
  refine ⟨fun hb => ?_, fun kind tag body hb => ?_⟩
  · have he := (State.putReported_eq (fun bs => by rw [hb]; simp) dt).trans (State.reportPut_present hp)
    rw [exec_put_ready h dt (by rw [he]; exact hb), he]
    rfl
  · have he := (State.putReported_eq (fun bs => by rw [hb]; simp) dt).trans (State.reportPut_present hp)
    rw [exec_put_busy h dt (by rw [he]; exact hb), he]
    rfl

/-- Settles O7: the count and the report of the exchange code, by presence and by the buffer it finds. -/
theorem getIsCountedAndReturnsTheHost : Obligations.GetIsCountedAndReturnsTheHost := by
  refine ⟨fun dt s h hf => ⟨fun hp => ?present, ?bad, fun hp ho hn hr => ?returns, fun hp hb ho hn hr => ?putReturns⟩,
    fun dt s bs h hb => ?filling⟩
  case present =>
    rw [exec_get_counted h, State.getReported_eq hf, State.reportGet_present (by exact hp)]
    rfl
  case bad =>
    rw [exec_badExchange_counted h, State.newSelect_eq hf]
    rfl
  case returns =>
    rw [exec_get_counted h, State.getReported_eq hf, State.reportGet_returns (by exact hp),
      State.hostReturns_appends (by exact ho) (by exact hn) (by exact hr)]
    exact ⟨_, rfl, rfl, rfl, rfl, rfl, rfl, rfl, rfl⟩
  case putReturns =>
    have he := (State.putReported_eq hf dt).trans ((State.reportPut_returns (by exact hp)).trans
      (State.hostReturns_appends (by exact ho) (by exact hn) (by exact hr)))
    rw [exec_put_ready h dt (by rw [he]; exact hb), he]
    exact ⟨_, rfl, rfl, rfl, rfl, rfl, rfl⟩
  case filling =>
    obtain ⟨h1, h2⟩ := State.endSelect_of_filling (s := { s with line := s.line.elapse dt }) hb
    obtain ⟨p1, p2⟩ := State.reportPut_linkKept (State.setLinkCounters
      (State.newSelect (State.endSelect { s with line := s.line.elapse dt }))
      { (State.newSelect (State.endSelect { s with line := s.line.elapse dt })).link.counters with
        puts := bump (State.newSelect
          (State.endSelect { s with line := s.line.elapse dt })).link.counters.puts })
    obtain ⟨g1, g2⟩ := State.reportGet_linkKept (State.setLinkCounters
      (State.newSelect (State.endSelect { s with line := s.line.elapse dt }))
      { (State.newSelect (State.endSelect { s with line := s.line.elapse dt })).link.counters with
        gets := bump (State.newSelect
          (State.endSelect { s with line := s.line.elapse dt })).link.counters.gets })
    have hc : (State.newSelect (State.endSelect { s with line := s.line.elapse dt })).link.counters =
        { s.link.counters with rejectShort := bump s.link.counters.rejectShort } := h2
    have hpb : (s.putReported dt).link.buffer = .empty := p1.trans h1
    refine ⟨_, _, _, exec_get_counted h dt, exec_badExchange_counted h dt, exec_put_ready h dt hpb, g1.trans h1, h1,
      rfl, g2.trans ?_, ?_, p2.trans ?_⟩
    · exact congrArg (fun c : LinkCounters => { c with gets := bump c.gets }) hc
    · exact congrArg (fun c : LinkCounters => { c with badExchange := bump c.badExchange }) hc
    · exact congrArg (fun c : LinkCounters => { c with puts := bump c.puts }) hc

end Sys2Proof
end

section
/-! Dispatch: the refusal of the first failed check, and the kinds that are no request kinds (R142, R143). -/

namespace Sys2Proof.Machine

/-- A request whose message is refused at dispatch has no effect beyond its reply, whatever its block would do. -/
theorem State.dispatch_refused {s : State} {k : ReqKind} {tag : Byte} {body : List Byte} {st : Status}
    (hb : s.link.buffer = .held k.code tag body) (hst : s.emptyBuffer.dispatchStatus k tag body = some st)
    (act : Byte → List Byte → State → State) :
    s.dispatch k act = s.emptyBuffer.refuseDispatch k.replyCode tag [st.code] := by
  unfold State.dispatch
  rw [hb]
  simp only [if_true, hst]

/-- Each request's row dispatches its kind. -/
theorem exec_requestRow {s : State} {k : ReqKind} {tag : Byte} {body : List Byte}
    (hb : s.link.buffer = .held k.code tag body) :
    ∃ act, exec (requestRow k body) s = done (s.dispatch k act) := by
  cases k
  case reset =>
    by_cases h1 : body = [1]
    · subst h1
      refine ⟨fun tag body t => if byteAt body 0 = 1 then t.resetLineSide tag else t.refuse .reset tag .badField, ?_⟩
      change execResetLineSide s = _
      unfold execResetLineSide
      rw [hb]
      rfl
    · refine ⟨fun tag body t =>
        if byteAt body 0 = 0 then t.fullReset .request else t.refuse .reset tag .badField, ?_⟩
      have hrow : requestRow .reset body = .resetPart := if_neg h1
      rw [hrow]
      change execResetPart s = _
      unfold execResetPart
      rw [hb]
      split
      · next h => cases h; exact absurd rfl h1
      · rfl
  all_goals exact ⟨_, rfl⟩

theorem exec_requestRow_refused {s : State} {k : ReqKind} {tag : Byte} {body : List Byte} {st : Status}
    (hb : s.link.buffer = .held k.code tag body) (hst : s.emptyBuffer.dispatchStatus k tag body = some st) :
    exec (requestRow k body) s = done (s.emptyBuffer.refuseDispatch k.replyCode tag [st.code]) := by
  obtain ⟨act, h⟩ := exec_requestRow hb
  rw [h, State.dispatch_refused hb hst]

/-- A refusal is appended while there is room (R143). -/
theorem State.refuseDispatch_room {s : State} (h : s.link.occupancy < 32) (k tag : Byte) (body : List Byte) :
    s.refuseDispatch k tag body = s.append (.reply k tag body []) := if_pos h

/-- A full link fails the last check, if no earlier one fails (R142). -/
theorem State.dispatchStatus_full {s : State} (h : 32 ≤ s.link.occupancy) (k : ReqKind) (tag : Byte)
    (body : List Byte) : ∃ st, s.dispatchStatus k tag body = some st := by
  unfold State.dispatchStatus
  rw [if_pos h]
  split_ifs <;> exact ⟨_, rfl⟩

theorem isRequestKind_eq_false {b : Byte} (h : ∀ k : ReqKind, k.code ≠ b) : isRequestKind b = false := by
  rw [isRequestKind, List.any_eq_false]
  intro k _ hk
  exact h k (beq_iff_eq.mp hk)

end Sys2Proof.Machine

namespace Sys2Proof

open Machine

/-- Settles O12: the checks of `State.dispatchStatus`, one after another. -/
theorem dispatchRefusesByTheFirstFailedCheck : Obligations.DispatchRefusesByTheFirstFailedCheck := by
  intro s k tag body hb
  refine ⟨fun status hr hst => ?_, fun hfull => ?_⟩
  · have hfails : ∃ st : Status, st.code = status ∧ s.emptyBuffer.dispatchStatus k tag body = some st := by
      unfold State.dispatchStatus
      rcases hst with ⟨ht, rfl⟩ | ⟨ht, hl, rfl⟩ | ⟨ht, hl, hd, rfl⟩ | ⟨ht, hl, hd, hn, rfl⟩
      · exact ⟨.badField, rfl, if_pos ht⟩
      · exact ⟨.badLength, rfl, by rw [if_neg ht, hl]; rfl⟩
      · have hd' : s.emptyBuffer.link.holdsTag tag = true := hd
        exact ⟨.duplicateTag, rfl, by rw [if_neg ht, hl, hd']; rfl⟩
      · have hd' : s.emptyBuffer.link.holdsTag tag = false := hd
        have hn' : 8 ≤ s.emptyBuffer.link.table.length := hn
        exact ⟨.tableFull, rfl, by rw [if_neg ht, hl, hd', if_pos hn']; rfl⟩
    obtain ⟨st, rfl, hcheck⟩ := hfails
    rw [exec_requestRow_refused hb hcheck, State.refuseDispatch_room (by exact hr)]
    rfl
  · have hf : s.emptyBuffer.link.occupancy = 32 := hfull
    obtain ⟨st, hst⟩ := State.dispatchStatus_full (s := s.emptyBuffer) (by omega) k tag body
    rw [exec_requestRow_refused hb hst]
    unfold State.refuseDispatch
    rw [if_neg (by omega)]
    rfl

/-- Settles O13: the message is HELD, and no request kind has its kind byte. -/
theorem unknownKindIsRefused : Obligations.UnknownKindIsRefused := by
  intro s kind tag body hb hk hr
  change execUnknownKindRequest s = _
  unfold execUnknownKindRequest
  rw [hb]
  simp only [isRequestKind_eq_false hk, Bool.false_eq_true, if_false]
  rw [State.refuseDispatch_room (by exact hr)]
  split <;> rfl

end Sys2Proof
end

section
/-! The steps of a GET that remove and send entries: the ACK (R147) and the sending step (R149). -/

namespace Sys2Proof.Machine

theorem exec_getAck {s : State} (h : s.link.exchange = .getAck) (ack : Byte) :
    exec (.getAck ack) s = done (((s.ackStep ack).setExchange .getFlags).shiftOut [0x00]) :=
  if_pos h

theorem exec_getSendingStep {s : State} (h : s.link.exchange = .getMarker) :
    exec .getSendingStep s = done (s.sendingStep.setExchange .none) := by
  change execGetSendingStep s = _
  unfold execGetSendingStep
  rw [h]

/-! ### The ACK -/

/-- The place of the first member that meets `p`, behind members that do not. -/
theorem findIdx?_split {α : Type} (p : α → Bool) (old rest : List α) (e : α)
    (ho : ∀ x ∈ old, p x = false) (he : p e = true) : (old ++ e :: rest).findIdx? p = some old.length := by
  rw [List.findIdx?_append, List.findIdx?_eq_none_iff.mpr ho, List.findIdx?_cons, if_pos he]
  simp

/-- An ACK of a SENT entry removes it and the older ones (R147). -/
theorem State.ackStep_removes {s : State} {ack : Byte} {old rest : List OutEntry} {e : OutEntry}
    (h : s.link.outbox = old ++ e :: rest) (ho : ∀ x ∈ old, x.seq ≠ ack) (hs : e.sent = true)
    (hq : e.seq = ack) (hd : s.presence.dozeReply = none) :
    s.ackStep ack = State.drainNotices { s with
      link := { s.link with outbox := rest, lastRemoved := ack }
      pool := s.pool.release .outbox (((old ++ [e]).map (fun x => x.msg.cells)).sum) } := by
  have hi : s.link.outbox.findIdx? (fun e => e.sent && e.seq == ack) = some old.length := by
    rw [h]
    exact findIdx?_split _ old rest e (fun x hx => by simp [ho x hx]) (by simp [hs, hq])
  have htake : s.link.outbox.take (old.length + 1) = old ++ [e] := by simp [h, List.take_append]
  have hdrop : s.link.outbox.drop (old.length + 1) = rest := by simp [h, List.drop_append]
  have hp : s.presence.acknowledge (old ++ [e]) = s.presence := by
    unfold Presence.acknowledge
    rw [hd]
  unfold State.ackStep
  rw [hi]
  change s.removeAcked (old.length + 1) ack = _
  unfold State.removeAcked
  simp only [htake, hdrop, hp]
  rfl

/-- An ACK that names no SENT entry removes none (R147). -/
theorem State.ackStep_names_none {s : State} {ack : Byte} (h : ∀ x ∈ s.link.outbox, x.sent = true → x.seq ≠ ack) :
    s.ackStep ack = if ack = s.link.lastRemoved then s else s.reject .badAck ack := by
  have hi : s.link.outbox.findIdx? (fun e => e.sent && e.seq == ack) = none := by
    rw [List.findIdx?_eq_none_iff]
    intro x hx
    cases hs : x.sent
    · rfl
    · simp [h x hx hs]
  unfold State.ackStep
  rw [hi]

/-! ### The pending set -/

theorem State.drainNotices_empty {s : State} (h : s.link.notices = []) : s.drainNotices = s := by
  unfold State.drainNotices
  rw [h]
  rfl

theorem State.drainNotices_full {s : State} (h : 32 ≤ s.link.occupancy) : s.drainNotices = s := by
  unfold State.drainNotices
  cases s.link.notices with
  | nil => rfl
  | cons n ns => exact if_neg (by omega)

theorem State.drainNotices_cons {s : State} {n : Notice} {ns : List Notice} (h : s.link.notices = n :: ns)
    (hr : s.link.occupancy < 32) :
    s.drainNotices = State.drainNotices
      (State.append { s with link := { s.link with notices := ns } } (.notice n)) := by
  have hcons : s.drainNotices = State.moveNotices
      (State.append { s with link := { s.link with notices := ns } } (.notice n)) ns := by
    unfold State.drainNotices
    rw [h]
    exact if_pos hr
  rw [hcons, State.drainNotices, State.append_notices]

/-! ### The sending step -/

theorem State.sendingStep_held {s : State} (h : 8 ≤ s.link.sentCount) : s.sendingStep = s.shiftOut [0x02] :=
  if_pos h

theorem State.sendingStep_empty {s : State} (h : s.link.sentCount < 8) (hs : ∀ x ∈ s.link.outbox, x.sent = true) :
    s.sendingStep = s.shiftOut [0x00] := by
  have hf : s.link.outbox.find? (fun e => !e.sent) = none :=
    List.find?_eq_none.mpr fun x hx => by simp [hs x hx]
  unfold State.sendingStep
  rw [if_neg (by omega), hf]

/-- The oldest UNSENT entry is shifted out and becomes SENT (R149). -/
theorem State.sendingStep_sends {s : State} (h : s.link.sentCount < 8) {old rest : List OutEntry} {e : OutEntry}
    (hout : s.link.outbox = old ++ e :: rest) (ho : ∀ x ∈ old, x.sent = true) (he : e.sent = false) :
    s.sendingStep = State.shiftOut
      { s with link := { s.link with outbox := old ++ { e with sent := true } :: rest } } e.bytes := by
  have ho' : ∀ x ∈ old, (fun e : OutEntry => !e.sent) x = false := fun x hx => by simp [ho x hx]
  have he' : (fun e : OutEntry => !e.sent) e = true := by simp [he]
  unfold State.sendingStep
  rw [if_neg (by omega), hout, find?_split _ old rest e ho' he', changeFirst_split _ _ old rest e ho' he']

end Sys2Proof.Machine

namespace Sys2Proof

open Machine

/-- Settles O9: the ACK names a SENT entry or none; then the pending set moves one member after another. -/
theorem ackRemovesOrIsIgnored : Obligations.AckRemovesOrIsIgnored := by
  intro s ack hx
  refine ⟨fun old rest e hout ho hs hq hn _ hd => ?removesQuietly, fun hnone hl => ?again, fun hnone hl => ?bad,
    fun old rest e hout ho hs hq hd => ?removes, fun u => ⟨fun h => ?stays, fun n ns hn hr => ?moves⟩,
    fun u v m hv => ?append⟩
  case removesQuietly =>
    rw [exec_getAck hx, State.ackStep_removes hout ho hs hq hd, State.drainNotices_empty (by exact hn)]
    rfl
  case again =>
    rw [exec_getAck hx, State.ackStep_names_none hnone, if_pos hl]
    rfl
  case bad =>
    rw [exec_getAck hx, State.ackStep_names_none hnone, if_neg hl]
    rfl
  case removes =>
    rw [exec_getAck hx, State.ackStep_removes hout ho hs hq hd]
    rfl
  case stays =>
    exact h.elim State.drainNotices_full State.drainNotices_empty
  case moves =>
    exact State.drainNotices_cons hn hr
  case append =>
    subst hv
    refine ⟨fun h => ?_, fun h => ?_⟩
    · rw [State.append_eq, if_neg h]
    · rw [State.append_eq, if_pos h]
      rfl

/-- Settles O11: eight entries are SENT, or the oldest UNSENT entry is shifted out, or there is none. -/
theorem sendingStepSendsTheOldestUnsent : Obligations.SendingStepSendsTheOldestUnsent := by
  intro s hx
  refine ⟨fun old rest e hout ho he h => ?_, fun hs h => ?_, fun h => ?_⟩
  · rw [exec_getSendingStep hx, State.sendingStep_sends h hout ho he]
    rfl
  · rw [exec_getSendingStep hx, State.sendingStep_empty h hs]
    rfl
  · rw [exec_getSendingStep hx, State.sendingStep_held h]
    rfl

end Sys2Proof
end

section
/-! RESEND (R148): which entries keep their place, and which notices are merged (R152). -/

namespace Sys2Proof.Machine

theorem exec_resend_set {s : State} (h : s.link.exchange = .getFlags) {flags : Byte}
    (hf : flags.getLsbD 0 = true) :
    exec (.resend flags) s = done ((s.resend.setExchange .getMarker).shiftOut [0x00]) := by
  change execResend flags s = _
  unfold execResend
  rw [if_pos h, if_pos hf]

theorem exec_resend_clear {s : State} (h : s.link.exchange = .getFlags) {flags : Byte}
    (hf : flags.getLsbD 0 = false) :
    exec (.resend flags) s = done ((s.setExchange .getMarker).shiftOut [0x00]) := by
  change execResend flags s = _
  unfold execResend
  rw [if_pos h, hf]
  rfl

/-- An entry made UNSENT again. -/
def OutEntry.unsent (e : OutEntry) : OutEntry := { e with sent := false }

/-- An entry whose number falls by the notices removed ahead of it. -/
def OutEntry.lower (n : Nat) (e : OutEntry) : OutEntry := { e with seq := e.seq - BitVec.ofNat 8 n }

/-- The kind and subject of the notice that an entry carries, SENT or not. -/
def OutEntry.noticeId (e : OutEntry) : Option NoticeId :=
  match e.msg with
  | .notice n => some n.id
  | .reply _ _ _ _ => none

theorem OutEntry.lower_zero (e : OutEntry) : e.lower 0 = e := by
  unfold OutEntry.lower
  simp

theorem OutEntry.unsentId_unsent (e : OutEntry) : e.unsent.unsentId = e.noticeId := by
  unfold OutEntry.unsentId OutEntry.noticeId OutEntry.unsent
  cases e.msg <;> rfl

theorem unsentIds_unsent (l : List OutEntry) :
    (l.map OutEntry.unsent).filterMap OutEntry.unsentId = l.filterMap OutEntry.noticeId := by
  rw [List.filterMap_map]
  exact congrArg (fun f => l.filterMap f) (funext OutEntry.unsentId_unsent)

/-- What a RESEND leaves when its two steps leave `a` and `m`. -/
theorem State.resend_of {s : State} {a : List OutEntry × List Notice} {m : Merging}
    (h1 : absorbPending (s.link.outbox.map OutEntry.unsent) s.link.notices = a)
    (h2 : a.1.foldl (Merging.take s.presence.dozeReply) ⟨[], 0, s.presence.dozeReply⟩ = m) :
    s.resend = State.drainNotices
      { s with
        link := { s.link with
          outbox := m.kept
          notices := a.2
          nextSeq := s.link.nextSeq - BitVec.ofNat 8 m.removed
          counters := { s.link.counters with resends := bump s.link.counters.resends } }
        presence := { s.presence with dozeReply := m.doze } } := by
  subst h1 h2
  rfl

/-! ### The pending set -/

theorem not_isUnsentNotice {out : List OutEntry} {i : NoticeId} (h : i ∉ out.filterMap OutEntry.unsentId) :
    ∀ x ∈ out, x.isUnsentNotice i = false := by
  rw [← any_isUnsentNotice_iff, Bool.not_eq_true, List.any_eq_false] at h
  exact fun x hx => Bool.not_eq_true _ ▸ h x hx

/-- Pending members unlike every notice of the outbox stay in the set. -/
theorem absorbPending_skip {out : List OutEntry} {before : List Notice} (after : List Notice)
    (h : ∀ n ∈ before, n.id ∉ out.filterMap OutEntry.unsentId) :
    absorbPending out (before ++ after) =
      ((absorbPending out after).1, before ++ (absorbPending out after).2) := by
  induction before with
  | nil => rfl
  | cons n ns ih =>
    rw [List.cons_append, absorbPending, if_neg (by rw [any_isUnsentNotice_iff]; exact h n (by simp)),
      ih fun k hk => h k (by simp [hk])]
    rfl

theorem absorbPending_none {out : List OutEntry} {ns : List Notice}
    (h : ∀ n ∈ ns, n.id ∉ out.filterMap OutEntry.unsentId) : absorbPending out ns = (out, ns) := by
  have hs := absorbPending_skip [] h
  rw [List.append_nil] at hs
  rw [hs]
  simp [absorbPending]

/-- Changing the last member that meets `p` changes the one ahead of members that do not. -/
theorem changeLast_split {α : Type} (p : α → Bool) (f : α → α) (old rest : List α) (e : α)
    (hr : ∀ x ∈ rest, p x = false) (he : p e = true) :
    changeLast p f (old ++ e :: rest) = old ++ f e :: rest := by
  unfold changeLast
  rw [List.reverse_append, List.reverse_cons, List.append_assoc, List.singleton_append,
    changeFirst_split p f rest.reverse old.reverse e (fun x hx => hr x (by simpa using hx)) he]
  simp

theorem OutEntry.mergeNotice_of {e : OutEntry} {m : Notice} (h : e.msg = .notice m) (n : Notice) :
    e.mergeNotice n = { e with msg := .notice (m.merge n) } := by
  unfold OutEntry.mergeNotice
  rw [h]

theorem OutEntry.unsentId_of {e : OutEntry} {m : Notice} (hs : e.sent = false) (h : e.msg = .notice m) :
    e.unsentId = some m.id := by
  unfold OutEntry.unsentId
  rw [h, hs]
  rfl

/-- A pending member alike to one notice of the outbox is merged into it (R152, step 1). -/
theorem absorbPending_one {a c : List OutEntry} {x : OutEntry} {m p : Notice} {before after : List Notice}
    (hs : x.sent = false) (hx : x.msg = .notice m) (hm : m.id = p.id)
    (hd : ((a ++ x :: c).filterMap OutEntry.unsentId).Nodup)
    (hn : ∀ k ∈ before ++ after, k.id ∉ (a ++ x :: c).filterMap OutEntry.unsentId) :
    absorbPending (a ++ x :: c) (before ++ p :: after) =
        (a ++ { x with msg := .notice (m.merge p) } :: c, before ++ after) ∧
      (a ++ { x with msg := .notice (m.merge p) } :: c).filterMap OutEntry.unsentId =
        (a ++ x :: c).filterMap OutEntry.unsentId := by
  have hxid : x.unsentId = some p.id := hm ▸ OutEntry.unsentId_of hs hx
  have hxn : x.isUnsentNotice p.id = true := (OutEntry.isUnsentNotice_iff _ _).mpr hxid
  have hc : ∀ z ∈ c, z.isUnsentNotice p.id = false := by
    refine not_isUnsentNotice fun hi => ?_
    rw [List.filterMap_append, List.filterMap_cons_some hxid] at hd
    exact (List.nodup_cons.mp hd.of_append_right).1 hi
  have hany : (a ++ x :: c).any (OutEntry.isUnsentNotice p.id) = true :=
    List.any_eq_true.mpr ⟨x, by simp, hxn⟩
  have hchange : changeLast (OutEntry.isUnsentNotice p.id) (OutEntry.mergeNotice p) (a ++ x :: c) =
      a ++ { x with msg := .notice (m.merge p) } :: c := by
    rw [changeLast_split _ _ a c x hc hxn, OutEntry.mergeNotice_of hx]
  have hids : (a ++ { x with msg := .notice (m.merge p) } :: c).filterMap OutEntry.unsentId =
      (a ++ x :: c).filterMap OutEntry.unsentId := by
    rw [← hchange]
    exact filterMap_changeLast _ _ _ _ fun e he => OutEntry.mergeNotice_unsentId p e he
  refine ⟨?_, hids⟩
  rw [absorbPending_skip _ fun k hk => hn k (by simp [hk]), absorbPending, if_pos hany, hchange,
    absorbPending_none fun k hk => by rw [hids]; exact hn k (by simp [hk])]

/-! ### The entries, one after another -/

theorem Merging.take_kept {doze : Option Byte} {m : Merging} {e : OutEntry}
    (h : ∀ i, e.noticeId = some i → i ∉ m.kept.filterMap OutEntry.unsentId) :
    m.take doze e = ⟨m.kept ++ [e.lower m.removed], m.removed,
      if doze = some e.seq then some (e.seq - BitVec.ofNat 8 m.removed) else m.doze⟩ := by
  obtain ⟨q, sent, msg⟩ := e
  cases msg with
  | reply k tag inline chain => rfl
  | notice n => exact if_neg (by rw [any_isUnsentNotice_iff]; exact h n.id rfl)

theorem Merging.take_merged {doze : Option Byte} {m : Merging} {e : OutEntry} {n : Notice}
    (he : e.msg = .notice n) (h : m.kept.any (OutEntry.isUnsentNotice n.id) = true) :
    m.take doze e = { m with
      kept := changeFirst (OutEntry.isUnsentNotice n.id) (OutEntry.mergeNotice n) m.kept
      removed := m.removed + 1 } := by
  obtain ⟨q, sent, msg⟩ := e
  cases he
  exact if_pos h

theorem OutEntry.unsentId_eq_noticeId {e : OutEntry} (h : e.sent = false) : e.unsentId = e.noticeId := by
  obtain ⟨q, sent, msg⟩ := e
  cases h
  cases msg <;> rfl

/-- Entries unlike each other and unlike those kept are kept, their numbers lower by the notices removed. -/
theorem Merging.foldl_take (doze : Option Byte) (es : List OutEntry) (m : Merging)
    (hs : ∀ e ∈ es, e.sent = false) (hd : ((m.kept ++ es).filterMap OutEntry.unsentId).Nodup) :
    es.foldl (Merging.take doze) m = ⟨m.kept ++ es.map (OutEntry.lower m.removed), m.removed,
      if ∃ e ∈ es, doze = some e.seq then doze.map (fun d => d - BitVec.ofNat 8 m.removed) else m.doze⟩ := by
  induction es generalizing m with
  | nil => simp
  | cons e es ih =>
    have he : ∀ i, e.noticeId = some i → i ∉ m.kept.filterMap OutEntry.unsentId := by
      intro i hi hk
      rw [← OutEntry.unsentId_eq_noticeId (hs e (by simp))] at hi
      rw [List.filterMap_append, List.filterMap_cons_some hi] at hd
      exact (List.nodup_append.mp hd).2.2 i hk i (by simp) rfl
    have hl : (e.lower m.removed).unsentId = e.unsentId := rfl
    rw [List.foldl_cons, Merging.take_kept he, ih _ (fun x hx => hs x (by simp [hx]))
      (by simpa only [List.filterMap_append, List.filterMap_cons, List.filterMap_nil, hl, List.append_assoc,
        List.singleton_append, List.cons_append, List.nil_append] using hd)]
    congr 1
    · simp
    have hcons : (∃ x ∈ e :: es, doze = some x.seq) ↔ doze = some e.seq ∨ ∃ x ∈ es, doze = some x.seq := by
      simp
    by_cases htail : ∃ x ∈ es, doze = some x.seq
    · rw [if_pos htail, if_pos (hcons.mpr (.inr htail))]
    · rw [if_neg htail]
      by_cases hhead : doze = some e.seq
      · rw [if_pos (hcons.mpr (.inl hhead)), hhead]
        exact if_pos rfl
      · rw [if_neg fun h => (hcons.mp h).elim hhead htail]
        exact if_neg hhead

/-- Entries all unlike each other keep their places and numbers. -/
theorem Merging.foldl_distinct (doze : Option Byte) {es : List OutEntry} (hs : ∀ e ∈ es, e.sent = false)
    (hd : (es.filterMap OutEntry.unsentId).Nodup) :
    es.foldl (Merging.take doze) ⟨[], 0, doze⟩ = ⟨es, 0, doze⟩ := by
  rw [Merging.foldl_take doze es _ hs (by simpa using hd)]
  have hl : OutEntry.lower 0 = id := funext OutEntry.lower_zero
  simp [hl]

/-- Of two notices alike the older takes the newer, and the numbers behind it fall by one (R152, step 2). -/
theorem Merging.foldl_pair (doze : Option Byte) {a b c : List OutEntry} {x y : OutEntry} {m n : Notice}
    (hs : ∀ e ∈ a ++ x :: (b ++ c), e.sent = false) (hx : x.msg = .notice m) (hy : y.msg = .notice n)
    (hm : m.id = n.id) (hd : ((a ++ x :: (b ++ c)).filterMap OutEntry.unsentId).Nodup) :
    (a ++ x :: (b ++ y :: c)).foldl (Merging.take doze) ⟨[], 0, doze⟩ =
      ⟨a ++ { x with msg := .notice (m.merge n) } :: b ++ c.map (OutEntry.lower 1), 1,
        if ∃ e ∈ c, doze = some e.seq then doze.map (fun d => d - BitVec.ofNat 8 1) else doze⟩ := by
  have hxid : x.unsentId = some n.id := hm ▸ OutEntry.unsentId_of (hs x (by simp)) hx
  have hxn : x.isUnsentNotice n.id = true := (OutEntry.isUnsentNotice_iff _ _).mpr hxid
  have ha : ∀ z ∈ a, z.isUnsentNotice n.id = false := by
    refine not_isUnsentNotice fun hi => ?_
    rw [List.filterMap_append, List.filterMap_cons_some hxid] at hd
    exact (List.nodup_append.mp hd).2.2 _ hi _ (by simp) rfl
  have hsplit : a ++ x :: (b ++ c) = (a ++ x :: b) ++ c := by simp
  have hchange : changeFirst (OutEntry.isUnsentNotice n.id) (OutEntry.mergeNotice n) (a ++ x :: b) =
      a ++ { x with msg := .notice (m.merge n) } :: b := by
    rw [changeFirst_split _ _ a b x ha hxn, OutEntry.mergeNotice_of hx]
  have hids : (a ++ { x with msg := .notice (m.merge n) } :: b).filterMap OutEntry.unsentId =
      (a ++ x :: b).filterMap OutEntry.unsentId := by
    rw [← hchange]
    exact filterMap_changeFirst _ _ _ _ fun e he => OutEntry.mergeNotice_unsentId n e he
  rw [hsplit] at hs hd
  have hfirst : (a ++ x :: b).foldl (Merging.take doze) ⟨[], 0, doze⟩ = ⟨a ++ x :: b, 0, doze⟩ := by
    rw [List.filterMap_append] at hd
    exact Merging.foldl_distinct doze (fun e he => hs e (by simp only [List.mem_append] at *; exact .inl he))
      hd.of_append_left
  have hwhole : a ++ x :: (b ++ y :: c) = (a ++ x :: b) ++ y :: c := by simp
  rw [hwhole, List.foldl_append, hfirst, List.foldl_cons,
    Merging.take_merged hy (List.any_eq_true.mpr ⟨x, by simp, hxn⟩), hchange]
  refine Merging.foldl_take doze c _ (fun e he => hs e (List.mem_append.mpr (.inr he))) ?_
  rw [List.filterMap_append, hids, ← List.filterMap_append]
  exact hd

/-! ### The RESEND -/

/-- Where no two notices are alike, every entry keeps its place, number and body. -/
theorem State.resend_distinct {s : State} (hd : (s.link.outbox.filterMap OutEntry.noticeId).Nodup)
    (hn : ∀ k ∈ s.link.notices, k.id ∉ s.link.outbox.filterMap OutEntry.noticeId) :
    s.resend = State.drainNotices { s with link := { s.link with
      outbox := s.link.outbox.map OutEntry.unsent
      counters := { s.link.counters with resends := bump s.link.counters.resends } } } := by
  rw [← unsentIds_unsent] at hd hn
  rw [State.resend_of (absorbPending_none hn)
    (Merging.foldl_distinct _ (fun e he => by obtain ⟨x, _, rfl⟩ := List.mem_map.mp he; rfl) hd)]
  simp

theorem sent_of_mem_unsent {l : List OutEntry} : ∀ e ∈ l.map OutEntry.unsent, e.sent = false := by
  intro e he
  obtain ⟨x, _, rfl⟩ := List.mem_map.mp he
  rfl

/-- Two notices alike in the outbox. -/
theorem State.resend_pair {s : State} {a b c : List OutEntry} {x y : OutEntry} {m n : Notice}
    (hout : s.link.outbox = a ++ x :: (b ++ y :: c)) (hx : x.msg = .notice m) (hy : y.msg = .notice n)
    (hm : m.id = n.id) (hd : ((a ++ x :: (b ++ c)).filterMap OutEntry.noticeId).Nodup)
    (hn : ∀ k ∈ s.link.notices, k.id ∉ (a ++ x :: (b ++ c)).filterMap OutEntry.noticeId) :
    s.resend = State.drainNotices
      { s with
        link := { s.link with
          outbox := (a ++ { x with msg := .notice (m.merge n) } :: b).map OutEntry.unsent ++
            c.map (fun e => { e with sent := false, seq := e.seq - 1 })
          nextSeq := s.link.nextSeq - 1
          counters := { s.link.counters with resends := bump s.link.counters.resends } }
        presence := { s.presence with dozeReply :=
          if ∃ e ∈ c, s.presence.dozeReply = some e.seq then s.presence.dozeReply.map (fun d => d - 1)
          else s.presence.dozeReply } } := by
  have hids : ∀ k, k ∈ (a ++ x :: (b ++ y :: c)).filterMap OutEntry.noticeId →
      k ∈ (a ++ x :: (b ++ c)).filterMap OutEntry.noticeId := by
    have hxid : x.noticeId = some m.id := by unfold OutEntry.noticeId; rw [hx]
    have hyid : y.noticeId = some m.id := by unfold OutEntry.noticeId; rw [hy, hm]
    intro k
    simp only [List.filterMap_append, List.filterMap_cons_some hxid, List.filterMap_cons_some hyid,
      List.mem_append, List.mem_cons]
    tauto
  have habs : absorbPending (s.link.outbox.map OutEntry.unsent) s.link.notices =
      (s.link.outbox.map OutEntry.unsent, s.link.notices) :=
    absorbPending_none fun k hk hi => hn k hk (hids _ (by rwa [unsentIds_unsent, hout] at hi))
  have hfold := Merging.foldl_pair s.presence.dozeReply (a := a.map OutEntry.unsent) (b := b.map OutEntry.unsent)
    (c := c.map OutEntry.unsent) (x := x.unsent) (y := y.unsent) (m := m) (n := n)
    (by rw [← List.map_append, ← List.map_cons, ← List.map_append]; exact sent_of_mem_unsent)
    (by exact hx) (by exact hy) hm
    (by rw [← List.map_append, ← List.map_cons, ← List.map_append, unsentIds_unsent]; exact hd)
  rw [← List.map_cons, ← List.map_append, ← List.map_cons, ← List.map_append, ← hout] at hfold
  rw [State.resend_of habs hfold]
  refine congrArg State.drainNotices ?_
  have hdoze : (∃ e ∈ c.map OutEntry.unsent, s.presence.dozeReply = some e.seq) ↔
      ∃ e ∈ c, s.presence.dozeReply = some e.seq := by
    simp [OutEntry.unsent]
  simp only [if_congr hdoze rfl rfl, List.map_append, List.map_cons, List.map_map]
  rfl

/-- A pending member alike to a notice of the outbox. -/
theorem State.resend_absorb {s : State} {a c : List OutEntry} {x : OutEntry} {m p : Notice}
    {before after : List Notice} (hout : s.link.outbox = a ++ x :: c) (hx : x.msg = .notice m)
    (hm : m.id = p.id) (hns : s.link.notices = before ++ p :: after)
    (hd : (s.link.outbox.filterMap OutEntry.noticeId).Nodup)
    (hn : ∀ k ∈ before ++ after, k.id ∉ s.link.outbox.filterMap OutEntry.noticeId) :
    s.resend = State.drainNotices { s with link := { s.link with
      outbox := (a ++ { x with msg := .notice (m.merge p) } :: c).map OutEntry.unsent
      notices := before ++ after
      counters := { s.link.counters with resends := bump s.link.counters.resends } } } := by
  have hmap : s.link.outbox.map OutEntry.unsent =
      a.map OutEntry.unsent ++ x.unsent :: c.map OutEntry.unsent := by
    rw [hout, List.map_append, List.map_cons]
  rw [← unsentIds_unsent, hmap] at hd hn
  obtain ⟨habs, hids⟩ := absorbPending_one (x := x.unsent) rfl (by exact hx) hm hd hn
  have hout' : a.map OutEntry.unsent ++ { x.unsent with msg := .notice (m.merge p) } :: c.map OutEntry.unsent =
      (a ++ { x with msg := .notice (m.merge p) } :: c).map OutEntry.unsent := by
    rw [List.map_append, List.map_cons]
    rfl
  rw [hout'] at habs hids
  rw [← hmap, ← hns] at habs
  rw [State.resend_of habs (Merging.foldl_distinct _ sent_of_mem_unsent (by rw [hids]; exact hd))]
  simp

end Sys2Proof.Machine

namespace Sys2Proof

open Machine

/-- Settles O10: the two steps of R152, by which notices are alike. -/
theorem resendMakesUnsent : Obligations.ResendMakesUnsent := by
  intro s flags hx
  refine ⟨fun hf hnone hn => ?plain, fun ids hf hids hd hn => ?distinct,
    fun ids a b c x y m n hf hout hmx hny hm hids hd hn => ?pair,
    fun ids a c x m p before after hf hout hmx hm hns hids hd hn => ?absorb, fun hf => ?clear⟩
  case plain =>
    have hids : s.link.outbox.filterMap OutEntry.noticeId = [] := by
      rw [List.filterMap_eq_nil_iff]
      intro e he
      unfold OutEntry.noticeId
      split
      · next n hmsg => exact absurd hmsg (hnone e he n)
      · rfl
    rw [exec_resend_set hx hf, State.resend_distinct (by rw [hids]; exact List.nodup_nil) (by rw [hids]; simp),
      State.drainNotices_empty (by exact hn)]
    rfl
  case distinct =>
    subst hids
    rw [exec_resend_set hx hf, State.resend_distinct hd hn]
    rfl
  case pair =>
    subst hids
    rw [exec_resend_set hx hf, State.resend_pair hout hmx hny hm hd hn]
    rfl
  case absorb =>
    subst hids
    rw [exec_resend_set hx hf, State.resend_absorb hout hmx hm hns hd hn]
    rfl
  case clear =>
    rw [exec_resend_clear hx hf]
    rfl

end Sys2Proof
end

section
/-! The message of a PUT: HELD or rejected (R140, R141), and the posting of a notice (R152). -/

namespace Sys2Proof.Machine

/-! ### Bytes behind a prefix -/

theorem byteAt_append_right (pre suf : List Byte) (i : Nat) : byteAt (pre ++ suf) (pre.length + i) = byteAt suf i := by
  unfold byteAt
  rw [List.getD_append_right _ _ _ _ (by omega)]
  simp

theorem halfAt_append_right (pre suf : List Byte) : halfAt (pre ++ suf) pre.length = halfAt suf 0 := by
  unfold halfAt
  rw [← Nat.add_zero pre.length, byteAt_append_right, Nat.add_assoc, byteAt_append_right]

theorem halfAt_be16_append (v : Half) (suf : List Byte) : halfAt (be16 v ++ suf) 0 = v := halfAt_be16 v

/-! ### The message -/

/-- The bytes of a message that arrive at once in the PUT that began it (R139, R140). -/
theorem State.receiveMessage_first {s : State} (hb : s.link.buffer = .filling []) (hx : s.link.exchange = .put)
    (bs : List Byte) : s.receiveMessage bs = (s.judgeMessage bs).shiftOut (List.replicate (bs.length - 1) 0) := by
  unfold State.receiveMessage
  rw [hb, hx]
  rfl

/-- The bytes that a message's check covers. -/
def messageHead (kind tag : Byte) (body : List Byte) : List Byte :=
  [kind, tag] ++ be16 (BitVec.ofNat 16 body.length) ++ body

theorem length_messageHead (kind tag : Byte) (body : List Byte) :
    (messageHead kind tag body).length = 4 + body.length := by
  unfold messageHead be16
  simp
  omega

theorem halfAt_messageHead (kind tag : Byte) (body suf : List Byte) :
    halfAt (messageHead kind tag body ++ suf) 2 = BitVec.ofNat 16 body.length := by
  have h : messageHead kind tag body ++ suf =
      [kind, tag] ++ (be16 (BitVec.ofNat 16 body.length) ++ (body ++ suf)) := by simp [messageHead]
  rw [h]
  exact (halfAt_append_right [kind, tag] _).trans (halfAt_be16_append _ _)

theorem declared_message {kind tag : Byte} {body : List Byte} (hl : body.length ≤ 320) (suf : List Byte) :
    declared (messageHead kind tag body ++ suf) = body.length := by
  unfold declared
  rw [halfAt_messageHead, BitVec.toNat_ofNat]
  omega

/-- A whole message is judged by its check (R140). -/
theorem State.judgeMessage_whole (s : State) {kind tag : Byte} {body : List Byte} (hl : body.length ≤ 320)
    (check : Half) :
    s.judgeMessage (messageHead kind tag body ++ be16 check) =
      if crc (messageHead kind tag body) = check then
        { s with link := { s.link with buffer := .held kind tag body, exchange := .none } }
      else s.rejectMessage .check tag := by
  have hhead := length_messageHead kind tag body
  have hlen : (messageHead kind tag body ++ be16 check).length = 6 + body.length := by
    rw [List.length_append, hhead]
    simp [be16]
    omega
  have htake : (messageHead kind tag body ++ be16 check).take (4 + body.length) = messageHead kind tag body := by
    rw [← hhead, List.take_left]
  have hcheck : halfAt (messageHead kind tag body ++ be16 check) (4 + body.length) = check := by
    rw [← hhead, halfAt_append_right]
    exact halfAt_be16 check
  have hbody : ((messageHead kind tag body ++ be16 check).drop 4).take body.length = body :=
    List.take_left' rfl
  unfold State.judgeMessage
  rw [if_neg (by omega), declared_message hl, if_neg (by omega), if_neg (by omega), htake, hcheck, hbody]
  rfl

/-- A message whose last byte has not arrived stays FILLING (R140). -/
theorem State.judgeMessage_short (s : State) {bs : List Byte} (h : shortMessage bs = true) :
    s.judgeMessage bs = { s with link := { s.link with buffer := .filling bs } } := by
  simp only [shortMessage, Bool.or_eq_true, Bool.and_eq_true, decide_eq_true_eq] at h
  unfold State.judgeMessage
  by_cases h4 : bs.length < 4
  · rw [if_pos h4]
  · obtain ⟨hd, hl⟩ := h.resolve_left h4
    have hd' : ¬ 320 < declared bs := Nat.not_lt.mpr hd
    have hl' : bs.length < 6 + declared bs := hl
    rw [if_neg h4, if_neg hd', if_pos hl']

theorem State.judgeMessage_tooLong (s : State) {kind tag : Byte} {n : Half} (h : 320 < n.toNat) :
    s.judgeMessage ([kind, tag] ++ be16 n) = s.rejectMessage .tooLong tag := by
  have hn : declared ([kind, tag] ++ be16 n) = n.toNat :=
    congrArg BitVec.toNat ((halfAt_append_right [kind, tag] _).trans (halfAt_be16 n))
  unfold State.judgeMessage
  rw [hn, if_neg (by simp [be16]), if_pos h]
  rfl

theorem State.endSelect_eq {s : State} {bs : List Byte} (h : s.link.buffer = .filling bs) :
    s.endSelect = s.rejectMessage .short (receivedTag bs) := by
  unfold State.endSelect
  rw [h]

/-- What a rejection of a message changes, and the notice it posts where nothing stands in its way. -/
theorem State.rejectMessage_link (s : State) (r : RejectReason) (tag : Byte) :
    (s.rejectMessage r tag).link.buffer = .empty ∧ (s.rejectMessage r tag).link.exchange = .none ∧
      (s.rejectMessage r tag).link.counters = s.link.counters.reject r ∧
      (s.rejectMessage r tag).link.table = s.link.table ∧
      (s.link.outbox = [] → s.link.notices = [] → s.link.table = [] →
        (s.rejectMessage r tag).link.outbox = [⟨s.link.nextSeq, false, .notice (.linkReject r tag 1)⟩]) := by
  let u := State.setLinkCounters { s with link := { s.link with buffer := .empty, exchange := .none } }
    (s.link.counters.reject r)
  obtain ⟨h1, h2, h3, h4⟩ := u.post_linkKept (.linkReject r tag 1)
  refine ⟨h1, h2, h3, h4, fun ho hn ht => ?_⟩
  have ho' : u.link.outbox = [] := ho
  have hn' : u.link.notices = [] := hn
  have hr : u.link.occupancy < 32 := by
    change s.link.outbox.length + s.link.table.length < 32
    rw [ho, ht]
    decide
  have hpost : u.post (.linkReject r tag 1) = u.append (.notice (.linkReject r tag 1)) :=
    State.post_append u _ (by simp [ho']) (by simp [hn']) hr
  change (u.post (.linkReject r tag 1)).link.outbox = _
  rw [hpost, State.append_outbox, ho']
  rfl

/-! ### The posting -/

theorem OutEntry.isUnsentNotice_of {e : OutEntry} {m : Notice} {i : NoticeId} (hs : e.sent = false)
    (h : e.msg = .notice m) (hm : m.id = i) : e.isUnsentNotice i = true := by
  rw [OutEntry.isUnsentNotice_iff, OutEntry.unsentId_of hs h, hm]

theorem State.post_outbox {s : State} {n m : Notice} {a c : List OutEntry} {e : OutEntry}
    (hout : s.link.outbox = a ++ e :: c)
    (ha : ∀ x ∈ a, x.sent = false → ∀ k, x.msg = .notice k → k.id ≠ n.id) (hs : e.sent = false)
    (he : e.msg = .notice m) (hm : m.id = n.id) :
    s.post n = { s with link := { s.link with outbox := a ++ { e with msg := .notice (m.merge n) } :: c } } := by
  have heu := OutEntry.isUnsentNotice_of hs he hm
  have hany : s.link.outbox.any (OutEntry.isUnsentNotice n.id) = true :=
    List.any_eq_true.mpr ⟨e, by rw [hout]; simp, heu⟩
  unfold State.post
  rw [if_pos hany, hout, changeFirst_split _ _ a c e
    (fun x hx => OutEntry.isUnsentNotice_other n.id x (ha x hx)) heu, OutEntry.mergeNotice_of he]

theorem State.no_unsentNotice {s : State} {n : Notice}
    (h : ∀ x ∈ s.link.outbox, x.sent = false → ∀ k, x.msg = .notice k → k.id ≠ n.id) :
    s.link.outbox.any (OutEntry.isUnsentNotice n.id) = false := by
  rw [List.any_eq_false]
  exact fun x hx => by simp [OutEntry.isUnsentNotice_other n.id x (h x hx)]

theorem State.post_member {s : State} {n m : Notice} {a c : List Notice}
    (ho : ∀ x ∈ s.link.outbox, x.sent = false → ∀ k, x.msg = .notice k → k.id ≠ n.id)
    (hns : s.link.notices = a ++ m :: c) (ha : ∀ x ∈ a, x.id ≠ n.id) (hm : m.id = n.id) :
    s.post n = { s with link := { s.link with notices := a ++ m.merge n :: c } } := by
  have hany : s.link.notices.any (fun m => m.id = n.id) = true :=
    List.any_eq_true.mpr ⟨m, by rw [hns]; simp, by simp [hm]⟩
  unfold State.post
  rw [if_neg (by rw [State.no_unsentNotice ho]; decide), if_pos hany, hns,
    changeFirst_split _ _ a c m (fun x hx => by simp [ha x hx]) (by simp [hm])]

theorem State.post_joins {s : State} {n : Notice}
    (ho : ∀ x ∈ s.link.outbox, x.sent = false → ∀ k, x.msg = .notice k → k.id ≠ n.id)
    (hn : ∀ x ∈ s.link.notices, x.id ≠ n.id) (hr : 32 ≤ s.link.occupancy) :
    s.post n = { s with link := { s.link with notices := s.link.notices ++ [n] } } := by
  have hany : s.link.notices.any (fun m => m.id = n.id) = false := by
    rw [List.any_eq_false]
    exact fun x hx => by simp [hn x hx]
  unfold State.post
  rw [if_neg (by rw [State.no_unsentNotice ho]; decide), if_neg (by rw [hany]; decide), if_neg (by omega)]

theorem addMerged_eq (a b : Half) : addMerged a b = BitVec.ofNat 16 (min 65535 (a.toNat + b.toNat)) := by
  unfold addMerged
  split
  · next h =>
    apply BitVec.eq_of_toNat_eq
    rw [BitVec.toNat_add, BitVec.toNat_ofNat]
    omega
  · next h =>
    have hmin : min 65535 (a.toNat + b.toNat) = 65535 := by omega
    rw [hmin]
    rfl

/-- A notice that does not merge its counts takes the newer body whole. -/
theorem Notice.merge_new {old new : Notice} (hid : old.id = new.id) (hw : new.id ≠ .wakeCause)
    (hl : new.id ≠ .linkReject) : old.merge new = new := by
  cases new with
  | wakeCause c m t => exact absurd rfl hw
  | linkReject r g m => exact absurd rfl hl
  | _ => cases old <;> rfl

end Sys2Proof.Machine

namespace Sys2Proof

open Machine

/-- Settles O8: the bytes of a message as far as they arrive, and where a posting finds its kind and subject. -/
theorem putMessageIsJudged : Obligations.PutMessageIsJudged := by
  intro s hb hx
  refine ⟨fun kind tag body check hl => ?whole, fun kind tag n hn => ?tooLong, fun bs hs => ?short,
    fun u n => ⟨fun a c e m hout ha hs he hm => State.post_outbox hout ha hs he hm, fun ho =>
      ⟨fun a c m hns ha hm => State.post_member ho hns ha hm, fun hn =>
        ⟨fun hr => State.post_append u n ho hn hr, fun hr => State.post_joins ho hn hr⟩⟩⟩,
    fun c m t c' m' t' => ?wake, fun r g m r' g' m' => ?reject, fun old new => Notice.merge_new⟩
  case whole =>
    have hlen : (messageHead kind tag body ++ be16 check).length - 1 = 5 + body.length := by
      rw [List.length_append, length_messageHead]
      simp [be16]
      omega
    have hexec : exec (.messageHeld (messageHead kind tag body ++ be16 check)) s =
        done ((s.judgeMessage (messageHead kind tag body ++ be16 check)).shiftOut
          (List.replicate (5 + body.length) 0)) := by
      change done (s.receiveMessage _) = _
      rw [State.receiveMessage_first hb hx, hlen]
    refine ⟨fun hc => hexec.trans ?_, fun hc => hexec.trans ?_⟩
    · have hc' : crc (messageHead kind tag body) = check := hc.symm
      rw [State.judgeMessage_whole s hl, if_pos hc']
      rfl
    · have hc' : ¬ crc (messageHead kind tag body) = check := fun h => hc h.symm
      rw [State.judgeMessage_whole s hl, if_neg hc']
      rfl
  case tooLong =>
    change done (s.receiveMessage _) = _
    rw [State.receiveMessage_first hb hx, State.judgeMessage_tooLong s hn]
    rfl
  case short =>
    have hexec : exec (.rejectShort bs) s =
        done (State.rejectMessage (State.shiftOut { s with link := { s.link with buffer := .filling bs } }
          (List.replicate (bs.length - 1) 0)) .short (receivedTag bs)) := by
      change done (s.receiveMessage bs).endSelect = _
      rw [State.receiveMessage_first hb hx, State.judgeMessage_short s hs]
      exact congrArg done (State.endSelect_eq rfl)
    rw [hexec]
    obtain ⟨h1, h2, h3, h4, h5⟩ := State.rejectMessage_link
      (State.shiftOut { s with link := { s.link with buffer := .filling bs } }
        (List.replicate (bs.length - 1) 0)) .short (receivedTag bs)
    exact ⟨_, rfl, h1, h2, h3, h4, State.post_pool _ _, State.post_line _ _, h5⟩
  case wake => exact congrArg (fun h => Notice.wakeCause (c ||| c') h t') (addMerged_eq m m')
  case reject => exact congrArg (Notice.linkReject r' g') (addMerged_eq m m')

end Sys2Proof
end

section
/-! The link's own requests, the line's requests and the reports (R18 to R20, R24, R35, R156, R157). -/

namespace Sys2Proof.Machine

@[simp] theorem State.withReply_line (s : State) (k : ReqKind) (tag : Byte) (inline chain : List Byte) :
    (s.withReply k tag inline chain).line = s.line := State.append_line _ _

/-! ### IDENTIFY, ECHO and TIME_READ -/

/-- The link counters after an IDENTIFY with its option. -/
def State.clearLinkCountersIf (s : State) (o : Bool) : State :=
  if o then s.setLinkCounters ⟨0, 0, 0, 0, 0, 0, 0, 0, 0, 0⟩ else s

/-- IDENTIFY reports the link with its own table entry counted, before the counters are cleared (R156). -/
theorem execIdentify_option {s : State} {tag : Byte} {o : Bool} (h : Accepted s .identify tag [yesNo o]) :
    execIdentify s = done (s.answered .identify tag (s.emptyBuffer.enterTable .identify tag).identifyContent
      (State.clearLinkCountersIf · o)) := by
  have ho : yesNo? (byteAt [yesNo o] 0) = some o := yesNo?_yesNo o
  unfold execIdentify
  rw [State.dispatch_accepted h, ho]
  exact congrArg done (h.answer _ (State.clearLinkCountersIf · o) (fun _ => by cases o <;> rfl)
    (fun _ => by cases o <;> rfl))

theorem execEcho_accepted {s : State} {tag : Byte} {body : List Byte} (h : Accepted s .echo tag body) :
    execEcho s = done (s.answered .echo tag body id) := by
  unfold execEcho
  rw [State.dispatch_accepted h]
  exact congrArg done (h.answer body id (fun _ => rfl) fun _ => rfl)

theorem execTimeRead_accepted {s : State} {tag : Byte} (h : Accepted s .timeRead tag []) :
    execTimeRead s = done (s.withReply .timeRead tag (0x00 :: be32 s.line.timebase) []) := by
  unfold execTimeRead
  rw [State.dispatch_accepted h]
  exact congrArg done (h.answerInline (be32 s.line.timebase) id (fun _ => rfl) (fun _ => rfl) (by simp [be32]))

/-! ### LINE_SETUP -/

theorem BitRate.ofByte?_code (r : BitRate) : BitRate.ofByte? r.code = some r := by
  cases r <;> rfl

theorem BitRate.ofByte?_eq_none {b : Byte} (h : 3 < b.toNat) : BitRate.ofByte? b = none := by
  have hne : ∀ n : Nat, n ≤ 3 → b ≠ BitVec.ofNat 8 n := by
    rintro n hn rfl
    rw [BitVec.toNat_ofNat] at h
    omega
  unfold BitRate.ofByte?
  exact (if_neg (hne 0 (by omega))).trans ((if_neg (hne 1 (by omega))).trans
    ((if_neg (hne 2 (by omega))).trans (if_neg (hne 3 (by omega)))))

theorem BitRate.exists_code {b : Byte} (h : b.toNat ≤ 3) : ∃ r : BitRate, b = r.code := by
  have hb : b.toNat = 0 ∨ b.toNat = 1 ∨ b.toNat = 2 ∨ b.toNat = 3 := by omega
  rcases hb with h | h | h | h
  · exact ⟨.r250, BitVec.eq_of_toNat_eq h⟩
  · exact ⟨.r500, BitVec.eq_of_toNat_eq h⟩
  · exact ⟨.r1000, BitVec.eq_of_toNat_eq h⟩
  · exact ⟨.r2000, BitVec.eq_of_toNat_eq h⟩

theorem execLineSetup_badField {s : State} {tag code : Byte} (h : Accepted s .lineSetup tag [code])
    (hc : 3 < code.toNat) : execLineSetup s = done (s.withReply .lineSetup tag [0x03] []) := by
  have hr : BitRate.ofByte? (byteAt [code] 0) = none := BitRate.ofByte?_eq_none hc
  unfold execLineSetup
  rw [State.dispatch_accepted h, hr]
  exact congrArg done (h.refuse .badField)

theorem execLineSetup_rate {s : State} {tag : Byte} {r : BitRate} (h : Accepted s .lineSetup tag [r.code]) :
    execLineSetup s = done (if s.line.mode ≠ .stopped then s.withReply .lineSetup tag [0x0C] []
      else State.withReply { s with line := { s.line with rate := r } } .lineSetup tag [0x00] []) := by
  have hr : BitRate.ofByte? (byteAt [r.code] 0) = some r := BitRate.ofByte?_code r
  unfold execLineSetup
  rw [State.dispatch_accepted h, hr]
  refine congrArg done (ite_congr rfl (fun _ => h.refuse .lineState) fun _ => ?_)
  exact h.answerInline [] (fun u => { u with line := { u.line with rate := r } }) (fun _ => rfl) (fun _ => rfl)
    (Nat.zero_le 47)

/-! ### ADDRESS_SET -/

theorem length_flatMap_be16 (hs : List Half) : (hs.flatMap be16).length = 2 * hs.length := by
  induction hs with
  | nil => rfl
  | cons h hs ih => simp [be16, ih]; omega

theorem addresses_flatMap (hs : List Half) (suf : List Byte) : addresses hs.length (hs.flatMap be16 ++ suf) = hs := by
  induction hs with
  | nil => rfl
  | cons h hs ih =>
    change halfAt (be16 h ++ hs.flatMap be16 ++ suf) 0 :: addresses hs.length (hs.flatMap be16 ++ suf) = _
    rw [ih, List.append_assoc, halfAt_be16_append]

/-- An ADDRESS_SET body that carries two lists. -/
def addressBody (own group : List Half) : List Byte :=
  [byteOf own.length, byteOf group.length] ++ own.flatMap be16 ++ group.flatMap be16

theorem isStation_iff (a : Half) : isStation a = true ↔ 1 ≤ a.toNat ∧ a.toNat ≤ 0xEFFF := by
  have h0 : a ≠ 0 ↔ 1 ≤ a.toNat := by
    rw [← BitVec.toNat_inj.ne, Nat.one_le_iff_ne_zero]
    rfl
  simp only [isStation, Bool.and_eq_true, decide_eq_true_eq, h0]
  omega

theorem isGroup_iff (a : Half) : isGroup a = true ↔ 0xF000 ≤ a.toNat ∧ a.toNat ≤ 0xFFFE := by
  simp only [isGroup, Bool.and_eq_true, decide_eq_true_eq]
  omega

theorem listsValid_iff (own group : List Half) : listsValid own group = true ↔
    (∀ a ∈ own, 1 ≤ a.toNat ∧ a.toNat ≤ 0xEFFF) ∧ (∀ a ∈ group, 0xF000 ≤ a.toNat ∧ a.toNat ≤ 0xFFFE) ∧
      own.Nodup ∧ group.Nodup := by
  simp only [listsValid, Bool.and_eq_true, List.all_eq_true, decide_eq_true_eq, isStation_iff, isGroup_iff, and_assoc]

theorem Line.needsOwn_iff (l : Line) :
    l.needsOwn = true ↔ l.mode = .active ∨ (l.mode = .faulted ∧ l.resume = some .active) := by
  simp only [Line.needsOwn, Bool.or_eq_true, Bool.and_eq_true, decide_eq_true_eq]

/-- ADDRESS_SET with two lists of a length that may be given (R20, checks 3 and 4). -/
theorem execAddressSet_lists {s : State} {tag : Byte} {own group : List Half} (hown : own.length ≤ 4)
    (hgroup : group.length ≤ 8) (h : Accepted s .addressSet tag (addressBody own group)) :
    execAddressSet s = done (if listsValid own group = false then s.withReply .addressSet tag [0x0B] []
      else if own = [] ∧ s.line.needsOwn = true then s.withReply .addressSet tag [0x0C] []
      else State.withReply { s with line := { s.line with own := own, group := group } }
        .addressSet tag [0x00] []) := by
  have h0 : natAt (addressBody own group) 0 = own.length := toNat_byteOf (by omega)
  have h1 : natAt (addressBody own group) 1 = group.length := toNat_byteOf (by omega)
  have hbody : (addressBody own group).drop 2 = own.flatMap be16 ++ group.flatMap be16 := rfl
  have hlen : (addressBody own group).length = 2 + 2 * own.length + 2 * group.length := by
    simp only [addressBody, List.length_append, length_flatMap_be16, List.length_cons, List.length_nil]
  have hgroupBytes : (addressBody own group).drop (2 + 2 * own.length) = group.flatMap be16 := by
    rw [← List.drop_drop, hbody, ← length_flatMap_be16, List.drop_left]
  have hg : addresses group.length (group.flatMap be16) = group := by
    simpa using addresses_flatMap group []
  unfold execAddressSet
  rw [State.dispatch_accepted h]
  simp only [h0, h1, hbody, hgroupBytes, addresses_flatMap, hg]
  rw [if_neg (by omega), if_neg (by rw [hlen]; simp)]
  refine congrArg done (ite_congr rfl (fun _ => h.refuse .invalid) fun _ =>
    ite_congr rfl (fun _ => h.refuse .lineState) fun _ => ?_)
  exact h.answerInline [] (fun u => { u with line := { u.line with own := own, group := group } }) (fun _ => rfl)
    (fun _ => rfl) (Nat.zero_le 47)

theorem execAddressSet_badField {s : State} {tag : Byte} {body : List Byte} (h : Accepted s .addressSet tag body)
    (hc : 4 < natAt body 0 ∨ 8 < natAt body 1) :
    execAddressSet s = done (s.withReply .addressSet tag [0x03] []) := by
  unfold execAddressSet
  rw [State.dispatch_accepted h, if_pos hc]
  exact congrArg done (h.refuse .badField)

theorem execAddressSet_badLength {s : State} {tag : Byte} {body : List Byte} (h : Accepted s .addressSet tag body)
    (h0 : natAt body 0 ≤ 4) (h1 : natAt body 1 ≤ 8) (hl : body.length ≠ 2 + 2 * natAt body 0 + 2 * natAt body 1) :
    execAddressSet s = done (s.withReply .addressSet tag [0x02] []) := by
  unfold execAddressSet
  rw [State.dispatch_accepted h, if_neg (by omega), if_pos hl]
  exact congrArg done (h.refuse .badLength)

/-! ### LINE_START -/

theorem HearMode.ofByte?_code (m : HearMode) : HearMode.ofByte? m.mode.code = some m := by
  cases m <;> rfl

theorem HearMode.ofByte?_eq_none {b : Byte} (h1 : b ≠ 1) (h2 : b ≠ 2) : HearMode.ofByte? b = none := by
  rw [HearMode.ofByte?, if_neg h1, if_neg h2]

theorem execLineStart_badField {s : State} {tag code : Byte} (h : Accepted s .lineStart tag [code]) (h1 : code ≠ 1)
    (h2 : code ≠ 2) : execLineStart s = done (s.withReply .lineStart tag [0x03] []) := by
  have hm : HearMode.ofByte? (byteAt [code] 0) = none := HearMode.ofByte?_eq_none h1 h2
  unfold execLineStart
  rw [State.dispatch_accepted h, hm]
  exact congrArg done (h.refuse .badField)

/-- LINE_START that names a mode: its three refusals, or the reply DONE and the change (R19). -/
theorem execLineStart_mode {s : State} {tag : Byte} {m : HearMode} (h : Accepted s .lineStart tag [m.mode.code]) :
    execLineStart s = done (if s.line.stoppingOrReset = true then s.withReply .lineStart tag [0x06] []
      else if m = .active ∧ s.line.own = [] then s.withReply .lineStart tag [0x0B] []
      else if m = .listening ∧ s.line.mode = .active ∧ s.line.transmitter.drives = true then
        s.withReply .lineStart tag [0x06] []
      else (s.withReply .lineStart tag [0x00] []).startLine m) := by
  have hm : HearMode.ofByte? (byteAt [m.mode.code] 0) = some m := HearMode.ofByte?_code m
  unfold execLineStart
  rw [State.dispatch_accepted h, hm]
  refine congrArg done (ite_congr rfl (fun _ => h.refuse .busy) fun _ => ite_congr rfl (fun _ => h.refuse .invalid)
    fun _ => ite_congr rfl (fun _ => h.refuse .busy) fun _ => congrArg (State.startLine · m) ?_)
  exact h.answerInline [] id (fun _ => rfl) (fun _ => rfl) (Nat.zero_le 47)

theorem HearMode.mode_ne_stopped (m : HearMode) : m.mode ≠ .stopped := by
  cases m <;> decide

theorem State.arbitrate_of_not_active {s : State} (h : s.line.mode ≠ .active) : s.arbitrate = s := by
  unfold State.arbitrate Line.mayGrant
  simp [h]

theorem State.notStarted_of_idle {s : State} (h : s.line.transmitter = .idle) : s.notStarted = s := by
  unfold State.notStarted
  rw [h]

theorem State.changeMode_other {s : State} {m : LineMode} (h : s.line.mode ≠ m) (r : Option HearMode) :
    s.changeMode m r = State.post { s with line := { s.line with mode := m, resume := r } } (.lineState m r) :=
  if_neg h

/-- The mode already named is no change. -/
theorem State.changeMode_self {s : State} {m : LineMode} {r : Option HearMode} (h : s.line.mode = m)
    (hr : s.line.resume = r) : s.changeMode m r = s := by
  subst h hr
  exact if_pos rfl

theorem State.startLine_stopped {s : State} (h : s.line.mode = .stopped) (m : HearMode) :
    s.startLine m = State.arbitrate (State.post
      { s with line := { s.line with
          mode := m.mode, resume := none, receiver := .discarding, gap := .long
          lastActivity := s.line.point, stuckCount := 0 } }
      (.lineState m.mode none)) := by
  unfold State.startLine
  rw [h]
  refine congrArg State.arbitrate (State.changeMode_other ?_ none)
  exact fun hm => m.mode_ne_stopped (hm.symm.trans h)

theorem State.startLine_faulted {s : State} (h : s.line.mode = .faulted) (m : HearMode) :
    s.startLine m = { s with line := { s.line with resume := some m } } := by
  unfold State.startLine
  rw [h]

theorem State.startLine_listening {s : State} (h : s.line.mode = .listening) (m : HearMode) :
    s.startLine m = (s.changeMode m.mode none).arbitrate := by
  unfold State.startLine
  rw [h]

theorem State.startLine_active {s : State} (h : s.line.mode = .active) : s.startLine .active = s := by
  unfold State.startLine
  rw [h]

theorem State.startLine_leaves {s : State} (h : s.line.mode = .active) (hi : s.line.transmitter = .idle) :
    s.startLine .listening =
      State.post { s with line := { s.line with mode := .listening, resume := none } }
        (.lineState .listening none) := by
  unfold State.startLine
  rw [h]
  change s.notStarted.changeMode .listening none = _
  rw [State.notStarted_of_idle hi, State.changeMode_other (by rw [h]; decide)]

/-- The mode already named changes nothing. -/
theorem State.startLine_self {s : State} {m : HearMode} (h : s.line.mode = m.mode) (hr : s.line.resume = none) :
    s.startLine m = s := by
  cases m with
  | listening =>
    rw [State.startLine_listening h, State.changeMode_self h hr,
      State.arbitrate_of_not_active (by rw [h]; decide)]
  | active => exact State.startLine_active h

/-! ### LINE_STATUS, LINE_COUNTERS and POOL_STATUS -/

theorem execLineStatus_accepted {s : State} {tag : Byte} (h : Accepted s .lineStatus tag [])
    (hown : s.line.own.length ≤ 4) (hgroup : s.line.group.length ≤ 8) :
    execLineStatus s = done (s.withReply .lineStatus tag (0x00 :: s.line.statusContent) []) := by
  unfold execLineStatus
  rw [State.dispatch_accepted h]
  refine congrArg done (h.answerInline s.line.statusContent id (fun _ => rfl) (fun _ => rfl) ?_)
  simp only [Line.statusContent, List.length_append, length_flatMap_be16, List.length_cons, List.length_nil]
  omega

/-- The line counters after a LINE_COUNTERS with its option. -/
def State.clearLineCountersIf (s : State) (o : Bool) : State :=
  if o then s.setLineCounters ⟨0, 0, 0, 0, 0, 0, 0⟩ else s

theorem execLineCounters_option {s : State} {tag : Byte} {o : Bool} (h : Accepted s .lineCounters tag [yesNo o]) :
    execLineCounters s = done ((s.clearLineCountersIf o).withReply .lineCounters tag
      (0x00 :: s.line.counters.bytes) []) := by
  have ho : yesNo? (byteAt [yesNo o] 0) = some o := yesNo?_yesNo o
  unfold execLineCounters
  rw [State.dispatch_accepted h, ho]
  exact congrArg done (h.answerInline s.line.counters.bytes (State.clearLineCountersIf · o)
    (fun _ => by cases o <;> rfl) (fun _ => by cases o <;> rfl) (by simp [LineCounters.bytes, be32]))

theorem execPoolStatus_accepted {s : State} {tag : Byte} (h : Accepted s .poolStatus tag []) :
    execPoolStatus s = done (State.withReply { s with pool := { s.pool with lowWater := s.pool.free } }
      .poolStatus tag (0x00 :: s.pool.statusContent) []) := by
  unfold execPoolStatus
  rw [State.dispatch_accepted h]
  exact congrArg done (h.answerInline s.pool.statusContent
    (fun u => { u with pool := { u.pool with lowWater := u.pool.free } }) (fun _ => rfl) (fun _ => rfl)
    (by simp [Pool.statusContent]))

end Sys2Proof.Machine

namespace Sys2Proof

open Machine

/-- Settles O14: IDENTIFY counts the table entry it holds itself. -/
theorem linkRequestsReply : Obligations.LinkRequestsReply := by
  intro s tag content hc
  have hcontent : (s.emptyBuffer.enterTable .identify tag).identifyContent = content := by
    have hlen : (s.emptyBuffer.enterTable .identify tag).link.table.length = s.link.table.length + 1 :=
      List.length_append
    unfold State.identifyContent
    rw [hc, hlen]
    rfl
  refine ⟨fun h => ?_, fun h => ?_, fun body h => execEcho_accepted h, fun h => execTimeRead_accepted h⟩
  · change execIdentify s = _
    rw [execIdentify_option (o := false) h, hcontent]
    rfl
  · change execIdentify s = _
    rw [execIdentify_option (o := true) h, hcontent]
    rfl

/-- Settles O15: the code names a bit rate or it does not. -/
theorem lineSetupSetsTheRateInStopped : Obligations.LineSetupSetsTheRateInStopped := by
  intro s tag code h
  refine ⟨execLineSetup_badField h, fun hc hm => ?_, fun r hc hm => ?_⟩
  · obtain ⟨r, rfl⟩ := BitRate.exists_code hc
    exact (execLineSetup_rate h).trans (congrArg done (if_pos hm))
  · subst hc
    exact (execLineSetup_rate h).trans (congrArg done (if_neg (not_not.mpr hm)))

/-- Settles O16: the lists of the body are judged as R20 orders. -/
theorem addressSetReplacesBothLists : Obligations.AddressSetReplacesBothLists := by
  intro s tag
  refine ⟨fun own group hown hgroup ho hg hon hgn h => ⟨fun hne => ?_, fun hempty => ?_⟩,
    fun own group hown hgroup hbad h => ?_, fun body h => ⟨execAddressSet_badField h, execAddressSet_badLength h⟩⟩
  · have hv : ¬ listsValid own group = false := by
      rw [Bool.not_eq_false, listsValid_iff]
      exact ⟨ho, hg, hon, hgn⟩
    refine (execAddressSet_lists hown hgroup h).trans (congrArg done ?_)
    rw [if_neg hv, if_neg]
    rw [Line.needsOwn_iff]
    tauto
  · have hv : ¬ listsValid own group = false := by
      rw [Bool.not_eq_false, listsValid_iff]
      exact ⟨ho, hg, hon, hgn⟩
    refine (execAddressSet_lists hown hgroup h).trans (congrArg done ?_)
    rw [if_neg hv, if_pos ⟨hempty.1, (Line.needsOwn_iff _).mpr hempty.2⟩]
  · have hv : listsValid own group = false := by
      rw [← Bool.not_eq_true, listsValid_iff]
      rintro ⟨ho, hg, hon, hgn⟩
      rcases hbad with ⟨a, ha, rfl | hlow⟩ | ⟨a, ha, hlow | rfl⟩ | hd | hd
      · exact absurd (ho _ ha).1 (by decide)
      · have := (ho _ ha).2
        omega
      · have := (hg _ ha).1
        omega
      · exact absurd (hg _ ha).2 (by decide)
      · exact hd hon
      · exact hd hgn
    exact (execAddressSet_lists hown hgroup h).trans (congrArg done (if_pos hv))

/-- Settles O17: the refusals of R19 in their order, and the change by the mode it finds. -/
theorem lineStartChangesTheMode : Obligations.LineStartChangesTheMode := by
  intro s tag
  refine ⟨fun m h hst ho => ?starts, fun code h => ⟨fun h1 h2 => execLineStart_badField h h1 h2, fun hc hst => ?busy,
    fun hc hst hown => ?invalid, fun hc hst hm hd => ?drives⟩⟩
  case starts =>
    have hexec : (¬ (m = .listening ∧ s.line.mode = .active ∧ s.line.transmitter.drives = true)) →
        exec .lineStart s = done ((s.withReply .lineStart tag [0x00] []).startLine m) := by
      intro hd
      refine (execLineStart_mode h).trans (congrArg done ?_)
      rw [if_neg (by rw [hst]; decide), if_neg fun hm => ho hm.1 hm.2, if_neg hd]
    have hline := s.withReply_line .lineStart tag [0x00] []
    refine ⟨fun hm => ?_, fun hm => ?_, fun hm hr hi _ _ => ?_, fun hm ha => ?_, fun hm hl hi => ?_⟩
    · rw [hexec (by simp [hm]), State.startLine_stopped (by rw [hline]; exact hm), hline]
      rfl
    · rw [hexec (by simp [hm]), State.startLine_faulted (by rw [hline]; exact hm), hline]
      rfl
    · rw [hexec (by simp [hi, Transmitter.drives]),
        State.startLine_self (by rw [hline]; exact hm) (by rw [hline]; exact hr)]
      rfl
    · subst ha
      rw [hexec (by simp [hm]), State.startLine_listening (by rw [hline]; exact hm),
        State.changeMode_other (by rw [hline, hm]; decide), hline]
      rfl
    · subst hl
      rw [hexec (by simp [hi, Transmitter.drives]),
        State.startLine_leaves (by rw [hline]; exact hm) (by rw [hline]; exact hi), hline]
      rfl
  case busy =>
    rcases hc with rfl | rfl
    · exact (execLineStart_mode (m := .listening) h).trans (congrArg done (if_pos hst))
    · exact (execLineStart_mode (m := .active) h).trans (congrArg done (if_pos hst))
  case invalid =>
    subst hc
    refine (execLineStart_mode (m := .active) h).trans (congrArg done ?_)
    rw [if_neg (by rw [hst]; decide), if_pos ⟨rfl, hown⟩]
  case drives =>
    subst hc
    have hdr : s.line.transmitter.drives = true := by
      rcases hd with ⟨g, start, bytes, ht⟩ | ⟨g, start, ht⟩ <;> rw [ht] <;> rfl
    refine (execLineStart_mode (m := .listening) h).trans (congrArg done ?_)
    rw [if_neg (by rw [hst]; decide), if_neg (by simp), if_pos ⟨rfl, hm, hdr⟩]

/-- Settles O20: each report stands in the entry itself, and its effect touches only what it clears. -/
theorem lineAndPoolReportsReply : Obligations.LineAndPoolReportsReply := by
  intro s tag
  exact ⟨fun h hown hgroup => execLineStatus_accepted h hown hgroup, fun h => execLineCounters_option (o := false) h,
    fun h => execLineCounters_option (o := true) h, fun h => execPoolStatus_accepted h⟩

end Sys2Proof
end

section
/-! SIEVE_COMMIT (R50 to R53). -/

namespace Sys2Proof.Machine

theorem State.applyCommit_none {s : State} (h : s.sieve.commit = none) : s.applyCommit = s := by
  unfold State.applyCommit
  rw [h]

/-- STAGED becomes ACTIVE under the next generation, and the hit counters of what changed are 0 (R53). -/
def State.installed (s : State) : State :=
  { s with
    sieve := { s.sieve with active := s.sieve.staged, generation := s.sieve.generation + 1, commit := none }
    classifier := { s.classifier with
      hits := Vector.ofFn fun i =>
        if s.sieve.staged.entries[i].same s.sieve.active.entries[i] then s.classifier.hits[i] else 0
      defaultHits := if decide (s.sieve.staged.dflt ≠ s.sieve.active.dflt) = true then 0
        else s.classifier.defaultHits } }

/-- The reply DONE of a commit: the new generation and how much changed (R53). -/
def State.installReply (s : State) : List Byte :=
  [Status.done.code] ++ be16 (s.sieve.generation + 1) ++
    [byteOf (s.sieve.staged.differing s.sieve.active),
      yesNo (decide (s.sieve.staged.dflt ≠ s.sieve.active.dflt))]

theorem State.applyCommit_installs {s : State} {tag : Byte} (h : s.sieve.commit = some tag)
    (hf : s.sieve.staged.failing s.responder.templates = none) :
    s.applyCommit = s.installed.complete .sieveCommit tag s.installReply [] := by
  unfold State.applyCommit
  rw [h]
  simp only [hf]
  rfl

theorem State.applyCommit_fails {s : State} {tag : Byte} {i : Fin 32} {n : Fin 16} (h : s.sieve.commit = some tag)
    (hf : s.sieve.staged.failing s.responder.templates = some (i, n)) :
    s.applyCommit = State.complete { s with sieve := { s.sieve with commit := none } } .sieveCommit tag
      ([Status.invalid.code, byteOf i.val, 0, byteOf n.val] ++ be16 s.sieve.generation) [] := by
  unfold State.applyCommit
  rw [h]
  simp only [hf]

/-! ### The validation -/

/-- The template that fails an entry: one that it answers with and that is UNDEFINED (R51). -/
def Entry.failing (e : Entry) (templates : Vector Template 16) : Option (Fin 16) :=
  if e.inUse then e.answer.filter (fun t => !templates[t].defined) else none

theorem Entry.failing_eq_some_iff {e : Entry} {templates : Vector Template 16} {n : Fin 16} :
    e.failing templates = some n ↔ e.inUse = true ∧ e.answer = some n ∧ templates[n].defined = false := by
  unfold Entry.failing
  split
  · next h => simp [h, Option.filter_eq_some_iff]
  · next h => simp [h]

theorem Bank.failing_eq (b : Bank) (templates : Vector Template 16) :
    b.failing templates =
      (List.finRange 32).findSome? fun i => (b.entries[i].failing templates).map fun t => (i, t) := by
  unfold Bank.failing
  congr 1
  funext i
  unfold Entry.failing
  split
  · cases b.entries[i].answer with
    | none => rfl
    | some t =>
      simp only [Option.filter_some]
      generalize templates[t].defined = d
      cases d <;> rfl
  · rfl

theorem Bank.failing_eq_none {b : Bank} {templates : Vector Template 16}
    (h : ∀ (i : Fin 32) (n : Fin 16), b.entries[i].inUse = true → b.entries[i].answer = some n →
      templates[n].defined = true) : b.failing templates = none := by
  rw [Bank.failing_eq, List.findSome?_eq_none_iff]
  intro i _
  rw [Option.map_eq_none_iff, Option.eq_none_iff_forall_ne_some]
  intro n hn
  obtain ⟨hu, ha, hd⟩ := Entry.failing_eq_some_iff.mp hn
  rw [h i n hu ha] at hd
  cases hd

/-- The lowest index that fails is the one reported (R51). -/
theorem Bank.failing_eq_some {b : Bank} {templates : Vector Template 16} {i : Fin 32} {n : Fin 16}
    (hu : b.entries[i].inUse = true) (ha : b.entries[i].answer = some n) (hd : templates[n].defined = false)
    (hlow : ∀ j : Fin 32, j < i → b.entries[j].inUse = true → ∀ m, b.entries[j].answer = some m →
      templates[m].defined = true) : b.failing templates = some (i, n) := by
  have hi : b.entries[i].failing templates = some n := Entry.failing_eq_some_iff.mpr ⟨hu, ha, hd⟩
  rw [Bank.failing_eq]
  obtain ⟨l, r, hl⟩ := List.append_of_mem (List.mem_finRange i)
  rw [List.findSome?_eq_some_iff]
  refine ⟨l, i, r, hl, by rw [hi]; rfl, fun j hj => ?_⟩
  have hji : j < i := by
    have hp : (List.finRange 32).Pairwise (· < ·) := List.pairwise_lt_finRange 32
    rw [hl] at hp
    exact (List.pairwise_append.mp hp).2.2 j hj i (by simp)
  rw [Option.map_eq_none_iff, Option.eq_none_iff_forall_ne_some]
  intro m hm
  obtain ⟨hju, hja, hjd⟩ := Entry.failing_eq_some_iff.mp hm
  rw [hlow j hji hju m hja] at hjd
  cases hjd

/-! ### The request -/

theorem exec_sieveCommit (s : State) : exec .sieveCommit s = execSieveCommit s := rfl

theorem execSieveCommit_busy {s : State} {tag : Byte} (h : Accepted s .sieveCommit tag [])
    (hc : s.sieve.commit.isSome = true) : execSieveCommit s = done (s.withReply .sieveCommit tag [0x06] []) := by
  unfold execSieveCommit
  rw [State.dispatch_accepted h, State.enterTable_sieve, State.emptyBuffer_sieve, if_pos hc]
  exact congrArg done (h.refuse .busy)

/-- A commit that may be pending: its flag and its tag stand, and its table entry is taken (R50). -/
def State.committing (s : State) (tag : Byte) : State :=
  { s.emptyBuffer.enterTable .sieveCommit tag with sieve := { s.sieve with commit := some tag } }

theorem execSieveCommit_pending {s : State} {tag : Byte} (h : Accepted s .sieveCommit tag [])
    (hc : s.sieve.commit = none) :
    execSieveCommit s = done (if s.classifier.eval.isNone then (s.committing tag).applyCommit
      else s.committing tag) := by
  have hc' : ¬ s.sieve.commit.isSome = true := by rw [hc]; decide
  unfold execSieveCommit
  rw [State.dispatch_accepted h, State.enterTable_sieve, State.emptyBuffer_sieve, if_neg hc']
  rfl

end Sys2Proof.Machine

namespace Sys2Proof

open Machine

/-- Settles O25: no entry of STAGED fails, and the classifier is IDLE. -/
theorem commitInstallsStaged : Obligations.CommitInstallsStaged := by
  intro s tag h hc he hv
  have hn : s.classifier.eval.isNone = true := by rw [he]; rfl
  have hf : (s.committing tag).sieve.staged.failing (s.committing tag).responder.templates = none :=
    Bank.failing_eq_none hv
  have hcomplete : (s.committing tag).applyCommit =
      State.withReply s.installed .sieveCommit tag s.installReply [] := by
    rw [State.applyCommit_installs rfl hf]
    exact State.complete_entered s.installed.emptyBuffer .sieveCommit tag _ _ h.2.2.2.1
  rw [exec_sieveCommit, execSieveCommit_pending h hc, if_pos hn, hcomplete]
  refine ⟨_, rfl, ?_⟩
  unfold State.withReply
  rw [State.append_eq]
  refine ⟨rfl, rfl, rfl, rfl, fun i => ?_, ?_, rfl, rfl, rfl, rfl, rfl⟩
  · exact Vector.getElem_ofFn i.isLt
  · change (if decide (s.sieve.staged.dflt ≠ s.sieve.active.dflt) = true then (0 : Word)
      else s.classifier.defaultHits) = _
    by_cases hd : s.sieve.staged.dflt = s.sieve.active.dflt <;> simp [hd]

/-- Settles O26: a commit is pending, or the classifier evaluates, or STAGED fails at its lowest index. -/
theorem commitFailsWaitsOrIsBusy : Obligations.CommitFailsWaitsOrIsBusy := by
  intro s tag h
  refine ⟨fun hc => execSieveCommit_busy h hc, fun hc he => ?_, fun hc he i n hu ha hd hlow => ?_⟩
  · have hn : ¬ s.classifier.eval.isNone = true := by
      rw [Option.isNone_iff_eq_none]
      exact Option.isSome_iff_ne_none.mp he
    rw [exec_sieveCommit, execSieveCommit_pending h hc, if_neg hn]
    rfl
  · have hn : s.classifier.eval.isNone = true := by rw [he]; rfl
    have hf : (s.committing tag).sieve.staged.failing (s.committing tag).responder.templates = some (i, n) :=
      Bank.failing_eq_some hu ha hd hlow
    have hs : ({ s.sieve with commit := none } : Sieve) = s.sieve := by rw [← hc]
    rw [exec_sieveCommit, execSieveCommit_pending h hc, if_pos hn, State.applyCommit_fails rfl hf]
    refine congrArg done ((State.complete_entered
      (State.emptyBuffer { s with sieve := { s.sieve with commit := none } }) .sieveCommit tag _ _ h.2.2.2.1).trans ?_)
    rw [hs]
    rfl

end Sys2Proof
end

section
/-! LINE_STOP (R21, R22): its refusal, the jam it waits for, and the sequence that runs through at once. -/

namespace Sys2Proof.Machine

/-! ### The stopping sequence, whatever the link holds -/

/-- What steps 2 to 6 leave of a state, messages aside (R22, R119): `l` is the line. -/
structure Halted (s t : State) (l : Line) : Prop where
  line : t.line = l
  sieve : t.sieve = s.sieve
  classifier : t.classifier = s.classifier
  queues : t.queues = s.queues
  slots : t.slots = s.slots
  sends : t.sender.queue = []
  responder : t.responder = { s.responder with
    queue := []
    counters := { s.responder.counters with
      stopDiscarded := bumpBy s.responder.counters.stopDiscarded s.responder.queue.length } }

/-- The line after a stopping sequence (R22). -/
def Line.halted (l : Line) : Line :=
  { l with receiver := .idle, slot := .none, mode := .stopped, resume := none, lineStop := none }

/-- With no reply in the queue a slot closes with nothing to report. -/
theorem State.closeSlot_of_no_replies {s : State} (h : s.responder.queue = []) :
    s.closeSlot = { s with line := { s.line with slot := .none } } := by
  unfold State.closeSlot
  split
  · next hs => rw [← hs]
  · unfold State.closingReport
    simp [h]
  · rfl

theorem State.completeLineStop_line (s : State) :
    s.completeLineStop.line = { s.line with lineStop := none } := by
  unfold State.completeLineStop
  split
  · next h => rw [← h]
  · rw [State.refuse_line]

theorem State.finishStopping_halted (s : State) :
    ∃ w, s.finishStopping = w.toClassifier ∧ Halted s w s.line.halted := by
  refine ⟨_, rfl, ?_⟩
  have hsends := State.abortSends_queue s.abandonReception.sender.queue s.abandonReception rfl
  have hresp : (s.abandonReception.abortSends s.abandonReception.sender.queue).responder = s.responder := by simp
  have hline : (s.abandonReception.abortSends s.abandonReception.sender.queue).line =
      { s.line with receiver := .idle } := State.abortSends_line _ _
  have hsieve : (s.abandonReception.abortSends s.abandonReception.sender.queue).sieve = s.sieve := by simp
  have hcls : (s.abandonReception.abortSends s.abandonReception.sender.queue).classifier = s.classifier := by simp
  have hqueues : (s.abandonReception.abortSends s.abandonReception.sender.queue).queues = s.queues := by simp
  have hslots : (s.abandonReception.abortSends s.abandonReception.sender.queue).slots = s.slots := by simp
  generalize s.abandonReception.abortSends s.abandonReception.sender.queue = a at *
  have hclose : a.discardReplies.closeSlot =
      { a.discardReplies with line := { a.discardReplies.line with slot := .none } } :=
    State.closeSlot_of_no_replies rfl
  have henter : a.discardReplies.enterStopped =
      State.changeMode { a.discardReplies with line := { a.discardReplies.line with slot := .none, receiver := .idle } }
        .stopped none := by
    unfold State.enterStopped
    rw [hclose]
  rw [henter]
  constructor
  · rw [State.completeLineStop_line, State.changeMode_line]
    simp only [State.discardReplies_line, hline]
    rfl
  · simpa using hsieve
  · simpa using hcls
  · simpa using hqueues
  · simpa using hslots
  · simpa using hsends
  · rw [State.completeLineStop_responder, State.changeMode_responder]
    simp only [State.discardReplies, State.setReplies, State.release, State.setReplyCounters, hresp]

theorem State.beginStopping_halted {s : State} (hd : s.line.transmitter.drives = false) :
    ∃ w, s.beginStopping = w.toClassifier ∧ Halted s w { s.line.halted with transmitter := .idle } := by
  obtain ⟨q, r, hb, -, hr⟩ := State.beginStopping_eq s hd
  obtain ⟨w, hw, H⟩ := State.finishStopping_halted { s with
    line := { s.line with transmitter := .idle }
    sender := { s.sender with queue := q }
    responder := { s.responder with queue := r } }
  have hlen : r.length = s.responder.queue.length := by simpa using congrArg List.length hr
  refine ⟨w, hb.trans hw, H.line, H.sieve, H.classifier, H.queues, H.slots, H.sends, ?_⟩
  rw [H.responder]
  simp only [hlen]

/-! ### The pool -/

theorem Pool.receive_release_other (p : Pool) {h : Holder} (hh : h ≠ .receive) (c : Nat) :
    (p.release h c).receive = p.receive := by
  cases h with
  | receive => exact absurd rfl hh
  | _ => rfl

/-- No frame is under reception any more: its cells are FREE. -/
theorem State.stoppedPool_receive (s : State) : s.stoppedPool.receive = 0 := by
  unfold State.stoppedPool
  rw [Pool.receive_release_other _ (by simp), Pool.receive_release_other _ (by simp)]
  exact (congrArg (s.pool.receive - ·) (Nat.min_self _)).trans (Nat.sub_self _)

/-! ### The request -/

/-- A LINE_STOP holds its table entry and waits for the sequence's end (R21). -/
def State.stopRequested (s : State) (tag : Byte) : State :=
  { s.emptyBuffer.enterTable .lineStop tag with line := { s.line with lineStop := some tag } }

theorem execLineStop_accepted {s : State} {tag : Byte} (h : Accepted s .lineStop tag []) :
    execLineStop s = done (if s.line.stoppingOrReset = true then s.withReply .lineStop tag [0x06] []
      else if s.line.mode = .stopped then s.withReply .lineStop tag [0x00] []
      else (s.stopRequested tag).beginStopping) := by
  unfold execLineStop
  rw [State.dispatch_accepted h]
  refine congrArg done (ite_congr rfl (fun _ => h.refuse .busy) fun _ => ite_congr rfl (fun _ => ?_) fun _ => rfl)
  exact h.answerInline [] id (fun _ => rfl) (fun _ => rfl) (Nat.zero_le 47)

/-- The only request that waits for the sequence is the one that began it. -/
theorem Line.stoppingOrReset_eq_false {l : Line} (h : l.stoppingOrReset = false) :
    l.lineStop = none ∧ l.lineSide = none := by
  simpa [Line.stoppingOrReset] using h

theorem Accepted.tags_differ {s : State} {k : ReqKind} {tag : Byte} {body : List Byte} (h : Accepted s k tag body) :
    ∀ e ∈ s.link.table, e.tag ≠ tag := by
  obtain ⟨-, -, -, hd, -, -⟩ := h
  simpa [Link.holdsTag] using hd

theorem State.stopRequested_defers {s : State} {tag : Byte} (h : Accepted s .lineStop tag []) (hd : DeferredLaw s)
    (hs : s.line.lineStop = none) : DeferredLaw (s.stopRequested tag) := by
  rw [deferredLaw_iff] at hd ⊢
  unfold State.Defers at hd
  rw [hs] at hd
  exact hd.enter h.tags_differ hd.sendTags (by simp [State.stopRequested]) (by simp [State.stopRequested])
    (by simp [State.stopRequested, eq_comm]) (by simp [State.stopRequested])

theorem State.appendsLineState.entered {s t : State} {k : ReqKind} {tag : Byte} (h : s.appendsLineState 31)
    (ht : t.link = (s.emptyBuffer.enterTable k tag).link) : t.appendsLineState 32 := by
  obtain ⟨h1, h2, h3⟩ := h
  unfold State.appendsLineState
  rw [ht]
  refine ⟨?_, h2, h3⟩
  change s.link.outbox.length + (s.link.table ++ [(⟨tag, k⟩ : TableEntry)]).length < 32
  rw [List.length_append, List.length_singleton]
  omega

/-- What the table keeps when the sends and the LINE_STOP that began the sequence have completed. -/
theorem DeferredLaw.filter_stop {s : State} (hd : DeferredLaw s) (hs : s.line.lineStop = none) :
    s.link.table.filter (fun e => decide (e.kind ≠ .frameSend ∧ e.kind ≠ .lineStop)) =
      s.link.table.filter (fun e => decide (e.kind ≠ .frameSend)) := by
  apply List.filter_congr
  rintro ⟨t, k⟩ hx
  have hk : k ≠ .lineStop := by
    rintro rfl
    have := ((deferredLaw_iff s).mp hd).stop t |>.mp hx
    rw [hs] at this
    cases this
  simp [hk]

end Sys2Proof.Machine

namespace Sys2Proof

open Machine

/-- Settles O18: the refusals, the jam, and the sequence with a transmitter that does not drive. -/
theorem lineStopRunsTheSequence : Obligations.LineStopRunsTheSequence := by
  intro s tag h
  have hexec : s.line.stoppingOrReset = false → s.line.mode ≠ .stopped →
      exec .lineStop s = done (s.stopRequested tag).beginStopping := by
    intro hb hm
    exact (execLineStop_accepted h).trans (congrArg done
      ((if_neg (by rw [hb]; decide)).trans (if_neg hm)))
  refine ⟨fun hb => ?busy, fun hb hm => ?stopped, fun hb hm g start bytes ht => ?sending, fun hb hm g start ht => ?jamming,
    fun hdl ha hb hm hd => ?replies, fun hb hm hd => ?halts⟩
  case busy => exact (execLineStop_accepted h).trans (congrArg done (if_pos hb))
  case stopped =>
    exact (execLineStop_accepted h).trans (congrArg done ((if_neg (by rw [hb]; decide)).trans (if_pos hm)))
  case sending =>
    have hbegin : (s.stopRequested tag).beginStopping =
        (s.stopRequested tag).setTransmitter (.jamming g s.line.point) := by
      unfold State.beginStopping
      rw [show (s.stopRequested tag).line.transmitter = .sending g start bytes from ht]
      rfl
    rw [hexec hb hm, hbegin]
    rfl
  case jamming =>
    have hbegin : (s.stopRequested tag).beginStopping = s.stopRequested tag := by
      unfold State.beginStopping
      rw [show (s.stopRequested tag).line.transmitter = .jamming g start from ht]
    rw [hexec hb hm, hbegin]
    rfl
  case replies =>
    obtain ⟨hs, hr⟩ := Line.stoppingOrReset_eq_false hb
    obtain ⟨w, q, r, hw, S, hpool, -, hpass⟩ := State.beginStopping_stopped (s.stopRequested tag)
      (State.stopRequested_defers h hdl hs) hd fun _ => ha.entered rfl
    have hside : w.line.lineSide = none := by
      rw [S.line]
      exact hr
    refine ⟨_, hexec hb hm, ?_⟩
    rw [hw, State.toClassifier_none w hside]
    refine ⟨?_, ?_, ?_, hpool, (congrArg Pool.receive hpool).trans s.stoppedPool_receive, fun hq => ?_⟩
    · refine S.line.trans ?_
      change ({ s.line with
        transmitter := .idle, receiver := .idle, slot := .none, mode := .stopped, resume := none,
        lineStop := none } : Line) = _
      rw [← hs]
    · refine S.outbox.trans (congrArg (s.link.outbox ++ ·) (congrArg s.numbered ?_))
      have hm' : ¬ (s.stopRequested tag).line.mode = .stopped := hm
      rw [if_neg hm', List.append_assoc]
      rfl
    · refine S.table.trans ?_
      change (s.link.table ++ [(⟨tag, .lineStop⟩ : TableEntry)]).filter _ = _
      rw [List.filter_append, hdl.filter_stop hs]
      exact List.append_nil _
    · exact hpass.trans (if_neg hq)
  case halts =>
    obtain ⟨hs, hr⟩ := Line.stoppingOrReset_eq_false hb
    obtain ⟨w, hw, H⟩ := State.beginStopping_halted (s := s.stopRequested tag) hd
    have hside : w.line.lineSide = none := by
      rw [H.line]
      exact hr
    refine ⟨_, hexec hb hm, ?_⟩
    rw [hw, State.toClassifier_none w hside]
    rw [State.drivePins_line, H.line]
    refine ⟨rfl, rfl, rfl, rfl, rfl, rfl, H.sends, ?_, rfl, rfl, rfl, rfl, rfl, H.classifier, H.queues, H.slots, H.sieve, ?_⟩
    · rw [State.drivePins_responder, H.responder]
    · rw [State.drivePins_responder, H.responder]
      rfl

end Sys2Proof
end

section
/-! The line-side reset (R74, R94, R158): its refusal, the sequence it shares, and its end. -/

namespace Sys2Proof.Machine

/-! ### The end of a line-side reset -/

/-- The account when the waiting frames and the records of the four queues have given their cells back. -/
def State.emptiedFrom (s : State) (p : Pool) : Pool :=
  ((((p.release .classify ((s.classifier.queue.map (fun w => w.frame.cells)).sum)).release
    (.queue 0) (cellsOf s.queues[0].records)).release
    (.queue 1) (cellsOf s.queues[1].records)).release
    (.queue 2) (cellsOf s.queues[2].records)).release
    (.queue 3) (cellsOf s.queues[3].records)

theorem State.emptiedFrom_stoppedPool (s : State) : s.emptiedFrom s.stoppedPool = s.emptiedPool := rfl

theorem State.emptiedFrom_receive (s : State) (p : Pool) : (s.emptiedFrom p).receive = p.receive := by
  unfold State.emptiedFrom
  rw [Pool.receive_release_other _ (by simp), Pool.receive_release_other _ (by simp),
    Pool.receive_release_other _ (by simp), Pool.receive_release_other _ (by simp),
    Pool.receive_release_other _ (by simp)]

/-- The state that a line-side reset leaves ahead of its reply, its pending commit applied. -/
def State.emptied (s : State) : State :=
  { s with
    line := { s.line with lineSide := none }
    classifier := { s.classifier with queue := [] }
    queues := s.queues.map (fun d => { d with records := [] })
    pool := s.emptiedFrom s.pool }

theorem State.finishLineSide_emptied (s : State) (tag : Byte) :
    s.finishLineSide tag = s.applyCommit.emptied.complete .reset tag [0x00] [] :=
  s.finishLineSide_eq tag

theorem State.emptied_queue (s : State) (q : Fin 4) : s.emptied.queues[q] = { s.queues[q] with records := [] } :=
  Vector.getElem_map _ q.isLt

/-- The stopping sequence hands a line-side reset on to the classifier. -/
def State.handedOn (w : State) (tag : Byte) : State :=
  { w with line := { w.line with lineSide := some ⟨tag, .classifier⟩ } }

/-- The end of a stopping sequence that a line-side reset waited for, with the classifier IDLE. -/
theorem State.toClassifier_emptied {w : State} {tag : Byte} {p : ResetPhase} (h : w.line.lineSide = some ⟨tag, p⟩)
    (he : w.classifier.eval = none) :
    w.toClassifier = (w.handedOn tag).applyCommit.emptied.complete .reset tag [0x00] [] := by
  rw [State.toClassifier_ends w _ h he]
  exact State.finishLineSide_emptied _ _

/-- The table holds the RESET of a line-side reset and no other, and no two tags alike. -/
structure ResetIn (tab : List TableEntry) (tag : Byte) : Prop where
  nodup : (tab.map (fun e => e.tag)).Nodup
  kind : ∀ x ∈ tab, x.kind = .reset ↔ x.tag = tag
  mem : (⟨tag, .reset⟩ : TableEntry) ∈ tab

theorem DeferredLaw.resetIn {s : State} (hd : DeferredLaw s) {tag : Byte} {p : ResetPhase}
    (h : s.line.lineSide = some ⟨tag, p⟩) : ResetIn s.link.table tag := by
  have hside := ((deferredLaw_iff s).mp hd).side
  have hm : (⟨tag, .reset⟩ : TableEntry) ∈ s.link.table := (hside tag).mpr (by rw [h]; rfl)
  refine ⟨hd.1, hd.kind_iff .reset tag hm fun t ht => ?_, hm⟩
  have := (hside t).mp ht
  rw [h] at this
  exact (Option.some.inj this).symm

theorem ResetIn.filter {tab : List TableEntry} {tag : Byte} (h : ResetIn tab tag) {p : TableEntry → Bool}
    (hp : p ⟨tag, .reset⟩ = true) : ResetIn (tab.filter p) tag :=
  ⟨List.Nodup.sublist (List.Sublist.map _ List.filter_sublist) h.nodup,
    fun x hx => h.kind x (List.mem_filter.mp hx).1, List.mem_filter.mpr ⟨h.mem, hp⟩⟩

/-- What a line-side reset leaves that follows a stopping sequence, without a pending commit. -/
structure SideEnded (s w t : State) (l : Line) (ms : List Message) (tab : List TableEntry) : Prop where
  line : t.line = { l with lineSide := none }
  sieve : t.sieve = s.sieve
  classifier : t.classifier = { s.classifier with queue := [] }
  queues : ∀ q : Fin 4, t.queues[q] = { s.queues[q] with records := [] }
  slots : t.slots = s.slots
  responder : t.responder = w.responder
  sender : t.sender = w.sender
  pool : t.pool = s.emptiedFrom w.pool
  outbox : t.link.outbox = s.link.outbox ++ s.numbered ms
  table : t.link.table = tab

theorem Stopped.sideEnds {s w : State} {l : Line} {ms : List Message} {tab : List TableEntry} {tag : Byte}
    {p : ResetPhase} (S : Stopped s w l ms tab) (hl : l.lineSide = some ⟨tag, p⟩) (he : s.classifier.eval = none)
    (hc : s.sieve.commit = none) (ht : ResetIn tab tag) :
    SideEnded s w w.toClassifier l (ms ++ [.reply 0x84 tag [0x00] []])
      (tab.filter (fun e => decide (e.kind ≠ .reset))) := by
  have hside : w.line.lineSide = some ⟨tag, p⟩ := by rw [S.line, hl]
  have heval : w.classifier.eval = none := by rw [S.classifier, he]
  have happly : (w.handedOn tag).applyCommit = w.handedOn tag :=
    State.applyCommit_none ((congrArg Sieve.commit S.sieve).trans hc)
  have hsnoc := S.append (.reply 0x84 tag [0x00] [])
  have ht' : ResetIn (w.handedOn tag).emptied.link.table tag := by
    change ResetIn w.link.table tag
    rwa [S.table]
  rw [State.toClassifier_emptied hside heval, happly,
    State.complete_onlyOfItsKind _ .reset tag _ ht'.nodup ht'.kind ⟨⟨tag, .reset⟩, ht'.mem, rfl⟩]
  constructor
  · simp only [State.append_line, State.emptied, State.handedOn, S.line]
  · rw [State.append_sieve]
    exact S.sieve
  · simp only [State.append_classifier, State.emptied, State.handedOn, S.classifier]
  · intro q
    simp only [State.append_queues, State.emptied_queue, State.handedOn, S.queues]
  · rw [State.append_slots]
    exact S.slots
  · exact State.append_responder _ _
  · exact State.append_sender _ _
  · simp only [State.append_pool, State.emptied, State.handedOn, State.emptiedFrom, S.classifier, S.queues]
  · rw [← hsnoc.outbox, State.append_outbox, State.append_outbox]
    rfl
  · exact congrArg (List.filter _) S.table

/-! ### The request -/

theorem exec_resetLineSide {s : State} {tag : Byte} (h : Accepted s .reset tag [1]) :
    exec .resetLineSide s = done ((s.emptyBuffer.enterTable .reset tag).resetLineSide tag) := by
  have hrow : execResetLineSide s = done (s.dispatch .reset fun tag body t =>
      if byteAt body 0 = 1 then t.resetLineSide tag else t.refuse .reset tag .badField) := by
    unfold execResetLineSide
    rw [h.1]
    rfl
  rw [State.dispatch_accepted h] at hrow
  exact hrow

/-- A RESET of scope LINE_SIDE holds its table entry and waits for the sequence's end (R158). -/
def State.resetRequested (s : State) (tag : Byte) : State :=
  { s.emptyBuffer.enterTable .reset tag with line := { s.line with lineSide := some ⟨tag, .stopping⟩ } }

theorem exec_resetLineSide_shares {s : State} {tag : Byte} (h : Accepted s .reset tag [1])
    (hs : s.line.lineSide = none) (hst : s.line.lineStop.isSome = true) :
    exec .resetLineSide s = done (s.resetRequested tag) := by
  rw [exec_resetLineSide h]
  refine congrArg done ?_
  unfold State.resetLineSide
  rw [State.enterTable_line, State.emptyBuffer_line, if_neg (by rw [hs]; decide)]
  exact if_pos hst

theorem exec_resetLineSide_begins {s : State} {tag : Byte} (h : Accepted s .reset tag [1])
    (hs : s.line.lineSide = none) (hst : s.line.lineStop = none) :
    exec .resetLineSide s = done (s.resetRequested tag).beginStopping := by
  have hst' : ¬ s.line.lineStop.isSome = true := by rw [hst]; decide
  rw [exec_resetLineSide h]
  refine congrArg done ?_
  unfold State.resetLineSide
  rw [State.enterTable_line, State.emptyBuffer_line, if_neg (by rw [hs]; decide)]
  exact if_neg hst'

theorem State.resetRequested_defers {s : State} {tag : Byte} {body : List Byte} (h : Accepted s .reset tag body)
    (hd : DeferredLaw s) (hs : s.line.lineSide = none) : DeferredLaw (s.resetRequested tag) := by
  rw [deferredLaw_iff] at hd ⊢
  unfold State.Defers at hd
  rw [hs] at hd
  exact hd.enter h.tags_differ hd.sendTags (by simp [State.resetRequested]) (by simp [State.resetRequested])
    (by simp [State.resetRequested]) (by simp [State.resetRequested, eq_comm])

/-- Of the table's entries neither the sends nor the LINE_STOP remain. -/
def keptByStop (e : TableEntry) : Bool := decide (e.kind ≠ .frameSend ∧ e.kind ≠ .lineStop)

theorem State.resetRequested_table {s : State} {tag : Byte} (hd : DeferredLaw s) (hst : s.line.lineStop = none) :
    (s.resetRequested tag).link.table.filter keptByStop =
      s.link.table.filter (fun e => decide (e.kind ≠ .frameSend)) ++ [⟨tag, .reset⟩] := by
  rw [← hd.filter_stop hst]
  exact List.filter_append _ _

theorem DeferredLaw.filter_reset {s : State} (hd : DeferredLaw s) (hs : s.line.lineSide = none) (tag : Byte) :
    (s.link.table.filter (fun e => decide (e.kind ≠ .frameSend)) ++ [(⟨tag, .reset⟩ : TableEntry)]).filter
        (fun e => decide (e.kind ≠ .reset)) =
      s.link.table.filter (fun e => decide (e.kind ≠ .frameSend)) := by
  rw [List.filter_append, List.filter_filter]
  refine (List.append_nil _).trans (List.filter_congr ?_)
  rintro ⟨t, k⟩ hx
  have hk : k ≠ .reset := by
    rintro rfl
    have := ((deferredLaw_iff s).mp hd).side t |>.mp hx
    rw [hs] at this
    cases this
  simp [hk]

/-- What a line-side reset that begins with a transmitter that does not drive leaves ahead of its own steps. -/
structure SideStopped (s w : State) (tag : Byte) : Prop where
  replies : ∃ u : State, u.classifier = s.classifier ∧ u.sieve = s.sieve ∧ u.queues = s.queues ∧ u.slots = s.slots ∧
    u.link.outbox = s.link.outbox ∧ u.link.nextSeq = s.link.nextSeq ∧
    Stopped u w
      { s.line with
        transmitter := .idle, receiver := .idle, slot := .none, mode := .stopped, resume := none,
        lineSide := some ⟨tag, .stopping⟩ }
      (s.abortedReplies (fun _ => false) ++
        (if s.line.mode = .stopped then [] else [.notice (.lineState .stopped none)]))
      (s.link.table.filter (fun e => decide (e.kind ≠ .frameSend)) ++ [⟨tag, .reset⟩])
  pool : w.pool = s.stoppedPool
  responder : w.responder = { s.responder with
    queue := []
    counters := { s.responder.counters with
      stopDiscarded := bumpBy s.responder.counters.stopDiscarded s.responder.queue.length } }

theorem State.resetRequested_stopped {s : State} {tag : Byte} {body : List Byte} (h : Accepted s .reset tag body)
    (hd : DeferredLaw s) (ha : s.appendsLineState 31) (hs : s.line.lineSide = none) (hst : s.line.lineStop = none)
    (hdr : s.line.transmitter.drives = false) :
    ∃ w, (s.resetRequested tag).beginStopping = w.toClassifier ∧ SideStopped s w tag := by
  obtain ⟨w, q, r, hw, S, hpool, hresp, -⟩ := State.beginStopping_stopped (s.resetRequested tag)
    (State.resetRequested_defers h hd hs) hdr fun _ => ha.entered rfl
  refine ⟨w, hw, ⟨{ s.resetRequested tag with
    line := { (s.resetRequested tag).line with transmitter := .idle }
    sender := { s.sender with queue := q }
    responder := { s.responder with queue := r } }, rfl, rfl, rfl, rfl, rfl, rfl, ?_⟩, hpool, hresp⟩
  have hline : (s.resetRequested tag).line.lineStop = none := hst
  have htab := State.resetRequested_table (tag := tag) hd hst
  unfold keptByStop at htab
  rw [htab, hline, List.append_nil] at S
  refine ⟨S.line.trans ?_, S.sieve, S.classifier, S.queues, S.slots, S.responder, S.pins, S.pending, S.queue, S.pass,
    S.pool, S.outbox, S.nextSeq, S.table⟩
  change ({ s.line with
    transmitter := .idle, receiver := .idle, slot := .none, mode := .stopped, resume := none,
    lineSide := some ⟨tag, .stopping⟩, lineStop := none } : Line) = _
  rw [← hst]

theorem State.numbered_congr {s t : State} (h : t.link.nextSeq = s.link.nextSeq) (ms : List Message) :
    t.numbered ms = s.numbered ms := by
  unfold State.numbered
  rw [h]

/-- The request that waits stands in the table that the stopping sequence leaves. -/
theorem State.resetRequested_resetIn {s : State} {tag : Byte} {body : List Byte} (h : Accepted s .reset tag body)
    (hd : DeferredLaw s) (hs : s.line.lineSide = none) (hst : s.line.lineStop = none) :
    ResetIn (s.link.table.filter (fun e => decide (e.kind ≠ .frameSend)) ++ [⟨tag, .reset⟩]) tag := by
  rw [← State.resetRequested_table hd hst]
  exact ((State.resetRequested_defers h hd hs).resetIn (p := .stopping) rfl).filter rfl

/-- The replies of a pending commit and of the line-side reset that applies it. -/
theorem State.complete_twice {v : State} {c tag : Byte} {reply : List Byte} {f : State → State}
    (hf : ∀ x : State, (f x).link = x.link) (hc : v.link.holdsTag c = true)
    (ht : (⟨tag, .reset⟩ : TableEntry) ∈ v.link.table) (hne : c ≠ tag) :
    ((f (v.complete .sieveCommit c reply [])).complete .reset tag [0x00] []).link.outbox =
      ((v.append (.reply 0xA5 c reply [])).append (.reply 0x84 tag [0x00] [])).link.outbox := by
  have hfirst := State.complete_held v .sieveCommit c reply hc
  have htable : (f (v.complete .sieveCommit c reply [])).link.holdsTag tag = true := by
    rw [hf, hfirst]
    refine Link.holdsTag_of_mem (k := .reset) ((List.mem_eraseP_of_neg ?_).mpr ht)
    simpa using hne.symm
  rw [State.complete_held _ _ _ _ htable]
  change (State.append (f (v.complete .sieveCommit c reply [])) _).link.outbox = _
  rw [State.append_outbox, State.append_outbox, hf, hfirst]
  rfl

end Sys2Proof.Machine

namespace Sys2Proof

open Machine

/-- Settles O19: the refusal, the sequence that is shared, the jam, and the end by what the classifier holds. -/
theorem lineSideResetEmptiesTheLineSide : Obligations.LineSideResetEmptiesTheLineSide := by
  intro s tag h
  refine ⟨fun hs => ?busy, fun hs hst => exec_resetLineSide_shares h hs hst,
    fun hs hst => ⟨fun g start bytes ht => ?sending, fun g start ht => ?jamming⟩,
    fun early hd ha hs hst hdr hearly => ?runs⟩
  case busy =>
    rw [exec_resetLineSide h]
    refine congrArg done ?_
    unfold State.resetLineSide
    rw [State.enterTable_line, State.emptyBuffer_line, if_pos hs]
    exact h.refuse .busy
  case sending =>
    have hbegin : (s.resetRequested tag).beginStopping =
        (s.resetRequested tag).setTransmitter (.jamming g s.line.point) := by
      unfold State.beginStopping
      rw [show (s.resetRequested tag).line.transmitter = .sending g start bytes from ht]
      rfl
    rw [exec_resetLineSide_begins h hs hst, hbegin]
    rfl
  case jamming =>
    have hbegin : (s.resetRequested tag).beginStopping = s.resetRequested tag := by
      unfold State.beginStopping
      rw [show (s.resetRequested tag).line.transmitter = .jamming g start from ht]
    rw [exec_resetLineSide_begins h hs hst, hbegin]
    rfl
  case runs =>
    obtain ⟨w, hw, ⟨u, hcl, hsv, hq, hsl, hout, hns, S⟩, hpool, hresp⟩ :=
      State.resetRequested_stopped h hd ha hs hst hdr
    have hexec : exec .resetLineSide s = done w.toClassifier := by
      rw [exec_resetLineSide_begins h hs hst, hw]
    have hreset := State.resetRequested_resetIn h hd hs hst
    rw [← hearly] at S
    refine ⟨fun he hc => ⟨_, hexec, ?idle⟩, fun c he hc hv => ⟨_, hexec, ?commit⟩, fun he => ⟨_, hexec, ?waits⟩⟩
    case idle =>
      have E := S.sideEnds rfl (by rw [hcl, he]) (by rw [hsv, hc]) hreset
      have hcounters := congrArg Responder.counters (E.responder.trans hresp)
      have htemplates := congrArg Responder.templates (E.responder.trans hresp)
      have hseq := congrArg Responder.seqCounter (E.responder.trans hresp)
      have hp : w.toClassifier.pool = s.emptiedPool := by
        rw [E.pool, hpool, State.emptiedFrom, hcl, hq]
        rfl
      refine ⟨?_, (congrArg Sender.queue E.sender).trans S.queue,
        congrArg Responder.queue (E.responder.trans hresp), hcounters, E.classifier.trans (by rw [hcl]),
        fun q => ?_, E.sieve.trans hsv, E.slots.trans hsl, htemplates, hseq, hp, ?_, ?_, ?_⟩
      · refine E.line.trans ?_
        rw [← hs]
      · have hqueue : w.toClassifier.queues[q] = { s.queues[q] with records := [] } := by rw [E.queues, hq]
        rw [State.drivePins_queues, hqueue]
        exact ⟨rfl, rfl, rfl⟩
      · rw [State.drivePins_pool, hp, ← State.emptiedFrom_stoppedPool, State.emptiedFrom_receive,
          State.stoppedPool_receive]
      · refine E.outbox.trans ?_
        rw [hout, State.numbered_congr hns]
      · exact E.table.trans (hd.filter_reset hs tag)
    case commit =>
      have heval : w.classifier.eval = none := by rw [S.classifier, hcl, he]
      have hsieve : (w.handedOn tag).sieve = s.sieve := S.sieve.trans hsv
      have hfail : (w.handedOn tag).sieve.staged.failing (w.handedOn tag).responder.templates = none := by
        have htemplates := congrArg Responder.templates hresp
        rw [hsieve]
        refine Bank.failing_eq_none fun i n hu hn => ?_
        have hdefined := hv i n hu hn
        rwa [← htemplates] at hdefined
      have hcommit : (⟨c, .sieveCommit⟩ : TableEntry) ∈ s.link.table :=
        (((deferredLaw_iff s).mp hd).commit c).mpr hc
      have hne : c ≠ tag := h.tags_differ _ hcommit
      have hreply : (w.handedOn tag).installReply = s.installReply := by
        unfold State.installReply
        rw [hsieve]
      have hend : w.toClassifier =
          ((w.handedOn tag).installed.complete .sieveCommit c s.installReply []).emptied.complete .reset tag [0x00] [] := by
        rw [State.toClassifier_emptied (by rw [S.line]) heval,
          State.applyCommit_installs (by rw [hsieve, hc]) hfail, hreply]
      have hsieve' : w.toClassifier.sieve = (w.handedOn tag).installed.sieve := by
        rw [hend, State.complete_sieve]
        exact State.complete_sieve _ _ _ _ _
      have hactive : (w.handedOn tag).installed.sieve = s.installed.sieve := by
        unfold State.installed
        rw [hsieve]
      have hline : w.toClassifier.line.lineSide = none := by
        rw [hend, State.complete_line]
        rfl
      refine ⟨hline, ?_, ?_, ?_, ?_⟩
      · rw [State.drivePins_sieve, hsieve', hactive]
        rfl
      · rw [State.drivePins_sieve, hsieve', hactive]
        rfl
      · rw [State.drivePins_sieve, hsieve', hactive]
        rfl
      · have htab : (w.handedOn tag).installed.link.table =
            s.link.table.filter (fun e => decide (e.kind ≠ .frameSend)) ++ [⟨tag, .reset⟩] := S.table
        have hholds : (w.handedOn tag).installed.link.holdsTag c = true :=
          Link.holdsTag_of_mem (k := .sieveCommit) (by rw [htab]; simp [hcommit])
        have hout2 := ((S.append (.reply 0xA5 c s.installReply [])).append (.reply 0x84 tag [0x00] [])).outbox
        rw [State.drivePins_link, hend, State.complete_twice (f := State.emptied) (fun _ => rfl) hholds
          (by rw [htab]; simp) hne]
        rw [hout, State.numbered_congr hns, List.append_assoc] at hout2
        refine Eq.trans ?_ hout2
        simp only [State.append_outbox, State.append_nextSeq]
        rfl
    case waits =>
      have heval : w.classifier.eval.isSome = true := by rw [S.classifier, hcl, he]
      rw [State.toClassifier_waits w ⟨tag, .stopping⟩ (by rw [S.line]) heval]
      refine ⟨?_, S.classifier.trans hcl, S.queues.trans hq, S.sieve.trans hsv, S.queue,
        congrArg Responder.queue hresp, hpool, S.outbox.trans (by rw [hout, State.numbered_congr hns]), S.table⟩
      rw [State.drivePins_line, S.line]

end Sys2Proof
end

section
/-! The outcomes of an attempt, entry by entry (R116 to R118, R127, R133), and the close of the reply slot (R5). -/

namespace Sys2Proof.Machine

/-! ### The reply queue -/

section

variable {s : State} {old rest : List ReplyEntry} {e : ReplyEntry} {p : ReplyEntry → Bool}

theorem State.dropReply_split (hq : s.responder.queue = old ++ e :: rest) (ho : ∀ x ∈ old, p x = false)
    (he : p e = true) :
    s.dropReply p = { s with
      responder := { s.responder with queue := old ++ rest }
      pool := s.pool.release .responder e.frame.cells } := by
  unfold State.dropReply
  rw [hq, find?_split p old rest e ho he, eraseP_split p old rest e ho he]
  rfl

theorem State.lateReply_drop (hq : s.responder.queue = old ++ e :: rest) (ho : ∀ x ∈ old, p x = false)
    (he : p e = true) :
    s.lateReply p .drop = { s with
      responder := { s.responder with
        queue := old ++ rest
        counters := { s.responder.counters with lateDropped := bump s.responder.counters.lateDropped } }
      pool := s.pool.release .responder e.frame.cells } := by
  unfold State.lateReply
  rw [State.dropReply_split hq ho he]
  rfl

theorem State.lateReply_send (hq : s.responder.queue = old ++ e :: rest) (ho : ∀ x ∈ old, p x = false)
    (he : p e = true) :
    s.lateReply p .send = { s with responder := { s.responder with
      queue := old ++ { e with window := none } :: rest
      counters := { s.responder.counters with lateSent := bump s.responder.counters.lateSent } } } := by
  unfold State.lateReply
  rw [hq, changeFirst_split p _ old rest e ho he]
  rfl

end

/-! ### A reply's outcome -/

section

variable {s : State} {old rest : List ReplyEntry} {e : ReplyEntry}

theorem isOnLine_eq_false {l : List ReplyEntry} (h : ∀ x ∈ l, x.state ≠ .onLine) :
    ∀ x ∈ l, x.state.isOnLine = false := fun x hx => decide_eq_false (h x hx)

theorem TxState.isOnLine_of {t : TxState} (h : t = .onLine) : t.isOnLine = true := decide_eq_true h

theorem find?_isOnLine (hq : s.responder.queue = old ++ e :: rest) (ho : ∀ x ∈ old, x.state ≠ .onLine)
    (he : e.state = .onLine) : s.responder.queue.find? (fun e => e.state.isOnLine) = some e := by
  rw [hq]
  exact find?_split (fun e : ReplyEntry => e.state.isOnLine) old rest e (isOnLine_eq_false ho) (TxState.isOnLine_of he)

theorem State.hand_reply_sent (hq : s.responder.queue = old ++ e :: rest) (ho : ∀ x ∈ old, x.state ≠ .onLine)
    (he : e.state = .onLine) :
    s.hand .reply .sent = { s with
      responder := { s.responder with
        queue := old ++ rest
        counters := { s.responder.counters with sent := bump s.responder.counters.sent } }
      pool := s.pool.release .responder e.frame.cells } := by
  change s.handReply .sent = _
  unfold State.handReply
  rw [find?_isOnLine hq ho he]
  dsimp only
  rw [State.dropReply_split hq (isOnLine_eq_false ho) (TxState.isOnLine_of he)]
  rfl

theorem State.hand_reply_exhausted (hq : s.responder.queue = old ++ e :: rest) (ho : ∀ x ∈ old, x.state ≠ .onLine)
    (he : e.state = .onLine) :
    s.hand .reply .exhausted = { s with
      responder := { s.responder with
        queue := old ++ rest
        counters := { s.responder.counters with replyFailed := bump s.responder.counters.replyFailed } }
      pool := s.pool.release .responder e.frame.cells } := by
  change s.handReply .exhausted = _
  unfold State.handReply
  rw [find?_isOnLine hq ho he]
  dsimp only
  rw [State.dropReply_split hq (isOnLine_eq_false ho) (TxState.isOnLine_of he)]
  rfl

/-- A collided reply that contends backs off (R118). -/
theorem State.hand_reply_contend (hq : s.responder.queue = old ++ e :: rest) (ho : ∀ x ∈ old, x.state ≠ .onLine)
    (he : e.state = .onLine) (r : Nat) (hw : e.window = none) :
    s.hand .reply (.collided r) = { s with responder := { s.responder with
      queue := old ++ { e with attempts := e.attempts + 1, state := backoffState s.line.point r } :: rest } } := by
  change s.handReply (.collided r) = _
  unfold State.handReply
  rw [find?_isOnLine hq ho he]
  simp only [hw, Option.isSome_none, Bool.false_and, Bool.false_eq_true, if_false]
  rw [hq, changeFirst_split (fun x : ReplyEntry => x.state.isOnLine) _ old rest e (isOnLine_eq_false ho)
    (TxState.isOnLine_of he), ← hw]
  rfl

theorem State.hand_reply_madeContend (hq : s.responder.queue = old ++ e :: rest) (ho : ∀ x ∈ old, x.state ≠ .onLine)
    (he : e.state = .onLine) (r : Nat) (hw : e.window.isSome = true) (hl : e.late = .send) :
    s.hand .reply (.collided r) = { s with responder := { s.responder with
      queue := old ++
        { e with window := none, attempts := e.attempts + 1, state := backoffState s.line.point r } :: rest
      counters := { s.responder.counters with lateSent := bump s.responder.counters.lateSent } } } := by
  change s.handReply (.collided r) = _
  unfold State.handReply
  rw [find?_isOnLine hq ho he]
  have hdrop : ¬ (e.window.isSome && decide (e.late = .drop)) = true := by rw [hw, hl]; decide
  dsimp only
  rw [if_neg hdrop, if_pos hw, State.lateReply_send hq (isOnLine_eq_false ho) (TxState.isOnLine_of he)]
  have hchange : ∀ f, changeFirst (fun x : ReplyEntry => x.state.isOnLine) f
      (old ++ { e with window := none } :: rest) = old ++ f { e with window := none } :: rest := fun f =>
    changeFirst_split _ f old rest _ (isOnLine_eq_false ho) (TxState.isOnLine_of he)
  exact congrArg (State.setReplies _)
    (hchange fun x => { x with attempts := x.attempts + 1, state := backoffState s.line.point r })

theorem State.hand_reply_dropped (hq : s.responder.queue = old ++ e :: rest) (ho : ∀ x ∈ old, x.state ≠ .onLine)
    (he : e.state = .onLine) (r : Nat) (hw : e.window.isSome = true) (hl : e.late = .drop) :
    s.hand .reply (.collided r) = { s with
      responder := { s.responder with
        queue := old ++ rest
        counters := { s.responder.counters with lateDropped := bump s.responder.counters.lateDropped } }
      pool := s.pool.release .responder e.frame.cells } := by
  change s.handReply (.collided r) = _
  unfold State.handReply
  rw [find?_isOnLine hq ho he]
  simp only [hw, hl, decide_true, Bool.and_true, if_true]
  exact State.lateReply_drop hq (isOnLine_eq_false ho) (TxState.isOnLine_of he)

theorem State.notStarted_reply {n : Nat} {end_ : Option Nat} (ht : s.line.transmitter = .gapWait ⟨.reply, n, end_⟩)
    (hq : s.responder.queue = old ++ e :: rest) (ho : ∀ x ∈ old, x.state ≠ .onLine) (he : e.state = .onLine) :
    s.notStarted = { s with
      line := { s.line with transmitter := .idle }
      responder := { s.responder with queue := old ++ { e with state := .waiting } :: rest } } := by
  unfold State.notStarted
  rw [ht]
  simp only [hq]
  rw [changeFirst_split (fun x : ReplyEntry => x.state.isOnLine) _ old rest e (isOnLine_eq_false ho)
    (TxState.isOnLine_of he)]
  rfl

/-- With no reply ON_LINE a withdrawn grant changes only the transmitter. -/
theorem State.notStarted_no_reply {n : Nat} {end_ : Option Nat} (ht : s.line.transmitter = .gapWait ⟨.reply, n, end_⟩)
    (h : ∀ x ∈ s.responder.queue, x.state ≠ .onLine) :
    s.notStarted = { s with line := { s.line with transmitter := .idle } } := by
  unfold State.notStarted
  rw [ht]
  simp only
  rw [changeFirst_none _ _ _ (isOnLine_eq_false h)]
  rfl

end

/-! ### A send's outcome -/

section

variable {s : State} {old rest : List SendEntry} {e : SendEntry}

/-- The entry on the line that has a tag. -/
def SendEntry.onLineAs (tag : Byte) (e : SendEntry) : Bool := e.tag == tag && e.state.isOnLine

theorem onLineAs_eq_false {l : List SendEntry} {tag : Byte} (h : ∀ x ∈ l, x.tag ≠ tag) :
    ∀ x ∈ l, x.onLineAs tag = false := fun x hx => by simp [SendEntry.onLineAs, h x hx]

theorem SendEntry.onLineAs_of (h : e.state = .onLine) : e.onLineAs e.tag = true := by
  simp [SendEntry.onLineAs, TxState.isOnLine_of h]

theorem find?_onLineAs (hq : s.sender.queue = old ++ e :: rest) (ho : ∀ x ∈ old, x.tag ≠ e.tag)
    (he : e.state = .onLine) :
    s.sender.queue.find? (fun x => x.tag == e.tag && x.state.isOnLine) = some e := by
  rw [hq]
  exact find?_split (SendEntry.onLineAs e.tag) old rest e (onLineAs_eq_false ho) (SendEntry.onLineAs_of he)

/-- A send entry reaches its final outcome: it leaves the queue, and its FRAME_SEND completes (R127). -/
theorem State.completeSend_split (hq : s.sender.queue = old ++ e :: rest) (ho : ∀ x ∈ old, x.tag ≠ e.tag)
    (st : Status) (content : List Byte) :
    s.completeSend e st content = State.complete { s with
      sender := { queue := old ++ rest, pass := if old ++ rest = [] then 0 else s.sender.pass }
      pool := s.pool.release .send e.frame.cells } .frameSend e.tag (st.code :: content) [] := by
  unfold State.completeSend
  rw [hq, eraseP_split (fun x => x.tag == e.tag) old rest e (fun x hx => by simp [ho x hx]) (by simp)]
  rfl

theorem State.hand_send_sent (hq : s.sender.queue = old ++ e :: rest) (ho : ∀ x ∈ old, x.tag ≠ e.tag)
    (he : e.state = .onLine) :
    s.hand (.send e.tag) .sent = State.complete { s with
      sender := { queue := old ++ rest, pass := if old ++ rest = [] then 0 else s.sender.pass }
      pool := s.pool.release .send e.frame.cells }
      .frameSend e.tag ([0x00, byteOf (e.attempts + 1)] ++ be32 s.line.timebase) [] := by
  change s.handSend e.tag .sent = _
  unfold State.handSend
  rw [find?_onLineAs hq ho he]
  exact State.completeSend_split hq ho _ _

theorem State.hand_send_exhausted (hq : s.sender.queue = old ++ e :: rest) (ho : ∀ x ∈ old, x.tag ≠ e.tag)
    (he : e.state = .onLine) :
    s.hand (.send e.tag) .exhausted = State.complete { s with
      sender := { queue := old ++ rest, pass := if old ++ rest = [] then 0 else s.sender.pass }
      pool := s.pool.release .send e.frame.cells } .frameSend e.tag [0x0F, 0x08] [] := by
  change s.handSend e.tag .exhausted = _
  unfold State.handSend
  rw [find?_onLineAs hq ho he]
  exact State.completeSend_split hq ho _ _

theorem State.hand_send_collided (hq : s.sender.queue = old ++ e :: rest) (ho : ∀ x ∈ old, x.tag ≠ e.tag)
    (he : e.state = .onLine) (r : Nat) :
    s.hand (.send e.tag) (.collided r) = { s with sender := { s.sender with
      queue := old ++ { e with attempts := e.attempts + 1, state := backoffState s.line.point r } :: rest } } := by
  change s.handSend e.tag (.collided r) = _
  unfold State.handSend
  rw [find?_onLineAs hq ho he]
  dsimp only
  rw [hq]
  exact congrArg s.setSends
    (changeFirst_split _ _ old rest e (onLineAs_eq_false ho) (SendEntry.onLineAs_of he))

theorem State.notStarted_send {n : Nat} {end_ : Option Nat} (ht : s.line.transmitter = .gapWait ⟨.send e.tag, n, end_⟩)
    (hq : s.sender.queue = old ++ e :: rest) (ho : ∀ x ∈ old, x.tag ≠ e.tag) (he : e.state = .onLine) :
    s.notStarted = { s with
      line := { s.line with transmitter := .idle }
      sender := { s.sender with queue := old ++ { e with state := .waiting } :: rest } } := by
  unfold State.notStarted
  rw [ht]
  simp only [hq]
  exact congrArg (s.setTransmitter .idle).setSends
    (changeFirst_split _ _ old rest e (onLineAs_eq_false ho) (SendEntry.onLineAs_of he))

end

/-! ### The close of the reply slot -/

/-- A slot whose frame no reply answers closes with nothing to report. -/
theorem State.closeSlot_unanswered {s : State}
    (h : ∀ fe, s.line.slot = .own fe → ∀ e ∈ s.responder.queue, e.window ≠ some fe) :
    s.closeSlot = { s with line := { s.line with slot := .none } } := by
  unfold State.closeSlot
  split
  · next hs => rw [← hs]
  · next fe hs =>
    unfold State.closingReport
    rw [List.find?_eq_none.mpr fun e he => by simp [ReplyEntry.closedBy, h fe hs e he]]
  · rfl

section

variable {s : State} {fe : Nat} {old rest : List ReplyEntry} {e : ReplyEntry}

theorem closedBy_eq_false {l : List ReplyEntry} (h : ∀ x ∈ l, x.window ≠ some fe) (w : Bool) :
    ∀ x ∈ l, x.closedBy fe w = false := fun x hx => by simp [ReplyEntry.closedBy, h x hx]

theorem State.closeSlot_own (hs : s.line.slot = .own fe) :
    s.closeSlot = State.closingReport { s with line := { s.line with slot := .none } } fe := by
  unfold State.closeSlot
  rw [hs]

/-- The report of a close whose reply waits: its late policy deals with it. -/
theorem State.closingReport_waiting (hq : s.responder.queue = old ++ e :: rest)
    (ho : ∀ x ∈ old, x.window ≠ some fe) (hw : e.window = some fe) (he : e.state = .waiting) {late : LatePolicy}
    (hl : e.late = late) : s.closingReport fe = s.lateReply (ReplyEntry.closedBy fe s.line.transmitter.inGapWait) late := by
  subst hl
  have hc : e.closedBy fe s.line.transmitter.inGapWait = true := by
    simp [ReplyEntry.closedBy, hw, he, TxState.isWaiting]
  have hon : ¬ e.state.isOnLine = true := by rw [he]; decide
  unfold State.closingReport
  rw [hq, find?_split _ old rest e (closedBy_eq_false ho _) hc]
  exact if_neg hon

/-- The report of a close whose reply has its grant in GAP_WAIT: the grant is handed back too. -/
theorem State.closingReport_gapWait {n : Nat} {end_ : Option Nat} (hq : s.responder.queue = old ++ e :: rest)
    (ho : ∀ x ∈ old, x.window ≠ some fe) (hw : e.window = some fe) (he : e.state = .onLine)
    (ht : s.line.transmitter = .gapWait ⟨.reply, n, end_⟩) {late : LatePolicy} (hl : e.late = late) :
    s.closingReport fe = (s.lateReply (ReplyEntry.closedBy fe true) late).notStarted := by
  subst hl
  have hc : e.closedBy fe true = true := by
    simp [ReplyEntry.closedBy, hw, he, TxState.isOnLine]
  have hgap : s.line.transmitter.inGapWait = true := by rw [ht]; rfl
  unfold State.closingReport
  rw [hgap, hq, find?_split _ old rest e (closedBy_eq_false ho _) hc]
  exact if_pos (TxState.isOnLine_of he)

end

theorem exec_foreignActivity (dt : Nat) (s : State) : exec (.foreignActivity dt) s =
    if s.line.mode = .stopped then done (s.elapse dt)
    else done (State.closeSlot { s.elapse dt with
      line := (s.elapse dt).line.otherActivity (s.elapse dt).line.point }).arbitrate := by
  change execForeignActivity dt s = _
  unfold execForeignActivity
  simp only [State.elapse_line_mode]

theorem exec_windowClose {s : State} {fe : Nat} (h : s.line.slot = .own fe ∨ s.line.slot = .other fe) (dt : Nat) :
    exec (.windowClose dt) s =
      if (s.elapse dt).line.reached fe 48 = true then done (s.elapse dt).closeSlot.arbitrate
      else done (s.elapse dt) := by
  change execWindowClose dt s = _
  unfold execWindowClose
  simp only [State.elapse_line_slot]
  rcases h with h | h <;> rw [h]

theorem Line.reached_iff (l : Line) (start n : Nat) : l.reached start n = true ↔ start + bits n ≤ l.point :=
  decide_eq_true_iff

end Sys2Proof.Machine

namespace Sys2Proof

open Machine

/-- Settles O42: which reply answers the slot's frame, and where it stands. -/
theorem replySlotCloses : Obligations.ReplySlotCloses := by
  intro s
  refine ⟨fun hs => ?none, fun fe hs => ?other, fun fe hs hq => ?unanswered,
    fun fe old rest e hs hq ho hw => ⟨fun he => ⟨fun hl => ?drop, fun hl => ?send⟩, fun n end_ he ht hon =>
      ⟨fun hl => ?grantDrop, fun hl => ?grantSend⟩⟩,
    fun dt => ⟨fun hm => ?stopped, fun hm => ?activity, fun fe hs => ⟨fun h => ?closes, fun h => ?early⟩⟩⟩
  case none =>
    unfold State.closeSlot
    rw [hs]
  case other => exact State.closeSlot_unanswered fun fe' h => by rw [hs] at h; cases h
  case unanswered =>
    exact State.closeSlot_unanswered fun fe' h => by
      rw [hs] at h
      cases h
      exact hq
  case drop =>
    rw [State.closeSlot_own hs, State.closingReport_waiting (by exact hq) ho hw he hl]
    exact State.lateReply_drop hq (closedBy_eq_false ho _) (by simp [ReplyEntry.closedBy, hw, he, TxState.isWaiting])
  case send =>
    rw [State.closeSlot_own hs, State.closingReport_waiting (by exact hq) ho hw he hl]
    rw [State.lateReply_send (by exact hq) (closedBy_eq_false ho _)
      (by simp [ReplyEntry.closedBy, hw, he, TxState.isWaiting])]
  case grantDrop =>
    rw [State.closeSlot_own hs, State.closingReport_gapWait (by exact hq) ho hw he (by exact ht) hl,
      State.lateReply_drop (by exact hq)
      (closedBy_eq_false ho _) (by simp [ReplyEntry.closedBy, hw, he, TxState.isOnLine])]
    exact State.notStarted_no_reply ht hon
  case grantSend =>
    rw [State.closeSlot_own hs, State.closingReport_gapWait (by exact hq) ho hw he (by exact ht) hl,
      State.lateReply_send (by exact hq)
      (closedBy_eq_false ho _) (by simp [ReplyEntry.closedBy, hw, he, TxState.isOnLine])]
    rw [State.notStarted_reply (old := old) (rest := rest) (e := { e with window := none }) (by exact ht) (by rfl)
      (fun x hx => hon x (List.mem_append.mpr (.inl hx))) he]
  case stopped => exact (exec_foreignActivity dt s).trans (if_pos hm)
  case activity => exact (exec_foreignActivity dt s).trans (if_neg hm)
  case closes => exact (exec_windowClose hs dt).trans (if_pos ((Line.reached_iff ..).mpr h))
  case early =>
    exact (exec_windowClose hs dt).trans (if_neg fun h' => absurd ((Line.reached_iff ..).mp h') (Nat.not_le.mpr h))

end Sys2Proof
end

section
/-! The attempts of the transmitter: their beginning (R6, R7), their end (R7, R8) and the end of a jam (R8, R9). -/

namespace Sys2Proof.Machine

/-! ### The beginning of an attempt -/

theorem GapClass.bits_eq (g : GapClass) : g.bits = if g = .short then 24 else 64 := by
  cases g <;> rfl

theorem exec_gapPassed {s : State} {g : Grant} (h : s.line.transmitter = .gapWait g) (dt : Nat) :
    exec (.gapPassed dt) s =
      if (g.slotEnd.isNone && decide (s.line.mode = .active) && (s.elapse dt).line.gapHasPassed) = true then
        done ((s.elapse dt).closeSlot.startSending g)
      else done (s.elapse dt) := by
  change execGapPassed dt s = _
  unfold execGapPassed
  simp only [State.elapse_line_transmitter, State.elapse_line_mode, h]

theorem Line.gapHasPassed_iff (l : Line) : l.gapHasPassed = true ↔
    (l.receiver = .idle ∨ l.receiver = .following) ∧
      l.lastActivity + bits (if l.gap = .short then 24 else 64) ≤ l.point := by
  have hquiet : l.receiver.quiet = true ↔ l.receiver = .idle ∨ l.receiver = .following := by
    cases l.receiver <;> simp [Receiver.quiet]
  unfold Line.gapHasPassed
  rw [Bool.and_eq_true, hquiet, Line.reached_iff, GapClass.bits_eq]

theorem exec_turnaround {s : State} {g : Grant} {fe : Nat} (h : s.line.transmitter = .gapWait g)
    (hg : g.slotEnd = some fe) (dt : Nat) :
    exec (.turnaround dt) s =
      if s.line.mode = .active ∧ s.line.slot = .own fe ∧ (s.elapse dt).line.reached fe 12 = true ∧
          (s.elapse dt).line.point ≤ fe + bits 48 then
        done (State.startSending { s.elapse dt with line := { (s.elapse dt).line with slot := .none } } g)
      else done (s.elapse dt) := by
  change execTurnaround dt s = _
  unfold execTurnaround
  simp only [State.elapse_line_transmitter, State.elapse_line_mode, State.elapse_line_slot, h, hg]

/-- A grant's frame is looked up in the queues alone. -/
theorem State.grantedFrame_congr {s t : State} (hs : t.sender = s.sender) (hr : t.responder = s.responder)
    (g : Grant) : t.grantedFrame g = s.grantedFrame g := by
  unfold State.grantedFrame
  rw [hs, hr]

/-! ### The end of an attempt -/

theorem exec_attemptSent {s : State} {g : Grant} {start : Nat} {bytes : List Byte}
    (h : s.line.transmitter = .sending g start bytes) {dt : Nat} {f : Frame}
    (hp : start + bits (10 * bytes.length) ≤ (s.elapse dt).line.point) (hf : (s.elapse dt).grantedFrame g = some f) :
    exec (.attemptSent dt) s = done (State.arbitrate (State.hand
      { s.elapse dt with line := { (s.elapse dt).line.frameEnded f false with
          transmitter := .idle
          receiver := if ((s.elapse dt).line.frameEnded f false).receiver = .following then .idle
            else ((s.elapse dt).line.frameEnded f false).receiver } } g.source .sent)) := by
  change execAttemptSent dt s = _
  unfold execAttemptSent
  simp only [State.elapse_line_transmitter, h, hf]
  exact if_pos (decide_eq_true hp)

theorem exec_attemptSent_early {s : State} {g : Grant} {start : Nat} {bytes : List Byte}
    (h : s.line.transmitter = .sending g start bytes) {dt : Nat}
    (hp : (s.elapse dt).line.point < start + bits (10 * bytes.length)) :
    exec (.attemptSent dt) s = done (s.elapse dt) := by
  change execAttemptSent dt s = _
  unfold execAttemptSent
  simp only [State.elapse_line_transmitter, h]
  exact if_neg fun h => absurd (of_decide_eq_true h) (Nat.not_le.mpr hp)

/-- The line after the part's own frame (R4, R5, R11). -/
theorem Line.frameEnded_own (l : Line) (f : Frame) :
    ({ l.frameEnded f false with
      transmitter := .idle
      receiver := if (l.frameEnded f false).receiver = .following then .idle
        else (l.frameEnded f false).receiver } : Line) =
    { l with
      transmitter := .idle
      receiver := if l.receiver = .following then .idle else l.receiver
      lastActivity := l.point
      gap := if isStation f.dst && !f.kind.msb then .long else .short
      slot := if isStation f.dst && !f.kind.msb then .other l.point else l.slot } := by
  unfold Line.frameEnded Frame.opensSlot replyFlag
  cases isStation f.dst && !f.kind.msb <;> rfl

/-- A request whose entry stands in the table completes: its reply is appended, and its entry is given back. -/
theorem State.complete_split {s : State} {k : ReqKind} {tag : Byte} {a b : List TableEntry}
    (h : s.link.table = a ++ ⟨tag, k⟩ :: b) (ha : ∀ x ∈ a, x.tag ≠ tag) (content : List Byte) :
    s.complete k tag content [] =
      State.append { s with link := { s.link with table := a ++ b } } (.reply (k.code + 0x80) tag content []) := by
  have hm : (⟨tag, k⟩ : TableEntry) ∈ s.link.table := by rw [h]; simp
  rw [State.complete_held s k tag content (Link.holdsTag_of_mem hm), h,
    eraseP_split (fun e : TableEntry => e.tag == tag) a b ⟨tag, k⟩ (fun x hx => by simp [ha x hx]) (by simp)]
  exact (State.append_withTable s _ (a ++ b)).symm

/-! ### The end of a jam -/

/-- The line after a jam has ended (R8). -/
def Line.jamEnded (l : Line) : Line := { l with transmitter := .idle, lastActivity := l.point, gap := .long }

theorem exec_jamEnd {s : State} {g : Grant} {start : Nat} (h : s.line.transmitter = .jamming g start) (dt : Nat)
    (draw : BitVec 5) : exec (.jamEnd dt draw) s =
      if (s.elapse dt).line.reached start 8 = true then
        if s.line.stopping = true then
          done (State.finishStopping (State.hand { s.elapse dt with line := (s.elapse dt).line.jamEnded }
            g.source .stopped))
        else
          done (State.arbitrate (State.hand { s.elapse dt with line := (s.elapse dt).line.jamEnded }
            g.source (collisionEnd g.attempt (s.elapse dt).line.point draw)))
      else done (s.elapse dt) := by
  have hstop : (s.elapse dt).line.jamEnded.stopping = s.line.stopping := by
    change (s.elapse dt).line.stopping = _
    unfold Line.stopping
    rw [State.elapse_line_lineStop, State.elapse_line_lineSide]
  change execJamEnd dt draw s = _
  unfold execJamEnd
  simp only [State.elapse_line_transmitter, h]
  rw [← hstop]
  rfl

theorem backoffTime_eq (n : Nat) (draw : BitVec 5) :
    backoffTime n draw = 32 * (draw.toNat % 2 ^ (if n < 5 then n else 5)) := by
  unfold backoffTime
  split
  · next h => rw [Nat.min_eq_left (by omega)]
  · next h => rw [Nat.min_eq_right (by omega)]

/-- A back-off of 0 has run already (R9, log 35). -/
theorem backoffState_now (now k : Nat) :
    backoffState now (now + bits (32 * k)) = if k = 0 then .waiting else .backoff (now + bits (32 * k)) := by
  unfold backoffState bits
  exact ite_congr (by rw [eq_iff_iff]; omega) (fun _ => rfl) fun _ => rfl

theorem collisionEnd_below {n : Nat} (h : n < 8) (now : Nat) (draw : BitVec 5) :
    collisionEnd n now draw = .collided (now + bits (32 * (draw.toNat % 2 ^ (if n < 5 then n else 5)))) := by
  rw [collisionEnd, if_pos h, backoffTime_eq]

theorem collisionEnd_last {n : Nat} (h : 8 ≤ n) (now : Nat) (draw : BitVec 5) :
    collisionEnd n now draw = .exhausted := if_neg (by omega)

/-! ### The end of a back-off -/

theorem TxState.backoffRun_of {t : TxState} {r now : Nat} (h : t = .backoff r) (hr : r ≤ now) :
    t.backoffRun now = true := by
  subst h
  exact decide_eq_true hr

theorem exec_backoffEnd_send {s : State} {old rest : List SendEntry} {e : SendEntry} {r dt : Nat}
    (hq : s.sender.queue = old ++ e :: rest) (ho : ∀ x ∈ old, x.tag ≠ e.tag) (he : e.state = .backoff r)
    (hr : r ≤ (s.elapse dt).line.point) :
    exec (.backoffEnd dt (.send e.tag)) s = done (State.arbitrate { s.elapse dt with
      sender := { s.sender with queue := old ++ { e with state := .waiting } :: rest } }) := by
  have hchange : ∀ f, changeFirst (fun x : SendEntry => x.tag == e.tag && x.state.backoffRun (s.elapse dt).line.point)
      f (old ++ e :: rest) = old ++ f e :: rest := fun f =>
    changeFirst_split _ f old rest e (fun x hx => by simp [ho x hx]) (by simp [TxState.backoffRun_of he hr])
  change execBackoffEnd dt (.send e.tag) s = _
  unfold execBackoffEnd
  simp only [State.elapse_sender, hq, hchange]
  unfold State.setSends
  rw [State.elapse_sender]

theorem exec_backoffEnd_reply {s : State} {old rest : List ReplyEntry} {e : ReplyEntry} {r dt : Nat}
    (hq : s.responder.queue = old ++ e :: rest) (he : e.state = .backoff r) (hr : r ≤ (s.elapse dt).line.point) :
    exec (.backoffEnd dt (.reply old.length)) s = done (State.arbitrate { s.elapse dt with
      responder := { s.responder with queue := old ++ { e with state := .waiting } :: rest } }) := by
  have hget : (s.elapse dt).responder.queue[old.length]? = some e := by
    rw [State.elapse_responder, hq]
    simp
  change execBackoffEnd dt (.reply old.length) s = _
  unfold execBackoffEnd
  dsimp only
  rw [hget]
  dsimp only
  rw [if_pos (TxState.backoffRun_of he hr), State.elapse_responder, hq, List.set_append_right _ _ (Nat.le_refl _),
    Nat.sub_self, List.set_cons_zero]
  unfold State.setReplies
  rw [State.elapse_responder]

end Sys2Proof.Machine

namespace Sys2Proof

open Machine

/-- Settles O43: a CONTEND grant waits for the gap, and a SLOT grant for its place in the window. -/
theorem attemptsBeginOnTime : Obligations.AttemptsBeginOnTime := by
  intro dt s g ht
  refine ⟨fun hg => ⟨fun f hf hm hr hp hw => ?gap, fun hne => ?noGap⟩,
    fun fe hg => ⟨fun f hf hm hs h12 h48 => ?slot, fun hne => ?noSlot⟩⟩
  case gap =>
    have hpassed : (s.elapse dt).line.gapHasPassed = true := by
      rw [Line.gapHasPassed_iff, State.elapse_line_receiver, State.elapse_line_lastActivity, State.elapse_line_gap]
      exact ⟨hr, hp⟩
    have hclose : (s.elapse dt).closeSlot =
        { s.elapse dt with line := { (s.elapse dt).line with slot := .none } } :=
      State.closeSlot_unanswered (by rwa [State.elapse_line_slot, State.elapse_responder])
    rw [exec_gapPassed ht, if_pos (by rw [hg, hpassed, hm]; rfl), hclose,
      State.startSending_eq (f := f) (by rw [← hf]; exact State.grantedFrame_congr (by simp) (by simp) g)]
    rfl
  case noGap =>
    refine (exec_gapPassed ht dt).trans (if_neg ?_)
    rw [Bool.and_eq_true, Line.gapHasPassed_iff, State.elapse_line_receiver, State.elapse_line_lastActivity,
      State.elapse_line_gap]
    rintro ⟨-, hq, hp⟩
    rcases hne with h | h | ⟨bs, h⟩
    · omega
    · rw [h] at hq
      simp at hq
    · rw [h] at hq
      simp at hq
  case slot =>
    rw [exec_turnaround ht hg, if_pos ⟨hm, hs, (Line.reached_iff ..).mpr h12, h48⟩,
      State.startSending_eq (f := f) (by rw [← hf]; exact State.grantedFrame_congr (by simp) (by simp) g)]
    rfl
  case noSlot =>
    refine (exec_turnaround ht hg dt).trans (if_neg ?_)
    rw [Line.reached_iff]
    rintro ⟨-, hs, h12, h48⟩
    rcases hne with h | h | h
    · omega
    · omega
    · exact h hs

/-- Settles O44: the attempt's end by the entry it carries, the collision, and the completion. -/
theorem attemptsAreSentOrCollide : Obligations.AttemptsAreSentOrCollide := by
  intro dt s g start bytes ht
  refine ⟨fun l hl hp => ⟨fun old rest e hg hq ho he => ?reply, fun old rest e hg hq ho he => ?send⟩, fun hp => ?early,
    ?collision, fun u k tag content a b h ha => State.complete_split h ha content⟩
  case reply =>
    have hf : (s.elapse dt).grantedFrame g = some e.frame := by
      unfold State.grantedFrame
      rw [hg]
      dsimp only
      rw [State.elapse_responder, find?_isOnLine hq ho he]
      rfl
    rw [exec_attemptSent ht hp hf, Line.frameEnded_own, hg, State.elapse_line_receiver, State.elapse_line_slot, ← hl e.frame,
      State.hand_reply_sent (by rw [← hq]; exact congrArg Responder.queue (State.elapse_responder s dt)) ho he]
    simp only [State.elapse_sieve, State.elapse_classifier, State.elapse_queues, State.elapse_slots,
      State.elapse_responder, State.elapse_sender, State.elapse_link, State.elapse_presence, State.elapse_pins,
      State.elapse_pool, State.elapse_pending]
    rfl
  case send =>
    have hf : (s.elapse dt).grantedFrame g = some e.frame := by
      unfold State.grantedFrame
      rw [hg]
      dsimp only
      rw [State.elapse_sender, find?_onLineAs hq ho he]
      rfl
    have htime : (l e.frame).timebase = (s.elapse dt).line.timebase := by rw [hl]
    rw [exec_attemptSent ht hp hf, Line.frameEnded_own, hg, State.elapse_line_receiver, State.elapse_line_slot, ← hl e.frame,
      State.hand_send_sent (by rw [← hq]; exact congrArg Sender.queue (State.elapse_sender s dt)) ho he]
    simp only [State.elapse_sieve, State.elapse_classifier, State.elapse_queues, State.elapse_slots,
      State.elapse_responder, State.elapse_sender, State.elapse_link, State.elapse_presence, State.elapse_pins,
      State.elapse_pool, State.elapse_pending, htime]
    rfl
  case early => exact exec_attemptSent_early ht hp
  case collision =>
    change execCollision dt s = _
    unfold execCollision
    simp only [State.elapse_line_transmitter, ht, State.elapse_line_counters]
    rfl

end Sys2Proof
end

section
/-! What the end of a jam makes of the entry that collided (R8, R9, R118, R133). -/

namespace Sys2Proof.Machine

/-- The time that passes is the line's alone. -/
theorem State.elapse_withLine (s : State) (dt : Nat) (l : Line) :
    ({ s.elapse dt with line := l } : State) = { s with line := l } := by
  unfold State.elapse
  split <;> rfl

/-- A jam that ends outside a stopping sequence is the end of a collided attempt (R8). -/
theorem exec_jamEnd_collided {s : State} {g : Grant} {start : Nat} (ht : s.line.transmitter = .jamming g start)
    (hst : s.line.stopping = false) {dt : Nat} (hp : start + bits 8 ≤ (s.elapse dt).line.point) (draw : BitVec 5) :
    exec (.jamEnd dt draw) s = done (State.arbitrate (State.hand { s with line := (s.elapse dt).line.jamEnded }
      g.source (collisionEnd g.attempt (s.elapse dt).line.point draw))) := by
  rw [exec_jamEnd ht, if_pos ((Line.reached_iff ..).mpr hp), if_neg (by rw [hst]; decide), State.elapse_withLine]

end Sys2Proof.Machine

namespace Sys2Proof

open Machine

/-- Settles O45: the attempt's number decides between a back-off and the end; the late policy, over a reply in its
window. -/
theorem jamsEndInBackoff : Obligations.JamsEndInBackoff := by
  intro dt s
  refine ⟨fun g start draw l k r after ht hst hk ha hl hr => ⟨fun hp => ?early, fun hp =>
      ⟨fun old rest e hg hq ho he => ⟨fun hn => ?sendBacksOff, fun hn => ?sendFails⟩,
        fun old rest e hg hq ho he => ⟨fun hn hw => ?contends, fun hn hw hlate => ?madeContend,
          fun hn hw hlate => ?dropped, fun hn => ?replyFails⟩⟩⟩,
    fun old rest e r hq ho he hr => exec_backoffEnd_send hq ho he hr,
    fun old rest e r hq he hr => exec_backoffEnd_reply hq he hr⟩
  case early =>
    exact (exec_jamEnd ht dt draw).trans (if_neg fun h => absurd ((Line.reached_iff ..).mp h) (Nat.not_le.mpr hp))
  all_goals
    have hexec : exec (.jamEnd dt draw) s = done (State.arbitrate (State.hand { s with line := l }
        g.source (collisionEnd g.attempt (s.elapse dt).line.point draw))) := by
      rw [hl]
      exact exec_jamEnd_collided ht hst hp draw
    have hpoint : l.point = (s.elapse dt).line.point := by rw [hl]
    have hafter : backoffState l.point r = after := by
      rw [ha, hr, hpoint]
      exact backoffState_now _ k
    rw [hexec, hg]
  case sendBacksOff =>
    rw [collisionEnd_below hn, ← hk, ← hr, State.hand_send_collided (by exact hq) ho he, hafter]
    rfl
  case sendFails =>
    rw [collisionEnd_last hn, State.hand_send_exhausted (by exact hq) ho he]
    rfl
  case contends =>
    rw [collisionEnd_below hn, ← hk, ← hr, State.hand_reply_contend (by exact hq) ho he _ hw, hafter]
    rfl
  case madeContend =>
    rw [collisionEnd_below hn, ← hk, ← hr, State.hand_reply_madeContend (by exact hq) ho he _ hw hlate, hafter]
    rfl
  case dropped =>
    rw [collisionEnd_below hn, ← hk, ← hr, State.hand_reply_dropped (by exact hq) ho he _ hw hlate]
    rfl
  case replyFails =>
    rw [collisionEnd_last hn, State.hand_reply_exhausted (by exact hq) ho he]
    rfl

end Sys2Proof
end

section
/-! The jam that ends in a stopping sequence (R10, R21, R22, R135). -/

namespace Sys2Proof.Machine

/-! ### The outcome STOPPED -/

/-- Whatever the queues hold, the outcome STOPPED keeps every entry and changes nothing else (R135). -/
theorem State.hand_stopped_queues (s : State) (src : Carried) :
    ∃ q r, s.hand src .stopped = { s with
        sender := { s.sender with queue := q }, responder := { s.responder with queue := r } } ∧
      r.length = s.responder.queue.length := by
  cases src with
  | send tag =>
    change ∃ q r, s.handSend tag .stopped = _ ∧ _
    unfold State.handSend
    split
    · exact ⟨_, _, rfl, rfl⟩
    · exact ⟨_, _, rfl, rfl⟩
  | reply =>
    change ∃ q r, s.handReply .stopped = _ ∧ _
    unfold State.handReply
    split
    · exact ⟨_, _, rfl, rfl⟩
    · exact ⟨_, _, rfl, length_changeFirst _ _ _⟩

/-- What follows a stopping sequence concerns the sieve, the classifier and the delivery queues alone. -/
theorem State.toClassifier_keeps (w : State) :
    (∃ r, w.toClassifier.line = { w.line with lineSide := r }) ∧ w.toClassifier.sender = w.sender ∧
      w.toClassifier.responder = w.responder ∧ w.toClassifier.slots = w.slots := by
  cases hs : w.line.lineSide with
  | none =>
    rw [State.toClassifier_none w hs]
    exact ⟨⟨w.line.lineSide, rfl⟩, rfl, rfl, rfl⟩
  | some r =>
    cases he : w.classifier.eval with
    | some e =>
      rw [State.toClassifier_waits w r hs (by rw [he]; rfl)]
      exact ⟨⟨_, rfl⟩, rfl, rfl, rfl⟩
    | none =>
      rw [State.toClassifier_emptied hs he]
      refine ⟨⟨none, ?_⟩, ?_, ?_, ?_⟩
      · rw [State.complete_line]
        change ({ (w.handedOn r.tag).applyCommit.line with lineSide := none } : Line) = _
        rw [State.applyCommit_line]
        rfl
      · rw [State.complete_sender]
        exact State.applyCommit_sender _
      · rw [State.complete_responder]
        exact State.applyCommit_responder _
      · rw [State.complete_slots]
        exact State.applyCommit_slots _

/-! ### The sequence that a jam held up -/

/-- The send entry that a jam ends has made one attempt more. -/
def SendEntry.jammedOff (src : Carried) (e : SendEntry) : SendEntry :=
  if e.state = .onLine ∧ src = .send e.tag then { e with attempts := e.attempts + 1, state := .waiting } else e

theorem SendEntry.jammedOff_tag (src : Carried) (e : SendEntry) : (e.jammedOff src).tag = e.tag := by
  unfold SendEntry.jammedOff
  split <;> rfl

theorem SendEntry.jammedOff_frame (src : Carried) (e : SendEntry) : (e.jammedOff src).frame = e.frame := by
  unfold SendEntry.jammedOff
  split <;> rfl

theorem SendEntry.jammedOff_attempts {src : Carried} {jammed : SendEntry → Bool}
    (hj : ∀ e, jammed e = true ↔ e.state = .onLine ∧ src = .send e.tag) (e : SendEntry) :
    (e.jammedOff src).attempts = e.attempts + (if jammed e then 1 else 0) := by
  unfold SendEntry.jammedOff
  by_cases h : e.state = .onLine ∧ src = .send e.tag
  · rw [if_pos h, if_pos ((hj e).mpr h)]
  · rw [if_neg h, if_neg fun h' => h ((hj e).mp h')]
    rfl

/-- A state whose queues are those of `s` with the jammed entry handed back. -/
structure JammedOff (s v : State) (src : Carried) : Prop where
  link : v.link = s.link
  sieve : v.sieve = s.sieve
  classifier : v.classifier = s.classifier
  queues : v.queues = s.queues
  slots : v.slots = s.slots
  pool : v.pool = s.pool
  sends : v.sender = { s.sender with queue := s.sender.queue.map (SendEntry.jammedOff src) }
  replies : ∃ r, v.responder = { s.responder with queue := r } ∧
    r.map (fun e => e.frame) = s.responder.queue.map (fun e => e.frame)
  lineStop : v.line.lineStop = s.line.lineStop
  lineSide : v.line.lineSide = s.line.lineSide

theorem State.hand_jammedOff {s : State} (hd : DeferredLaw s) (g : Grant) {l : Line}
    (hstop : l.lineStop = s.line.lineStop) (hside : l.lineSide = s.line.lineSide) :
    JammedOff s (State.hand { s with line := l } g.source .stopped) g.source ∧
      (State.hand { s with line := l } g.source .stopped).line = l := by
  obtain ⟨r, hh, hr⟩ := State.hand_stopped { s with line := l } g hd.2.1
  rw [hh]
  exact ⟨⟨rfl, rfl, rfl, rfl, rfl, rfl, rfl, ⟨r, rfl, hr⟩, hstop, hside⟩, rfl⟩

section

variable {s v : State} {src : Carried} (h : JammedOff s v src)

include h

theorem JammedOff.defers (hd : DeferredLaw s) : DeferredLaw v := by
  rw [deferredLaw_iff] at hd ⊢
  have htags : v.sender.queue.map (fun e => e.tag) = s.sender.queue.map (fun e => e.tag) := by
    rw [h.sends, List.map_map]
    exact List.map_congr_left fun e _ => SendEntry.jammedOff_tag src e
  unfold State.Defers at hd ⊢
  rw [h.link, htags, h.sieve, h.lineStop, h.lineSide]
  exact hd

theorem JammedOff.numbered (ms : List Message) : v.numbered ms = s.numbered ms :=
  State.numbered_congr (by rw [h.link]) ms

theorem JammedOff.stoppedPool : v.stoppedPool = s.stoppedPool := by
  obtain ⟨r, hr, hframes⟩ := h.replies
  have hsends : v.sender.queue.map (fun e => e.frame.cells) = s.sender.queue.map (fun e => e.frame.cells) := by
    rw [h.sends, List.map_map]
    exact List.map_congr_left fun e _ => congrArg Frame.cells (SendEntry.jammedOff_frame src e)
  have hreplies : v.responder.queue.map (fun e => e.frame.cells) = s.responder.queue.map (fun e => e.frame.cells) := by
    have hcells := congrArg (List.map Frame.cells) hframes
    rw [List.map_map, List.map_map] at hcells
    rw [hr]
    exact hcells
  unfold State.stoppedPool
  rw [hsends, hreplies, h.pool]

theorem JammedOff.abortedReplies {jammed : SendEntry → Bool}
    (hj : ∀ e, jammed e = true ↔ e.state = .onLine ∧ src = .send e.tag) :
    v.abortedReplies (fun _ => false) = s.abortedReplies jammed := by
  unfold State.abortedReplies
  rw [h.sends, List.map_map]
  refine List.map_congr_left fun e _ => ?_
  change Message.reply 0xE0 (e.jammedOff src).tag [0x0E, byteOf ((e.jammedOff src).attempts + 0)] [] = _
  rw [SendEntry.jammedOff_tag, SendEntry.jammedOff_attempts hj, Nat.add_zero]

theorem JammedOff.sends_eq_nil : v.sender.queue = [] ↔ s.sender.queue = [] := by
  rw [h.sends]
  exact List.map_eq_nil_iff

end

theorem exec_jamEnd_stops {s : State} {g : Grant} {start : Nat} (ht : s.line.transmitter = .jamming g start)
    (hst : s.line.stopping = true) {dt : Nat} (hp : start + bits 8 ≤ (s.elapse dt).line.point) (draw : BitVec 5) :
    exec (.jamEnd dt draw) s = done (State.finishStopping (State.hand { s with line := (s.elapse dt).line.jamEnded }
      g.source .stopped)) := by
  rw [exec_jamEnd ht, if_pos ((Line.reached_iff ..).mpr hp), if_pos hst, State.elapse_withLine]

/-- What the table keeps when a line-side reset has completed too. -/
theorem filter_stop_reset (tab : List TableEntry) :
    (tab.filter keptByStop).filter (fun e => decide (e.kind ≠ .reset)) =
      tab.filter (fun e => decide (e.kind ≠ .frameSend ∧ e.kind ≠ .lineStop ∧ e.kind ≠ .reset)) := by
  rw [List.filter_filter]
  refine List.filter_congr fun e _ => ?_
  unfold keptByStop
  by_cases h1 : e.kind = .frameSend <;> by_cases h2 : e.kind = .lineStop <;> simp [h1, h2]

end Sys2Proof.Machine

namespace Sys2Proof

open Machine

/-- Settles O46: the jam's end hands the entry back, and the sequence runs through from there. -/
theorem stoppingEndsWithTheJam : Obligations.StoppingEndsWithTheJam := by
  intro dt s g start draw ht hst hm hp
  have hexec := exec_jamEnd_stops ht hst hp draw
  refine ⟨⟨_, hexec, ?anyway⟩, fun jammed early l hd ha hj hearly hl => ?messages⟩
  case anyway =>
    obtain ⟨q, r, hh, hr⟩ := State.hand_stopped_queues { s with line := (s.elapse dt).line.jamEnded } g.source
    obtain ⟨w, hw, H⟩ := State.finishStopping_halted
      (State.hand { s with line := (s.elapse dt).line.jamEnded } g.source .stopped)
    obtain ⟨⟨side, hline⟩, hsender, hresp, hslots⟩ := w.toClassifier_keeps
    rw [hw, State.drivePins_line, hline, H.line, State.drivePins_sender, hsender, State.drivePins_responder, hresp,
      H.responder, State.drivePins_slots, hslots, H.slots, hh]
    refine ⟨rfl, rfl, rfl, rfl, rfl, H.sends, rfl, ?_, State.elapse_line_counters s dt, State.elapse_line_rate s dt,
      State.elapse_line_own s dt, State.elapse_line_group s dt, rfl⟩
    exact congrArg (bumpBy s.responder.counters.stopDiscarded) hr
  case messages =>
    obtain ⟨J, hline⟩ := State.hand_jammedOff hd g (l := (s.elapse dt).line.jamEnded)
      (State.elapse_line_lineStop s dt) (State.elapse_line_lineSide s dt)
    generalize hv : State.hand { s with line := (s.elapse dt).line.jamEnded } g.source .stopped = v at *
    have hmode : ¬ v.line.mode = .stopped := by
      rw [hline]
      change ¬ (s.elapse dt).line.mode = .stopped
      rw [State.elapse_line_mode, hm]
      decide
    obtain ⟨w, hw, S⟩ := State.finishStopping_stopped v (J.defers hd) fun _ => by
      unfold State.appendsLineState
      rw [J.link]
      exact ha
    rw [hw] at hexec
    rw [if_neg hmode, J.lineStop, J.abortedReplies hj, J.link, hline,
      show ({ (s.elapse dt).line.jamEnded with
        receiver := .idle, slot := .none, mode := .stopped, resume := none, lineStop := none } : Line) = l from
        hl.symm] at S
    replace S : Stopped v w l early
        (s.link.table.filter (fun e => decide (e.kind ≠ .frameSend ∧ e.kind ≠ .lineStop))) := by
      rw [hearly]
      exact S
    have hside : l.lineSide = s.line.lineSide := by
      rw [hl]
      exact State.elapse_line_lineSide s dt
    have houtbox : w.link.outbox = s.link.outbox ++ s.numbered early := by rw [S.outbox, J.link, J.numbered]
    have hpool : w.pool = s.stoppedPool := S.pool.trans J.stoppedPool
    refine ⟨fun hs => ⟨_, hexec, ?_⟩, fun tag hs => ⟨fun he hc => ⟨_, hexec, ?_⟩, fun he => ⟨_, hexec, ?_⟩⟩⟩
    · rw [State.toClassifier_none w (by rw [S.line, hside, hs])]
      refine ⟨S.line, houtbox, S.table, hpool, S.classifier.trans J.classifier, S.queues.trans J.queues,
        S.sieve.trans J.sieve, fun hq => ?_⟩
      exact S.pass.trans (if_neg fun h => hq (J.sends_eq_nil.mp h))
    · have E := S.sideEnds (by rw [hside, hs]) (by rw [J.classifier, he]) (by rw [J.sieve, hc])
        ((hd.resetIn hs).filter (p := keptByStop) rfl)
      refine ⟨E.line, ?_, ?_, ?_, E.classifier.trans (by rw [J.classifier]), fun q => ?_, E.sieve.trans J.sieve⟩
      · exact E.outbox.trans (by rw [J.link, J.numbered])
      · exact E.table.trans (filter_stop_reset _)
      · refine E.pool.trans ?_
        rw [hpool, State.emptiedFrom, J.classifier, J.queues]
        rfl
      · exact (E.queues q).trans (by rw [J.queues])
    · have heval : w.classifier.eval.isSome = true := by rw [S.classifier, J.classifier, he]
      rw [State.toClassifier_waits w ⟨tag, .stopping⟩ (by rw [S.line, hside, hs]) heval]
      refine ⟨?_, houtbox, S.table, hpool, S.classifier.trans J.classifier, S.queues.trans J.queues,
        S.sieve.trans J.sieve⟩
      rw [State.drivePins_line, S.line]

end Sys2Proof
end

section
/-! The stuck line (R10, R15): what its detection makes of the line and of the attempt it finds. -/

namespace Sys2Proof.Machine

/-! ### The attempt it ends -/

/-- The close of a slot while no grant waits changes neither the transmitter nor the send queue. -/
theorem State.closeSlot_of_no_gapWait {s : State} (h : s.line.transmitter.inGapWait = false) :
    s.closeSlot.line = { s.line with slot := .none } ∧ s.closeSlot.sender = s.sender := by
  have hstarted : ∀ t : State, t.line.transmitter.inGapWait = false → t.notStarted = t := by
    intro t ht
    unfold State.notStarted
    split
    · next g hg => rw [hg] at ht; cases ht
    · rfl
  unfold State.closeSlot
  split
  · next hs => exact ⟨by rw [← hs], rfl⟩
  · unfold State.closingReport
    split
    · exact ⟨rfl, rfl⟩
    · dsimp only
      rw [hstarted _ (by rw [State.lateReply_line]; exact h)]
      split
      · exact ⟨State.lateReply_line _ _ _, State.lateReply_sender _ _ _⟩
      · exact ⟨State.lateReply_line _ _ _, State.lateReply_sender _ _ _⟩
  · exact ⟨rfl, rfl⟩

/-- The counters after a stuck line ends the attempt: a frame in SENDING counts COLLISIONS (R10). -/
def Line.collided (l : Line) : LineCounters :=
  { l.counters with collisions := match l.transmitter with
    | .sending _ _ _ => bump l.counters.collisions
    | _ => l.counters.collisions }

theorem State.endAttemptStuck_line_eq (s : State) (draw : BitVec 5) :
    (s.endAttemptStuck draw).line = { s.line with transmitter := .idle, counters := s.line.collided } := by
  unfold State.endAttemptStuck Line.collided
  cases ht : s.line.transmitter with
  | idle =>
    dsimp only
    rw [← ht]
  | gapWait g =>
    dsimp only
    rw [State.notStarted_line, ht]
    rfl
  | sending g start bytes =>
    dsimp only
    rw [State.hand_line]
  | jamming g start =>
    dsimp only
    rw [State.hand_line]
    rfl

/-! ### The detection -/

/-- The line of a dominant run of `run` bit times, ahead of what follows from it (R15). -/
def State.stuckRun (s : State) (dt run : Nat) : State :=
  { s with line := (s.elapse dt).line.stuck run }

/-- The state at the detection with the slot closed and the reception abandoned. -/
def State.stuckFound (s : State) (dt run : Nat) : State := (s.stuckRun dt run).closeSlot.abandonReception

/-- The state in FAULTED, with its notice and its wake cause (R15, R17). -/
def State.faulted (s : State) (m : HearMode) : State :=
  (State.post { s with line := { s.line with mode := .faulted, resume := some m } }
    (.lineState .faulted (some m))).give .lineFault

theorem HearMode.mode_hears {l : Line} {m : HearMode} (h : l.mode = m.mode) : l.hears = true := by
  unfold Line.hears
  rw [h]
  cases m <;> rfl

theorem HearMode.asResume (m : HearMode) : m.mode.asResume = m := by
  cases m <;> rfl

theorem HearMode.mode_ne_faulted (m : HearMode) : m.mode ≠ .faulted := by
  cases m <;> decide

theorem State.stuckFound_line (s : State) (dt run : Nat) :
    (s.stuckFound dt run).line = { (s.stuckRun dt run).closeSlot.line with receiver := .idle } := rfl

theorem State.stuckFound_mode (s : State) (dt run : Nat) : (s.stuckFound dt run).line.mode = s.line.mode := by
  rw [State.stuckFound_line]
  exact (State.closeSlot_line_mode _).trans (State.elapse_line_mode s dt)

theorem State.stuckFound_stopping (s : State) (dt run : Nat) :
    (s.stuckFound dt run).line.stopping = s.line.stopping := by
  have h1 : (s.stuckFound dt run).line.lineStop = s.line.lineStop :=
    (State.closeSlot_line_lineStop _).trans (State.elapse_line_lineStop s dt)
  have h2 : (s.stuckFound dt run).line.lineSide = s.line.lineSide :=
    (State.closeSlot_line_lineSide _).trans (State.elapse_line_lineSide s dt)
  unfold Line.stopping
  rw [h1, h2]

theorem State.faulted_line (s : State) (m : HearMode) :
    (s.faulted m).line = { s.line with mode := .faulted, resume := some m } := by
  unfold State.faulted
  rw [State.give_line, State.post_line]

theorem exec_stuckLine_hears {s : State} {m : HearMode} (hm : s.line.mode = m.mode) {run : Nat} (hr : 40 < run)
    (dt : Nat) (draw : BitVec 5) :
    exec (.stuckLine dt run draw) s =
      done (if s.line.stopping = true then
        (((s.stuckFound dt run).endAttemptStuck draw).faulted m).finishStopping
      else ((s.stuckFound dt run).endAttemptStuck draw).faulted m) := by
  have hhears : (s.elapse dt).line.hears = true := HearMode.mode_hears ((State.elapse_line_mode s dt).trans hm)
  have hmode : ((s.stuckFound dt run).endAttemptStuck draw).line.mode ≠ .faulted := by
    rw [State.endAttemptStuck_line_eq]
    exact fun h => m.mode_ne_faulted (hm.symm.trans ((s.stuckFound_mode dt run).symm.trans h))
  have hstop : (((s.stuckFound dt run).endAttemptStuck draw).faulted m).line.stopping = s.line.stopping := by
    rw [State.faulted_line, State.endAttemptStuck_line_eq]
    exact s.stuckFound_stopping dt run
  have hchange : (((s.stuckFound dt run).endAttemptStuck draw).changeMode .faulted (some m)).give .lineFault =
      ((s.stuckFound dt run).endAttemptStuck draw).faulted m := by
    rw [State.changeMode_other hmode]
    rfl
  change execStuckLine dt run draw s = _
  unfold execStuckLine
  dsimp only
  rw [if_pos ⟨hhears, hr⟩, State.elapse_line_mode, hm, m.asResume, State.elapse_withLine]
  change done (if ((((s.stuckFound dt run).endAttemptStuck draw).changeMode .faulted (some m)).give
      .lineFault).line.stopping = true then
      ((((s.stuckFound dt run).endAttemptStuck draw).changeMode .faulted (some m)).give .lineFault).finishStopping
    else (((s.stuckFound dt run).endAttemptStuck draw).changeMode .faulted (some m)).give .lineFault) = _
  rw [hchange, hstop]

theorem exec_stuckLine_deaf {s : State} {run : Nat}
    (h : run ≤ 40 ∨ s.line.mode = .stopped ∨ s.line.mode = .faulted) (dt : Nat) (draw : BitVec 5) :
    exec (.stuckLine dt run draw) s = done (s.elapse dt) := by
  refine if_neg ?_
  unfold Line.hears
  rw [State.elapse_line_mode]
  rintro ⟨hh, hr⟩
  rcases h with h | h | h
  · omega
  · rw [h] at hh
    cases hh
  · rw [h] at hh
    cases hh

/-- The line after a stuck line outside a stopping sequence. -/
theorem State.stuckFaulted_line (s : State) (dt run : Nat) (draw : BitVec 5) (m : HearMode) :
    (((s.stuckFound dt run).endAttemptStuck draw).faulted m).line =
      { (s.elapse dt).line.stuck run with
        slot := .none, receiver := .idle, transmitter := .idle, mode := .faulted, resume := some m
        counters := { s.line.counters with
          stuckEvents := bump s.line.counters.stuckEvents
          collisions := match s.line.transmitter with
            | .sending _ _ _ => bump s.line.counters.collisions
            | _ => s.line.counters.collisions } } := by
  have hcounters : (s.elapse dt).line.counters = s.line.counters := State.elapse_line_counters s dt
  have htrans : (s.stuckRun dt run).line.transmitter = s.line.transmitter := State.elapse_line_transmitter s dt
  obtain ⟨tr, hline, htr⟩ := (s.stuckRun dt run).closeSlot_line
  have hcollided : (s.stuckFound dt run).line.collided = { s.line.counters with
      stuckEvents := bump s.line.counters.stuckEvents
      collisions := match s.line.transmitter with
        | .sending _ _ _ => bump s.line.counters.collisions
        | _ => s.line.counters.collisions } := by
    have hc : (s.stuckFound dt run).line.counters =
        { s.line.counters with stuckEvents := bump s.line.counters.stuckEvents } := by
      rw [State.stuckFound_line, hline, ← hcounters]
      rfl
    have ht : (s.stuckFound dt run).line.transmitter = tr := by rw [State.stuckFound_line, hline]
    unfold Line.collided
    rw [hc, ht]
    cases hs : s.line.transmitter with
    | sending g start bytes =>
      have hgap : (s.stuckRun dt run).line.transmitter.inGapWait = false := by rw [htrans, hs]; rfl
      have htr' : tr = .sending g start bytes := by
        have h := congrArg Line.transmitter (hline.symm.trans (State.closeSlot_of_no_gapWait hgap).1)
        exact h.trans (htrans.trans hs)
      rw [htr']
    | idle => rcases htr with h | h <;> simp [h, htrans, hs]
    | gapWait g => rcases htr with h | h <;> simp [h, htrans, hs]
    | jamming g start => rcases htr with h | h <;> simp [h, htrans, hs]
  rw [State.faulted_line, State.endAttemptStuck_line_eq, hcollided, State.stuckFound_line, hline]
  rfl

/-! ### The cleared fault -/

theorem exec_faultCleared {s : State} {m : HearMode} (hm : s.line.mode = .faulted) (hr : s.line.resume = some m)
    (dt : Nat) : exec (.faultCleared dt) s =
      if (s.elapse dt).line.reached s.line.lastActivity 256 = true then
        done (State.arbitrate (State.post
          { s.elapse dt with line := { (s.elapse dt).line with
              mode := m.mode, resume := none, receiver := .idle, gap := .long, stuckCount := 0 } }
          (.lineState m.mode none)))
      else done (s.elapse dt) := by
  have hne : LineMode.faulted ≠ m.mode := fun h => m.mode_ne_faulted h.symm
  change execFaultCleared dt s = _
  unfold execFaultCleared
  simp only [State.elapse_line_mode, State.elapse_line_resume, hm, hr, State.elapse_line_lastActivity]
  rw [State.changeMode_other (by exact hne)]

end Sys2Proof.Machine
end

section
/-! The stuck line in a stopping sequence (R10, R22): LINE_STATE stands first and carries STOPPED at the end. -/

namespace Sys2Proof.Machine

/-- The replies of a LINE_STOP that a stopping sequence completes. -/
def stopReply (stop : Option Byte) : List Message :=
  match stop with
  | some tag => [.reply 0x93 tag [0x00] []]
  | none => []

/-- Step 6 behind the other steps (R22). -/
theorem Stopped.completesLineStop {s v : State} {l : Line} {ms : List Message} {tab : List TableEntry}
    (S : Stopped s v l ms (tab.filter (fun e => decide (e.kind ≠ .frameSend))))
    (hn : (tab.map (fun e => e.tag)).Nodup)
    (hstop : ∀ t, (⟨t, .lineStop⟩ : TableEntry) ∈ tab ↔ l.lineStop = some t) :
    Stopped s v.completeLineStop { l with lineStop := none } (ms ++ stopReply l.lineStop)
      (tab.filter keptByStop) := by
  have hkept : tab.filter keptByStop = (tab.filter (fun e => decide (e.kind ≠ .frameSend))).filter
      (fun e => decide (e.kind ≠ .lineStop)) := by
    rw [List.filter_filter]
    refine List.filter_congr fun e _ => ?_
    simp [keptByStop, Bool.and_comm]
  have hl : v.line.lineStop = l.lineStop := by rw [S.line]
  cases hs : l.lineStop with
  | none =>
    have hv : v.completeLineStop = v := by
      unfold State.completeLineStop
      rw [hl, hs]
    have hnone : tab.filter keptByStop = tab.filter (fun e => decide (e.kind ≠ .frameSend)) := by
      refine List.filter_congr ?_
      rintro ⟨t, k⟩ hx
      have hk : k ≠ .lineStop := by
        rintro rfl
        rw [hstop t, hs] at hx
        cases hx
      simp [keptByStop, hk]
    rw [hv, hnone, stopReply, List.append_nil, ← hs]
    exact S
  | some tag =>
    have hmem := (hstop tag).mpr hs
    have hcomplete : v.completeLineStop =
        State.complete { v with line := { v.line with lineStop := none } } .lineStop tag [0x00] [] := by
      unfold State.completeLineStop
      rw [hl, hs]
      rfl
    have hsub : ∀ x ∈ v.link.table, x ∈ tab := by
      rw [S.table]
      exact fun x hx => (List.mem_filter.mp hx).1
    have hv : Stopped s { v with line := { v.line with lineStop := none } } { l with lineStop := none } ms
        (tab.filter (fun e => decide (e.kind ≠ .frameSend))) :=
      ⟨by simp only [S.line], S.sieve, S.classifier, S.queues, S.slots, S.responder, S.pins, S.pending, S.queue,
        S.pass, S.pool, S.outbox, S.nextSeq, S.table⟩
    have A := hv.append (.reply 0x93 tag [0x00] [])
    rw [hcomplete, State.complete_onlyOfItsKind]
    · refine ⟨A.line, A.sieve, A.classifier, A.queues, A.slots, A.responder, A.pins, A.pending, A.queue, A.pass,
        A.pool, A.outbox, A.nextSeq, ?_⟩
      rw [hkept, ← S.table]
    · change (v.link.table.map _).Nodup
      rw [S.table]
      exact List.Nodup.sublist (List.Sublist.map _ List.filter_sublist) hn
    · rintro ⟨t, k⟩ hx
      refine ⟨?_, ?_⟩
      · rintro rfl
        have ht := (hstop t).mp (hsub _ hx)
        rw [hs] at ht
        exact (Option.some.inj ht).symm
      · rintro rfl
        exact congrArg TableEntry.kind (List.inj_on_of_nodup_map hn (hsub _ hx) hmem rfl)
    · refine ⟨⟨tag, .lineStop⟩, ?_, rfl⟩
      change _ ∈ v.link.table
      rw [S.table]
      exact List.mem_filter.mpr ⟨hmem, rfl⟩

/-- Steps 2 to 6 behind a LINE_STATE that stands UNSENT at the tail: it takes STOPPED, and the replies follow it. -/
theorem State.finishStopping_merged {f : State} (hd : DeferredLaw f) (hm : f.line.mode ≠ .stopped)
    {a : List OutEntry} {q : Byte} {mode : LineMode} {r : Option HearMode}
    (hout : f.link.outbox = a ++ [⟨q, false, .notice (.lineState mode r)⟩])
    (ha : ∀ x ∈ a, x.sent = false → ∀ k, x.msg = .notice k → k.id ≠ .lineState) :
    ∃ w, f.finishStopping = w.toClassifier ∧
      Stopped { f with link := { f.link with outbox := a ++ [⟨q, false, .notice (.lineState .stopped none)⟩] } } w
        { f.line with receiver := .idle, slot := .none, mode := .stopped, resume := none, lineStop := none }
        (f.abortedReplies (fun _ => false) ++ stopReply f.line.lineStop) (f.link.table.filter keptByStop) := by
  refine ⟨_, rfl, ?_⟩
  obtain ⟨S, -, -⟩ := State.stoppedQueues f hd
  have hempty : (f.abandonReception.abortSends f.abandonReception.sender.queue).discardReplies.responder.queue = [] :=
    rfl
  generalize (f.abandonReception.abortSends f.abandonReception.sender.queue).discardReplies = d at *
  have hmode : d.line.mode ≠ .stopped := by rw [S.line]; exact hm
  have hd' : d.link.outbox =
      a ++ ⟨q, false, .notice (.lineState mode r)⟩ :: f.numbered (f.abortedReplies (fun _ => false)) := by
    rw [S.outbox, hout, List.append_assoc]
    rfl
  have henter : d.enterStopped =
      { d with
        line := { d.line with slot := .none, receiver := .idle, mode := .stopped, resume := none }
        link := { d.link with
          outbox := a ++ ⟨q, false, .notice (.lineState .stopped none)⟩ ::
            f.numbered (f.abortedReplies (fun _ => false)) } } := by
    unfold State.enterStopped
    rw [State.closeSlot_of_no_replies hempty]
    dsimp only
    rw [State.changeMode_other (by exact hmode)]
    exact State.post_outbox (s := { d with
      line := { d.line with slot := .none, receiver := .idle, mode := .stopped, resume := none } })
      (n := .lineState .stopped none) (m := .lineState mode r) hd' ha rfl rfl rfl
  have hT : Stopped
      { f with link := { f.link with outbox := a ++ [⟨q, false, .notice (.lineState .stopped none)⟩] } } d.enterStopped
      { f.line with receiver := .idle, slot := .none, mode := .stopped, resume := none }
      (f.abortedReplies (fun _ => false)) (f.link.table.filter (fun e => decide (e.kind ≠ .frameSend))) := by
    rw [henter]
    refine ⟨?_, S.sieve, S.classifier, S.queues, S.slots, S.responder, S.pins, S.pending, S.queue, S.pass, S.pool, ?_,
      S.nextSeq, S.table⟩
    · simp only [S.line]
    · exact (List.append_assoc a [_] _).symm
  exact hT.completesLineStop hd.1 ((deferredLaw_iff f).mp hd).stop

/-- The detection of a stuck line changes no part of the link and, where no grant waits, no send. -/
theorem State.stuckFound_defers {s : State} (hd : DeferredLaw s) (hg : s.line.transmitter.inGapWait = false)
    (dt run : Nat) : DeferredLaw (s.stuckFound dt run) := by
  have hgap : (s.stuckRun dt run).line.transmitter.inGapWait = false :=
    (congrArg Transmitter.inGapWait (State.elapse_line_transmitter s dt)).trans hg
  rw [deferredLaw_iff] at hd ⊢
  refine SameDeferred.defers ⟨?_, ?_, ?_, ?_, ?_⟩ hd
  · exact congrArg Link.table (State.closeSlot_link _)
  · exact congrArg (fun x : Sender => x.queue.map (fun e => e.tag)) (State.closeSlot_of_no_gapWait hgap).2
  · exact congrArg Sieve.commit (State.closeSlot_sieve _)
  · exact (State.closeSlot_line_lineStop _).trans (State.elapse_line_lineStop s dt)
  · exact congrArg (Option.map (fun r => r.tag))
      ((State.closeSlot_line_lineSide (s.stuckRun dt run)).trans (State.elapse_line_lineSide s dt))

/-- The state in FAULTED of a stuck line that ends the jam of a stopping sequence. -/
structure StuckInStop (s f : State) (run : Nat) (src : Carried) (m : HearMode) : Prop where
  defers : DeferredLaw f
  line : f.line.mode = .faulted ∧ f.line.transmitter = .idle ∧ f.line.stuckCount = run ∧
    f.line.lineStop = s.line.lineStop ∧ f.line.lineSide = s.line.lineSide ∧
    f.line.counters = { s.line.counters with stuckEvents := bump s.line.counters.stuckEvents }
  outbox : f.link.outbox =
    s.link.outbox ++ [⟨s.link.nextSeq, false, .notice (.lineState .faulted (some m))⟩]
  nextSeq : f.link.nextSeq = s.link.nextSeq + 1
  table : f.link.table = s.link.table
  classifier : f.classifier = s.classifier
  sieve : f.sieve = s.sieve
  aborted : ∀ jammed : SendEntry → Bool, (∀ e, jammed e = true ↔ e.state = .onLine ∧ src = .send e.tag) →
    f.abortedReplies (fun _ => false) = s.abortedReplies jammed

theorem State.stuckInStop {s : State} {g : Grant} {start : Nat} (hd : DeferredLaw s) (ha : s.appendsLineState 32)
    (ht : s.line.transmitter = .jamming g start) (hst : s.line.stopping = true) (dt run : Nat) (draw : BitVec 5)
    (m : HearMode) :
    StuckInStop s (((s.stuckFound dt run).endAttemptStuck draw).faulted m) run g.source m := by
  have hg : s.line.transmitter.inGapWait = false := by rw [ht]; rfl
  have hgap : (s.stuckRun dt run).line.transmitter.inGapWait = false :=
    (congrArg Transmitter.inGapWait (State.elapse_line_transmitter s dt)).trans hg
  obtain ⟨hline, hsender⟩ := State.closeSlot_of_no_gapWait hgap
  have hline' : (s.stuckFound dt run).line.transmitter = .jamming g start := by
    rw [State.stuckFound_line, hline]
    exact (State.elapse_line_transmitter s dt).trans ht
  have hlink : (s.stuckFound dt run).link = s.link := State.closeSlot_link _
  have hend : (s.stuckFound dt run).endAttemptStuck draw = State.hand
      { s.stuckFound dt run with line := { (s.stuckFound dt run).line with transmitter := .idle } }
      g.source .stopped := by
    unfold State.endAttemptStuck
    rw [hline']
    dsimp only
    rw [if_pos ((s.stuckFound_stopping dt run).trans hst)]
    rfl
  have hdf := State.stuckFound_defers hd hg dt run
  obtain ⟨J, hbl⟩ := State.hand_jammedOff hdf g
    (l := { (s.stuckFound dt run).line with transmitter := .idle }) rfl rfl
  rw [← hend] at J hbl
  have hpost : State.post { (s.stuckFound dt run).endAttemptStuck draw with
      line := { ((s.stuckFound dt run).endAttemptStuck draw).line with mode := .faulted, resume := some m } }
      (.lineState .faulted (some m)) =
      State.append { (s.stuckFound dt run).endAttemptStuck draw with
        line := { ((s.stuckFound dt run).endAttemptStuck draw).line with mode := .faulted, resume := some m } }
        (.notice (.lineState .faulted (some m))) := by
    have hbl' : ((s.stuckFound dt run).endAttemptStuck draw).link = s.link := J.link.trans hlink
    obtain ⟨h1, h2, h3⟩ := ha
    exact State.post_append _ _ (by rw [hbl']; exact h2) (by rw [hbl']; exact h3) (by rw [hbl']; exact h1)
  have hfsender : (((s.stuckFound dt run).endAttemptStuck draw).faulted m).sender =
      ((s.stuckFound dt run).endAttemptStuck draw).sender := by
    unfold State.faulted
    rw [State.give_sender, State.post_sender]
  have hflink : (((s.stuckFound dt run).endAttemptStuck draw).faulted m).link =
      { s.link with
        outbox := s.link.outbox ++ [⟨s.link.nextSeq, false, .notice (.lineState .faulted (some m))⟩]
        nextSeq := s.link.nextSeq + 1 } := by
    unfold State.faulted
    rw [State.give_link, hpost, State.append_eq]
    dsimp only
    rw [J.link, hlink]
  have hfline := State.faulted_line ((s.stuckFound dt run).endAttemptStuck draw) m
  rw [hbl, State.stuckFound_line, hline] at hfline
  have hstop : (((s.stuckFound dt run).endAttemptStuck draw).faulted m).line.lineStop = s.line.lineStop := by
    rw [hfline]
    exact State.elapse_line_lineStop s dt
  have hside : (((s.stuckFound dt run).endAttemptStuck draw).faulted m).line.lineSide = s.line.lineSide := by
    rw [hfline]
    exact State.elapse_line_lineSide s dt
  have hsieve : (((s.stuckFound dt run).endAttemptStuck draw).faulted m).sieve = s.sieve := by
    unfold State.faulted
    rw [State.give_sieve, State.post_sieve]
    exact J.sieve.trans (State.closeSlot_sieve _)
  constructor
  · rw [deferredLaw_iff]
    refine SameDeferred.defers (s := (s.stuckFound dt run).endAttemptStuck draw) ⟨?_, ?_, ?_, ?_, ?_⟩
      ((deferredLaw_iff _).mp (J.defers hdf))
    · rw [hflink, J.link, hlink]
    · rw [hfsender]
    · rw [hsieve, J.sieve]
      exact (congrArg Sieve.commit (State.closeSlot_sieve (s.stuckRun dt run))).symm
    · rw [hfline, hbl, State.stuckFound_line, hline]
    · rw [hfline, hbl, State.stuckFound_line, hline]
  · refine ⟨?_, ?_, ?_, hstop, hside, ?_⟩
    · rw [hfline]
    · rw [hfline]
    · rw [hfline]
      rfl
    · rw [hfline, ← State.elapse_line_counters s dt]
      rfl
  · rw [hflink]
  · rw [hflink]
  · rw [hflink]
  · unfold State.faulted
    rw [State.give_classifier, State.post_classifier]
    exact J.classifier.trans (State.closeSlot_classifier _)
  · exact hsieve
  · intro jammed hj
    have hreplies := J.abortedReplies hj
    unfold State.abortedReplies at hreplies ⊢
    rw [hfsender, hreplies, show (s.stuckFound dt run).sender = s.sender from hsender]

/-- What the whole sequence leaves of a state whose stuck line ended the jam, ahead of a line-side reset's own
steps. -/
theorem StuckInStop.stopped {s f : State} {run : Nat} {src : Carried} {m : HearMode} (F : StuckInStop s f run src m)
    (ha : s.appendsLineState 32) {jammed : SendEntry → Bool}
    (hj : ∀ e, jammed e = true ↔ e.state = .onLine ∧ src = .send e.tag) :
    ∃ w u, f.finishStopping = w.toClassifier ∧ u.classifier = f.classifier ∧ u.sieve = f.sieve ∧
      (∀ ms, u.link.outbox ++ u.numbered ms =
        s.link.outbox ++ s.numbered ([.notice (.lineState .stopped none)] ++ ms)) ∧
      Stopped u w
        { f.line with receiver := .idle, slot := .none, mode := .stopped, resume := none, lineStop := none }
        (s.abortedReplies jammed ++ stopReply s.line.lineStop) (s.link.table.filter keptByStop) := by
  obtain ⟨hmode, -, -, hstop, -, -⟩ := F.line
  obtain ⟨-, hunsent, -⟩ := ha
  obtain ⟨w, hw, S⟩ := State.finishStopping_merged F.defers (by rw [hmode]; decide) F.outbox hunsent
  rw [F.aborted jammed hj, hstop, F.table] at S
  refine ⟨w, { f with link := { f.link with
    outbox := s.link.outbox ++ [⟨s.link.nextSeq, false, .notice (.lineState .stopped none)⟩] } }, hw, rfl, rfl,
    fun ms => ?_, S⟩
  rw [List.singleton_append, State.numbered_cons, List.append_assoc, State.numbered, F.nextSeq]
  rfl

/-- The outcome that a stuck line gives an attempt outside a stopping sequence (R10). -/
theorem State.endAttemptStuck_eq {a b : State} {draw : BitVec 5} {ended : Grant → AttemptEnd}
    (hst : a.line.stopping = false)
    (he : ∀ g : Grant, ended g = collisionEnd g.attempt a.line.point draw)
    (hidle : a.line.transmitter = .idle → b = a)
    (hgap : ∀ g, a.line.transmitter = .gapWait g → b = a.notStarted)
    (hsend : ∀ g start bytes, a.line.transmitter = .sending g start bytes →
      b = State.hand { a with line := { a.line with
        transmitter := .idle
        counters := { a.line.counters with collisions := bump a.line.counters.collisions } } } g.source (ended g))
    (hjam : ∀ g start, a.line.transmitter = .jamming g start →
      b = State.hand { a with line := { a.line with transmitter := .idle } } g.source (ended g)) :
    a.endAttemptStuck draw = b := by
  unfold State.endAttemptStuck
  cases ht : a.line.transmitter with
  | idle => exact (hidle ht).symm
  | gapWait g => exact (hgap g ht).symm
  | sending g start bytes => rw [hsend g start bytes ht, he]
  | jamming g start =>
    rw [hjam g start ht, he]
    dsimp only
    rw [if_neg (by rw [hst]; decide)]
    rfl

theorem State.stuckRun_eq (s : State) (dt run : Nat) :
    s.stuckRun dt run = { s.elapse dt with line := { (s.elapse dt).line with
      lastActivity := (s.elapse dt).line.point, gap := .long, stuckCount := run
      counters := { s.line.counters with stuckEvents := bump s.line.counters.stuckEvents } } } := by
  rw [State.elapse_withLine, ← State.elapse_line_counters s dt]
  rfl

theorem collisionEnd_eq (n now : Nat) (draw : BitVec 5) :
    collisionEnd n now draw = if n < 8 then .collided (now +
      bits (32 * (draw.toNat % 2 ^ (if n < 5 then n else 5)))) else .exhausted := by
  rw [collisionEnd, backoffTime_eq]

end Sys2Proof.Machine

namespace Sys2Proof

open Machine

/-- Settles O47: the run is heard or not, the line is in a stopping sequence or not, and the attempt it ends. -/
theorem stuckLineFaultsAndClears : Obligations.StuckLineFaultsAndClears := by
  intro dt s
  refine ⟨fun run draw => ⟨fun h => exec_stuckLine_deaf h dt draw, fun m hm hr hst => ⟨fun hi hs => ?quiet, ?anyway,
      fun c a b ended hc hab he h1 h2 h3 h4 => ?ended⟩,
    fun g start tag jammed hd ha hr hm ht hstop hside hj => ?lineStop,
    fun g start tag jammed hd ha hr hm ht hstop hside he hc hj => ?lineSide⟩,
    fun u old rest e hq ho he => ⟨fun r => State.hand_send_collided hq ho he r, State.hand_send_exhausted hq ho he,
      fun n end_ ht => State.notStarted_send ht hq ho he⟩,
    fun u old rest e hq ho he => ⟨fun r hw => State.hand_reply_contend hq ho he r hw,
      fun r hw hl => State.hand_reply_madeContend hq ho he r hw hl,
      fun r hw hl => State.hand_reply_dropped hq ho he r hw hl, State.hand_reply_exhausted hq ho he,
      fun n end_ ht => State.notStarted_reply ht hq ho he⟩,
    fun m hm hr => ⟨fun hp => ?cleared, fun hp => ?notYet⟩⟩
  case quiet =>
    have hclose : (s.stuckRun dt run).closeSlot = s.stuckRun dt run := by
      unfold State.closeSlot
      rw [show (s.stuckRun dt run).line.slot = .none from (State.elapse_line_slot s dt).trans hs]
    have hend : (s.stuckFound dt run).endAttemptStuck draw = (s.stuckRun dt run).abandonReception := by
      unfold State.stuckFound State.endAttemptStuck
      rw [hclose, show (s.stuckRun dt run).abandonReception.line.transmitter = .idle from
        (State.elapse_line_transmitter s dt).trans hi]
    rw [exec_stuckLine_hears hm hr, if_neg (by rw [hst]; decide), hend, State.stuckRun_eq,
      ← State.elapse_pool s dt]
    rfl
  case anyway =>
    refine ⟨_, (exec_stuckLine_hears hm hr dt draw).trans (congrArg done (if_neg (by rw [hst]; decide))), ?_⟩
    rw [State.drivePins_line, State.stuckFaulted_line]
    refine ⟨rfl, rfl, rfl, rfl, rfl, rfl, rfl, ?_, ?_, ?_⟩
    · simp [State.faulted, State.stuckFound, State.stuckRun]
    · simp [State.faulted, State.stuckFound, State.stuckRun]
    · simp [State.faulted, State.stuckFound, State.stuckRun]
  case ended =>
    rw [← State.stuckRun_eq] at hc
    have ha : s.stuckFound dt run = a := by
      rw [hab, hc]
      rfl
    have htrans : a.line.transmitter = c.line.transmitter := by rw [hab]
    have hpoint : a.line.point = (s.elapse dt).line.point := by
      obtain ⟨tr, hline, -⟩ := (s.stuckRun dt run).closeSlot_line
      rw [← ha, State.stuckFound_line, hline]
      rfl
    have hb : (s.stuckFound dt run).endAttemptStuck draw = b := by
      rw [ha]
      refine State.endAttemptStuck_eq (ended := ended) ?_ (fun g => ?_) ?_ ?_ ?_ ?_
      · rw [← ha, State.stuckFound_stopping, hst]
      · rw [he, hpoint, collisionEnd_eq]
      · rwa [htrans]
      · rwa [htrans]
      · rwa [htrans]
      · rwa [htrans]
    rw [exec_stuckLine_hears hm hr, if_neg (by rw [hst]; decide), hb]
    rfl
  case lineStop =>
    have hst : s.line.stopping = true := by unfold Line.stopping; rw [hstop]; rfl
    have F := State.stuckInStop hd ha ht hst dt run draw .active
    obtain ⟨w, u, hw, -, -, hout, S⟩ := F.stopped ha hj
    obtain ⟨-, hidle, hcount, -, hfside, hcounters⟩ := F.line
    have hexec := exec_stuckLine_hears (m := .active) hm hr dt draw
    rw [if_pos hst, hw, State.toClassifier_none w (by rw [S.line]; exact hfside.trans hside)] at hexec
    refine ⟨_, hexec, ?_⟩
    rw [State.drivePins_line, S.line]
    refine ⟨rfl, rfl, hidle, rfl, rfl, rfl, hcount, hcounters, S.queue, ?_, ?_, S.table⟩
    · rw [State.drivePins_responder, S.responder]
    · refine S.outbox.trans ((hout _).trans ?_)
      rw [hstop, ← List.append_assoc]
      rfl
  case lineSide =>
    have hst : s.line.stopping = true := by unfold Line.stopping; rw [hside, Bool.or_eq_true]; exact .inr rfl
    have F := State.stuckInStop hd ha ht hst dt run draw .active
    obtain ⟨w, u, hw, hucl, husv, hout, S⟩ := F.stopped ha hj
    obtain ⟨-, hidle, -, -, hfside, -⟩ := F.line
    have E := S.sideEnds (hfside.trans hside) (by rw [hucl, F.classifier, he]) (by rw [husv, F.sieve, hc])
      ((hd.resetIn hside).filter (p := keptByStop) rfl)
    have hexec := exec_stuckLine_hears (m := .active) hm hr dt draw
    rw [if_pos hst, hw] at hexec
    refine ⟨_, hexec, ?_⟩
    rw [State.drivePins_line, E.line]
    refine ⟨rfl, rfl, hidle, rfl, (congrArg Sender.queue E.sender).trans S.queue, ?_, ?_, ?_⟩
    · rw [State.drivePins_responder, E.responder, S.responder]
    · refine E.outbox.trans ((hout _).trans ?_)
      rw [hstop, ← List.append_assoc, ← List.append_assoc]
      simp [stopReply]
    · refine E.table.trans ((filter_stop_reset _).trans (List.filter_congr ?_))
      rintro ⟨t, k⟩ hx
      have hk : k ≠ .lineStop := by
        rintro rfl
        have hl := ((deferredLaw_iff s).mp hd).stop t |>.mp hx
        rw [hstop] at hl
        cases hl
      simp [hk]
  case cleared => exact (exec_faultCleared hm hr dt).trans (if_pos ((Line.reached_iff ..).mpr hp))
  case notYet =>
    exact (exec_faultCleared hm hr dt).trans
      (if_neg fun h => absurd ((Line.reached_iff ..).mp h) (Nat.not_le.mpr hp))

end Sys2Proof
end

section
/-! The line arbiter (R130 to R132). -/

namespace Sys2Proof.Machine

/-! ### The candidates -/

theorem TxState.isWaiting_iff (t : TxState) : t.isWaiting = true ↔ t = .waiting := decide_eq_true_iff

section

variable {q old rest : List ReplyEntry} {r : ReplyEntry}

/-- A reply waits in its window. -/
def ReplyEntry.waitsInWindow (e : ReplyEntry) : Bool := e.window.isSome && e.state.isWaiting

theorem waitsInWindow_eq_false {l : List ReplyEntry} (h : ∀ x ∈ l, x.state = .waiting → x.window = none) :
    ∀ x ∈ l, x.waitsInWindow = false := by
  intro x hx
  rw [ReplyEntry.waitsInWindow, Bool.and_eq_false_iff]
  by_cases hw : x.state = .waiting
  · exact .inl (by rw [h x hx hw]; rfl)
  · exact .inr (decide_eq_false hw)

theorem replyHead_eq (q : List ReplyEntry) :
    replyHead q = (q.find? ReplyEntry.waitsInWindow).or (q.find? (fun e => e.state.isWaiting)) := by
  unfold replyHead
  rw [show (fun e : ReplyEntry => e.window.isSome && e.state.isWaiting) = ReplyEntry.waitsInWindow from rfl]
  cases q.find? ReplyEntry.waitsInWindow <;> rfl

theorem replyHead_window (hq : q = old ++ r :: rest) (ho : ∀ x ∈ old, x.state = .waiting → x.window = none)
    (hr : r.state = .waiting) (hw : r.window.isSome = true) : replyHead q = some r := by
  have hp : r.waitsInWindow = true := by rw [ReplyEntry.waitsInWindow, hw, hr]; rfl
  rw [replyHead_eq, hq, find?_split _ old rest r (waitsInWindow_eq_false ho) hp]
  rfl

theorem replyHead_contend (hq : q = old ++ r :: rest) (ho : ∀ x ∈ old, x.state ≠ .waiting) (hr : r.state = .waiting)
    (hn : ∀ x ∈ q, x.state = .waiting → x.window = none) : replyHead q = some r := by
  have hfind : q.find? ReplyEntry.waitsInWindow = none :=
    List.find?_eq_none.mpr fun x hx => by rw [waitsInWindow_eq_false hn x hx]; decide
  rw [replyHead_eq, hfind, hq]
  exact find?_split (fun e : ReplyEntry => e.state.isWaiting) old rest r (fun x hx => decide_eq_false (ho x hx))
    (decide_eq_true hr)

theorem replyHead_none (h : ∀ x ∈ q, x.state ≠ .waiting) : replyHead q = none := by
  have hfind : q.find? (fun e => e.state.isWaiting) = none :=
    List.find?_eq_none.mpr fun x hx hw => h x hx ((TxState.isWaiting_iff _).mp hw)
  have hwindow : q.find? ReplyEntry.waitsInWindow = none :=
    List.find?_eq_none.mpr fun x hx => by
      rw [waitsInWindow_eq_false (fun y hy hw => absurd hw (h y hy)) x hx]
      decide
  rw [replyHead_eq, hfind, hwindow]
  rfl

/-- Without a reply that waits in its window the head, if any, contends. -/
theorem replyHead_contends (hn : ∀ x ∈ q, x.state = .waiting → x.window = none) :
    ∀ e, replyHead q = some e → e.window = none := by
  intro e he
  have hwindow : q.find? ReplyEntry.waitsInWindow = none :=
    List.find?_eq_none.mpr fun x hx => by rw [waitsInWindow_eq_false hn x hx]; decide
  rw [replyHead_eq, hwindow, Option.none_or] at he
  exact hn e (List.mem_of_find?_eq_some he)
    ((TxState.isWaiting_iff _).mp (List.find?_some (p := fun e : ReplyEntry => e.state.isWaiting) he))

theorem windowHead_eq_false (hn : ∀ x ∈ q, x.state = .waiting → x.window = none) : windowHead q = false := by
  unfold windowHead
  cases h : replyHead q with
  | none => rfl
  | some e =>
    dsimp only
    rw [replyHead_contends hn e h]
    rfl

theorem windowHead_eq_true (hq : q = old ++ r :: rest) (ho : ∀ x ∈ old, x.state = .waiting → x.window = none)
    (hr : r.state = .waiting) (hw : r.window.isSome = true) : windowHead q = true := by
  unfold windowHead
  rw [replyHead_window hq ho hr hw]
  exact hw

end

theorem sendCandidate_some {q old rest : List SendEntry} {e : SendEntry} (hq : q = old ++ e :: rest)
    (ho : ∀ x ∈ old, x.state ≠ .waiting) (he : e.state = .waiting) : sendCandidate q = some e := by
  unfold sendCandidate
  rw [hq]
  exact find?_split (fun e : SendEntry => e.state.isWaiting) old rest e (fun x hx => decide_eq_false (ho x hx))
    (decide_eq_true he)

theorem sendCandidate_none {q : List SendEntry} (h : ∀ e ∈ q, e.state ≠ .waiting) : sendCandidate q = none :=
  List.find?_eq_none.mpr fun x hx hw => h x hx ((TxState.isWaiting_iff _).mp hw)

theorem sendCandidate_isSome (q : List SendEntry) :
    (sendCandidate q).isSome = q.any (fun e => decide (e.state = .waiting)) := List.isSome_find?

/-! ### The choice -/

/-- The reply that waits in its window is chosen first (R131). -/
theorem State.choose_window {s : State} {old rest : List ReplyEntry} {r : ReplyEntry}
    (hq : s.responder.queue = old ++ r :: rest) (ho : ∀ x ∈ old, x.state = .waiting → x.window = none)
    (hr : r.state = .waiting) (hw : r.window.isSome = true) :
    s.choose = { s with
      line := { s.line with transmitter := .gapWait ⟨.reply, r.attempts + 1, r.window⟩ }
      responder := { s.responder with queue := old ++ { r with state := .onLine } :: rest } } := by
  have hchange : s.grantReply r = { s with
      line := { s.line with transmitter := .gapWait ⟨.reply, r.attempts + 1, r.window⟩ }
      responder := { s.responder with queue := old ++ { r with state := .onLine } :: rest } } := by
    unfold State.grantReply
    rw [hq, changeFirst_split _ _ old rest r (fun x hx => ?_) (by simp [TxState.isWaiting, hr])]
    · rfl
    · by_cases hx' : x.state = .waiting
      · simp [ho x hx hx', hw]
      · simp [TxState.isWaiting, hx']
  rw [← hchange]
  unfold State.choose
  rw [replyHead_window hq ho hr hw]
  cases sendCandidate s.sender.queue with
  | none => rfl
  | some e => exact if_pos hw

/-- A reply that contends, while fewer than 4 have passed a send that waits (R131). -/
theorem State.choose_contend {s : State} {old rest : List ReplyEntry} {r : ReplyEntry}
    (hq : s.responder.queue = old ++ r :: rest) (ho : ∀ x ∈ old, x.state ≠ .waiting) (hr : r.state = .waiting)
    (hn : ∀ x ∈ s.responder.queue, x.state = .waiting → x.window = none)
    (hp : s.sender.pass < 4 ∨ ∀ e ∈ s.sender.queue, e.state ≠ .waiting) :
    s.choose = { s with
      line := { s.line with transmitter := .gapWait ⟨.reply, r.attempts + 1, none⟩ }
      responder := { s.responder with queue := old ++ { r with state := .onLine } :: rest }
      sender := { s.sender with pass := s.sender.pass +
        (if s.sender.queue.any (fun e => decide (e.state = .waiting)) then 1 else 0) } } := by
  have hw : r.window = none := hn r (by rw [hq]; simp) hr
  have hchange : ∀ t : State, t.responder = s.responder → t.grantReply r = { t with
      line := { t.line with transmitter := .gapWait ⟨.reply, r.attempts + 1, none⟩ }
      responder := { s.responder with queue := old ++ { r with state := .onLine } :: rest } } := by
    intro t ht
    rw [← hw, ← ht]
    unfold State.grantReply
    rw [ht, hq, changeFirst_split _ _ old rest r (fun x hx => by simp [TxState.isWaiting, ho x hx])
      (by simp [TxState.isWaiting, hr])]
    rw [← ht]
    rfl
  rw [← sendCandidate_isSome]
  unfold State.choose
  rw [replyHead_contend hq ho hr hn]
  cases hs : sendCandidate s.sender.queue with
  | none => exact hchange s rfl
  | some e =>
    have hpass : s.sender.pass < 4 := by
      refine hp.resolve_right fun h => ?_
      rw [sendCandidate_none h] at hs
      cases hs
    have hw' : ¬ r.window.isSome = true := by rw [hw]; decide
    dsimp only
    rw [if_neg hw', if_pos hpass]
    exact hchange { s with sender := { s.sender with pass := s.sender.pass + 1 } } rfl

/-- A send, where no reply is ahead of it (R131). -/
theorem State.choose_send {s : State} {old rest : List SendEntry} {e : SendEntry}
    (hq : s.sender.queue = old ++ e :: rest) (ho : ∀ x ∈ old, x.state ≠ .waiting) (he : e.state = .waiting)
    (hr : (∀ x ∈ s.responder.queue, x.state ≠ .waiting) ∨
      (4 ≤ s.sender.pass ∧ ∀ x ∈ s.responder.queue, x.state = .waiting → x.window = none)) :
    s.choose = { s with
      line := { s.line with transmitter := .gapWait ⟨.send e.tag, e.attempts + 1, none⟩ }
      sender := { queue := old ++ { e with state := .onLine } :: rest, pass := 0 } } := by
  have hchange : s.grantSend e = { s with
      line := { s.line with transmitter := .gapWait ⟨.send e.tag, e.attempts + 1, none⟩ }
      sender := { queue := old ++ { e with state := .onLine } :: rest, pass := 0 } } := by
    unfold State.grantSend
    rw [hq, changeFirst_split (fun x : SendEntry => x.state.isWaiting) _ old rest e
      (fun x hx => decide_eq_false (ho x hx)) (decide_eq_true he)]
    rfl
  rw [← hchange]
  unfold State.choose
  rw [sendCandidate_some hq ho he]
  cases hh : replyHead s.responder.queue with
  | none => rfl
  | some r =>
    rcases hr with hr | ⟨hp, hr⟩
    · rw [replyHead_none hr] at hh
      cases hh
    · have hw : ¬ r.window.isSome = true := by rw [replyHead_contends hr r hh]; decide
      exact (if_neg hw).trans (if_neg (by omega))

theorem State.choose_none {s : State} (hr : ∀ x ∈ s.responder.queue, x.state ≠ .waiting)
    (hs : ∀ e ∈ s.sender.queue, e.state ≠ .waiting) : s.choose = s := by
  unfold State.choose
  rw [replyHead_none hr, sendCandidate_none hs]

/-! ### The arbiter -/

theorem Line.mayGrant_iff (l : Line) : l.mayGrant = true ↔ l.mode = .active ∧ l.stoppingOrReset = false := by
  simp [Line.mayGrant]

theorem State.arbitrate_idle {s : State} (hm : s.line.mode = .active) (hs : s.line.stoppingOrReset = false)
    (hi : s.line.transmitter = .idle) : s.arbitrate = s.choose := by
  unfold State.arbitrate
  rw [if_pos ((Line.mayGrant_iff _).mpr ⟨hm, hs⟩), hi]

/-- A CONTEND grant in GAP_WAIT is withdrawn in favour of a reply in its window (R132). -/
theorem State.arbitrate_withdraws {s : State} (hm : s.line.mode = .active) (hs : s.line.stoppingOrReset = false)
    {src : Carried} {n : Nat} (ht : s.line.transmitter = .gapWait ⟨src, n, none⟩)
    (hw : windowHead s.responder.queue = true) : s.arbitrate = s.notStarted.choose := by
  unfold State.arbitrate
  rw [if_pos ((Line.mayGrant_iff _).mpr ⟨hm, hs⟩), ht]
  exact if_pos hw

/-- Where at most one member meets `p`, changing the first changes them all. -/
theorem changeFirst_eq_map {α : Type} (p : α → Bool) (f : α → α) {l : List α} (h : l.countP p ≤ 1) :
    changeFirst p f l = l.map (fun x => if p x then f x else x) := by
  induction l with
  | nil => rfl
  | cons x l ih =>
    unfold changeFirst
    rw [List.countP_cons] at h
    by_cases hx : p x = true
    · rw [if_pos hx] at h
      have hnone : ∀ y ∈ l, ¬ p y = true := List.countP_eq_zero.mp (by omega)
      rw [if_pos hx, List.map_cons, if_pos hx, List.map_congr_left fun y hy => if_neg (hnone y hy), List.map_id']
    · rw [if_neg hx] at h
      rw [if_neg hx, List.map_cons, if_neg hx, ih (by omega)]

end Sys2Proof.Machine

namespace Sys2Proof

open Machine

/-- Settles O48: what the transmitter does, and then which candidates there are. -/
theorem theArbiterChoosesInOrder : Obligations.TheArbiterChoosesInOrder := by
  intro s
  refine ⟨fun h => ?nothing, fun hm hs hi => ?chooses, fun old rest r so sr e n hm hs ht hq ho hr hw hsq hso he => ?send,
    fun old rest r n back hm hs ht hq ho hr hw hcount hon hback => ?reply⟩
  case nothing =>
    unfold State.arbitrate
    rcases h with h | h | ⟨g, start, bytes, h⟩ | ⟨g, start, h⟩ | ⟨g, ht, h⟩
    · exact if_neg fun hg => h ((Line.mayGrant_iff _).mp hg).1
    · refine if_neg fun hg => ?_
      rw [((Line.mayGrant_iff _).mp hg).2] at h
      cases h
    · rw [h]
      exact ite_self s
    · rw [h]
      exact ite_self s
    · have hno : ¬ (g.slotEnd.isNone && windowHead s.responder.queue) = true := by
        rw [Bool.and_eq_true, Option.isNone_iff_eq_none]
        rintro ⟨hslot, hwin⟩
        rcases h with h | h
        · exact h hslot
        · rw [windowHead_eq_false h] at hwin
          cases hwin
      rw [ht]
      dsimp only
      rw [if_neg hno, ite_self]
  case chooses =>
    rw [State.arbitrate_idle hm hs hi]
    exact ⟨fun old rest r hq ho hr hw => State.choose_window hq ho hr hw,
      fun old rest r hq ho hr hn hp => State.choose_contend hq ho hr hn hp,
      fun old rest e hq ho he hr => State.choose_send hq ho he hr, fun hr he => State.choose_none hr he⟩
  case send =>
    rw [State.arbitrate_withdraws hm hs ht (windowHead_eq_true hq ho hr hw), State.notStarted_send ht hsq hso he,
      State.choose_window (by exact hq) ho hr hw]
  case reply =>
    have honLine : r.state ≠ .onLine := by rw [hr]; decide
    have hcount' : (old ++ r :: rest).countP (fun e => e.state.isOnLine) ≤ 1 := by
      rw [List.countP_append, List.countP_cons_of_neg (by simpa [TxState.isOnLine] using honLine),
        ← List.countP_append]
      exact hcount
    have hmap : ∀ x : ReplyEntry, (if x.state.isOnLine = true then { x with state := .waiting } else x) = back x := by
      intro x
      rw [hback]
      exact if_congr decide_eq_true_iff rfl rfl
    have hback_r : back r = r := by rw [hback, if_neg honLine]
    have hnot : s.notStarted = { s with
        line := { s.line with transmitter := .idle }
        responder := { s.responder with queue := old.map back ++ r :: rest.map back } } := by
      unfold State.notStarted
      rw [ht]
      dsimp only
      rw [hq, changeFirst_eq_map _ _ hcount', List.map_congr_left fun x _ => hmap x, List.map_append, List.map_cons,
        hback_r]
      rfl
    have hold : ∀ x ∈ old.map back, x.state = .waiting → x.window = none := by
      intro x hx hwait
      obtain ⟨y, hy, rfl⟩ := List.mem_map.mp hx
      rw [hback] at hwait ⊢
      split at hwait
      · next hl => rw [if_pos hl]; exact hon y (by simp [hy]) hl
      · next hl => rw [if_neg hl]; exact ho y hy hwait
    rw [State.arbitrate_withdraws hm hs ht (windowHead_eq_true hq ho hr hw), hnot,
      State.choose_window (by rfl) hold hr hw]

end Sys2Proof
end

section
/-! The pool's account (R26 to R32) and the carried sieve entry (Table 11-11). -/

namespace Sys2Proof.Machine

/-! ### The held counts -/

theorem Pool.held_setHeld_other (p : Pool) {h g : Holder} (hg : g ≠ h) (n : Nat) :
    (p.setHeld h n).held g = p.held g := by
  cases h with
  | queue q =>
    cases g with
    | queue r =>
      have hqr : q.val ≠ r.val := fun e => hg (congrArg Holder.queue (Fin.ext e.symm))
      exact Vector.getElem_set_ne q.isLt r.isLt hqr
    | _ => rfl
  | _ => cases g <;> trivial

@[simp] theorem Pool.setHeld_lowWater (p : Pool) (h : Holder) (n : Nat) :
    (p.setHeld h n).lowWater = p.lowWater := by
  cases h <;> rfl

/-- The held counts do not read the free count or the low-water mark. -/
theorem Pool.held_withFree (p : Pool) (g : Holder) (f m : Nat) :
    ({ p with free := f, lowWater := m } : Pool).held g = p.held g := by
  cases g <;> rfl

section

variable (p : Pool) {h g k : Holder} (c : Nat)

theorem Pool.held_claim : (p.claim h c).held h = p.held h + c := by
  unfold Pool.claim
  rw [Pool.held_withFree, Pool.held_setHeld]

theorem Pool.held_claim_other (hg : g ≠ h) : (p.claim h c).held g = p.held g := by
  unfold Pool.claim
  rw [Pool.held_withFree, Pool.held_setHeld_other p hg]

theorem Pool.claim_lowWater :
    (p.claim h c).lowWater = if p.free - c < p.lowWater then p.free - c else p.lowWater := by
  unfold Pool.claim
  dsimp only
  split <;> omega

theorem Pool.held_release : (p.release h c).held h = p.held h - c := by
  unfold Pool.release
  refine (Pool.held_withFree _ h _ _).trans ?_
  rw [Pool.held_setHeld]
  omega

theorem Pool.held_release_other (hg : g ≠ h) : (p.release h c).held g = p.held g := by
  unfold Pool.release
  exact (Pool.held_withFree _ g _ _).trans (Pool.held_setHeld_other p hg _)

theorem Pool.release_free (hc : c ≤ p.held h) : (p.release h c).free = p.free + c := by
  unfold Pool.release
  rw [Nat.min_eq_left hc]

theorem Pool.release_lowWater : (p.release h c).lowWater = p.lowWater := Pool.setHeld_lowWater _ _ _

theorem Pool.release_quota : (p.release h c).quota = p.quota := Pool.setHeld_quota _ _ _

theorem Pool.held_move_from (hg : g ≠ h) : (p.move h g c).held h = p.held h - c := by
  unfold Pool.move
  rw [Pool.held_setHeld_other _ hg.symm, Pool.held_setHeld]
  omega

theorem Pool.held_move_to (hg : g ≠ h) (hc : c ≤ p.held h) : (p.move h g c).held g = p.held g + c := by
  unfold Pool.move
  rw [Pool.held_setHeld, Pool.held_setHeld_other _ hg, Nat.min_eq_left hc]

theorem Pool.held_move_other (hk : k ≠ h) (hk' : k ≠ g) : (p.move h g c).held k = p.held k := by
  unfold Pool.move
  rw [Pool.held_setHeld_other _ hk', Pool.held_setHeld_other _ hk]

theorem Pool.move_lowWater : (p.move h g c).lowWater = p.lowWater := by
  unfold Pool.move
  rw [Pool.setHeld_lowWater, Pool.setHeld_lowWater]

theorem Pool.move_quota : (p.move h g c).quota = p.quota := by
  unfold Pool.move
  rw [Pool.setHeld_quota, Pool.setHeld_quota]

/-- An ordinary claim leaves the reserve: 16 cells, less those RESPONDER holds (R28). -/
theorem Pool.ordinaryOk_iff : p.ordinaryOk c = true ↔ c ≤ p.free ∧ 16 ≤ (p.free - c) + p.responder := by
  unfold Pool.ordinaryOk
  rw [Bool.and_eq_true, decide_eq_true_iff, decide_eq_true_iff]
  omega

end

/-! ### The parts of a carried entry -/

theorem AddrClass.ofByte?_code (c : AddrClass) : AddrClass.ofByte? c.code = some c := by cases c <;> rfl

theorem TermOp.ofByte?_code (o : TermOp) : TermOp.ofByte? o.code = some o := by cases o <;> rfl

theorem TermWidth.ofByte?_bytes (w : TermWidth) : TermWidth.ofByte? (byteOf w.bytes) = some w := by
  cases w <;> rfl

theorem toNat_byteOf_of_lt {n : Nat} (h : n < 256) : (byteOf n).toNat = n :=
  (BitVec.toNat_ofNat n 8).trans (Nat.mod_eq_of_lt h)

/-- Four bytes, high byte first, join to the word they were cut from. -/
theorem wordAt_be32 (v : Word) : wordAt (be32 v) 0 = v := by
  have hbytes : wordAt (be32 v) 0 = ((v.extractLsb' 24 8 ++ v.extractLsb' 16 8 : Half) ++
    (v.extractLsb' 8 8 ++ v.extractLsb' 0 8 : Half) : Word) := rfl
  have hhigh : (v.extractLsb' 24 8 ++ v.extractLsb' 16 8 : Half) = v.extractLsb' 16 16 :=
    BitVec.extractLsb'_append_extractLsb'_eq_extractLsb' rfl
  have hlow : (v.extractLsb' 8 8 ++ v.extractLsb' 0 8 : Half) = v.extractLsb' 0 16 :=
    BitVec.extractLsb'_append_extractLsb'_eq_extractLsb' rfl
  rw [hbytes, hhigh, hlow]
  exact (BitVec.extractLsb'_append_extractLsb'_eq_extractLsb' rfl).trans BitVec.extractLsb'_eq_self

theorem term?_bytes {t : Term} (ht : t.InRange) (rest : List Byte) : term? (t.bytes ++ rest) = some t := by
  obtain ⟨hoff, hend, hmask, hop⟩ := ht
  have hwidth : byteAt (t.bytes ++ rest) 1 = byteOf t.width.bytes := rfl
  have hcode : byteAt (t.bytes ++ rest) 2 = t.op.code := rfl
  have hoffset : natAt (t.bytes ++ rest) 0 = t.offset := toNat_byteOf_of_lt (by omega)
  have hm : wordAt (t.bytes ++ rest) 3 = t.mask := wordAt_be32 t.mask
  have ho : wordAt (t.bytes ++ rest) 7 = t.operand := wordAt_be32 t.operand
  unfold term?
  rw [hwidth, hcode, hoffset, hm, ho, TermWidth.ofByte?_bytes, TermOp.ofByte?_code]
  exact if_pos ⟨hoff, hend, hmask, hop⟩

theorem terms?_bytes {ts : List Term} (h : ∀ t ∈ ts, t.InRange) (rest : List Byte) :
    terms? ts.length (ts.flatMap Term.bytes ++ rest) = some ts := by
  induction ts with
  | nil => rfl
  | cons t ts ih =>
    rw [List.flatMap_cons, List.append_assoc, List.length_cons]
    unfold terms?
    rw [term?_bytes (h t (by simp))]
    have hdrop : (t.bytes ++ (ts.flatMap Term.bytes ++ rest)).drop 11 = ts.flatMap Term.bytes ++ rest := rfl
    rw [hdrop, ih fun u hu => h u (by simp [hu])]
    rfl

theorem window?_field {w : Option (Half × Half)} (h : ∀ x, w = some x → WindowInRange x) (rest : List Byte) :
    window? (yesNo w.isSome) (windowField w ++ rest) = some w := by
  unfold window?
  rw [yesNo?_yesNo]
  cases w with
  | none => rfl
  | some x =>
    obtain ⟨low, high⟩ := x
    have hlow : halfAt (windowField (some (low, high)) ++ rest) 0 = low := halfAt_be16_append low (be16 high ++ rest)
    have hhigh : halfAt (windowField (some (low, high)) ++ rest) 2 = high := halfAt_be16_append high rest
    rw [hlow, hhigh]
    exact if_pos (h _ rfl)

theorem capture?_field {c : Option Capture} (h : ∀ x, c = some x → x.InRange) (rest : List Byte) :
    capture? (yesNo c.isSome) (captureField c ++ rest) = some c := by
  unfold capture?
  rw [yesNo?_yesNo]
  cases c with
  | none => rfl
  | some c =>
    have hr := h c rfl
    obtain ⟨hoff, hpos, hlen, hend⟩ := hr
    have hslot : sixteen? (byteAt (captureField (some c) ++ rest) 0) = some c.slot :=
      number?_byteOf (by omega) c.slot
    have hoffset : natAt (captureField (some c) ++ rest) 1 = c.offset := toNat_byteOf_of_lt (by omega)
    have hlength : natAt (captureField (some c) ++ rest) 2 = c.length := toNat_byteOf_of_lt (by omega)
    rw [hslot, hoffset, hlength]
    exact if_pos ⟨hoff, hpos, hlen, hend⟩

theorem length_windowField (w : Option (Half × Half)) : (windowField w).length = windowBytes (yesNo w.isSome) := by
  cases w <;> rfl

theorem length_captureField (c : Option Capture) : (captureField c).length = captureBytes (yesNo c.isSome) := by
  cases c <;> rfl

theorem length_termBytes (ts : List Term) : (ts.flatMap Term.bytes).length = 11 * ts.length := by
  induction ts with
  | nil => rfl
  | cons t ts ih =>
    have ht : t.bytes.length = 11 := rfl
    rw [List.flatMap_cons, List.length_append, ih, ht, List.length_cons]
    omega

/-- The flags byte carries the two bits, and nothing else. -/
theorem flags_read (a b : Bool) :
    (yesNo a ||| (yesNo b <<< 1)).toNat < 4 ∧ (yesNo a ||| (yesNo b <<< 1)).getLsbD 0 = a ∧
      (yesNo a ||| (yesNo b <<< 1)).getLsbD 1 = b := by
  revert a b
  decide

/-! ### The entry -/

section

variable {e : Entry}

theorem Entry.InRange.termCount (h : e.InRange) : natAt e.bytes 3 = e.terms.length := by
  have hl := h.terms_length
  exact toNat_byteOf_of_lt (by omega)

theorem Entry.InRange.entryLength_bytes (h : e.InRange) : entryLength e.bytes = e.bytes.length := by
  unfold entryLength
  rw [h.termCount, Entry.bytes_eq, List.length_append, List.length_append, List.length_append,
    length_termBytes, length_windowField, length_captureField]
  rfl

theorem Entry.drop_bytes (e : Entry) :
    e.bytes.drop 9 = windowField e.window ++ (captureField e.capture ++ e.terms.flatMap Term.bytes) := by
  rw [Entry.bytes_eq, List.append_assoc, List.append_assoc]
  rfl

theorem Entry.drop_window (e : Entry) :
    e.bytes.drop (9 + windowBytes (yesNo e.window.isSome)) = captureField e.capture ++ e.terms.flatMap Term.bytes := by
  rw [← List.drop_drop, Entry.drop_bytes, ← length_windowField, List.drop_left]

theorem Entry.drop_capture (e : Entry) :
    e.bytes.drop (9 + windowBytes (yesNo e.window.isSome) + captureBytes (yesNo e.capture.isSome)) =
      e.terms.flatMap Term.bytes := by
  rw [← List.drop_drop, Entry.drop_window, ← length_captureField, List.drop_left]

theorem Entry.InRange.entry?_bytes (h : e.InRange) : entry? e.bytes = some e := by
  obtain ⟨hlt, hwake, hcont⟩ := flags_read e.wake e.continue_
  have hclass : AddrClass.ofByte? (byteAt e.bytes 0) = some e.cls := AddrClass.ofByte?_code e.cls
  have hdeliver : orNone? queue? (byteAt e.bytes 6) = some e.deliver := orNone?_orNoneByte (by omega) e.deliver
  have hanswer : orNone? sixteen? (byteAt e.bytes 7) = some e.answer := orNone?_orNoneByte (by omega) e.answer
  have hpresent : byteAt e.bytes 4 = yesNo e.window.isSome := rfl
  have hcaptured : byteAt e.bytes 5 = yesNo e.capture.isSome := rfl
  have hterms : terms? e.terms.length (e.terms.flatMap Term.bytes) = some e.terms := by
    have ht := terms?_bytes h.terms []
    rwa [List.append_nil] at ht
  have hcapture : capture? (yesNo e.capture.isSome) (captureField e.capture ++ e.terms.flatMap Term.bytes) =
    some e.capture := capture?_field h.capture _
  have hwindow := window?_field h.window (captureField e.capture ++ e.terms.flatMap Term.bytes)
  have hcond : e.terms.length ≤ 4 ∧ natAt e.bytes 8 < 4 := ⟨h.terms_length, hlt⟩
  unfold entry?
  simp only [hclass, hpresent, hcaptured, h.termCount, Entry.drop_bytes, Entry.drop_window, Entry.drop_capture,
    hdeliver, hanswer, hterms, hcapture, hwindow, Option.bind_eq_bind, Option.bind_some, if_pos hcond]
  have hflags : byteAt e.bytes 8 = (yesNo e.wake ||| (yesNo e.continue_ <<< 1)) := rfl
  rw [hflags, hwake, hcont]
  cases e with
  | mk inUse cls kindValue kindMask window terms deliver answer capture wake cont =>
    obtain rfl : inUse = true := h.inUse
    rfl

end

end Sys2Proof.Machine

namespace Sys2Proof
open Machine

/-- Settles O22: each operation sets the held counts it names, and the reserve is judged on what it leaves. -/
theorem claimsAreJudgedByTheReserve : Obligations.ClaimsAreJudgedByTheReserve := by
  unfold Obligations.ClaimsAreJudgedByTheReserve
  intro p h c
  refine ⟨p.ordinaryOk_iff c, decide_eq_true_iff, decide_eq_true_iff, rfl, p.held_claim c,
    fun g hg => p.held_claim_other c hg, p.claim_lowWater c, fun hc => ?_⟩
  exact ⟨p.release_free c hc, p.held_release c, fun g hg => p.held_release_other c hg, p.release_lowWater c,
    p.release_quota c, fun g hg => ⟨p.move_free h g c, p.held_move_from c hg, p.held_move_to c hg hc,
      p.move_lowWater c, p.move_quota c, fun k hk hk' => p.held_move_other c hk hk'⟩⟩

/-- Settles O23: each part of the entry reads back at the place its presence codes give. -/
theorem sieveEntryReadsBack : Obligations.SieveEntryReadsBack := by
  unfold Obligations.SieveEntryReadsBack
  intro e hu hl hw hc ht
  have hr : e.InRange := ⟨hu, hl, hw, hc, ht⟩
  exact ⟨hr.entry?_bytes, hr.entryLength_bytes⟩

end Sys2Proof

end

section
/-! QUEUE_SETUP and the arrival of a record (R77 to R85). -/

namespace Sys2Proof.Machine

@[simp] theorem State.withReply_queues (s : State) (k : ReqKind) (tag : Byte) (inline chain : List Byte) :
    (s.withReply k tag inline chain).queues = s.queues := State.append_queues _ _

@[simp] theorem State.withReply_pool (s : State) (k : ReqKind) (tag : Byte) (inline chain : List Byte) :
    (s.withReply k tag inline chain).pool = s.pool := State.append_pool _ _

@[simp] theorem State.withReply_sieve (s : State) (k : ReqKind) (tag : Byte) (inline chain : List Byte) :
    (s.withReply k tag inline chain).sieve = s.sieve := State.append_sieve _ _

@[simp] theorem State.withReply_classifier (s : State) (k : ReqKind) (tag : Byte) (inline chain : List Byte) :
    (s.withReply k tag inline chain).classifier = s.classifier := State.append_classifier _ _

@[simp] theorem State.withReply_slots (s : State) (k : ReqKind) (tag : Byte) (inline chain : List Byte) :
    (s.withReply k tag inline chain).slots = s.slots := State.append_slots _ _

@[simp] theorem State.withReply_responder (s : State) (k : ReqKind) (tag : Byte) (inline chain : List Byte) :
    (s.withReply k tag inline chain).responder = s.responder := State.append_responder _ _

@[simp] theorem State.withReply_sender (s : State) (k : ReqKind) (tag : Byte) (inline chain : List Byte) :
    (s.withReply k tag inline chain).sender = s.sender := State.append_sender _ _

/-! ### The settings QUEUE_SETUP carries -/

theorem Overflow.ofByte?_code (o : Overflow) : Overflow.ofByte? o.code = some o := by cases o <;> rfl

theorem queueSettings?_bytes {c : QueueSettings} (hd : 1 ≤ c.depth) (hd' : c.depth ≤ 64) (hc : c.cells ≤ 192)
    (ha : c.age ≤ 65535) (hf : c.fill ≤ 64) : queueSettings? c.bytes = some c := by
  have henabled : yesNo? (byteAt c.bytes 0) = some c.enabled := yesNo?_yesNo _
  have hdepth : natAt c.bytes 1 = c.depth := toNat_byteOf_of_lt (by omega)
  have hcells : natAt c.bytes 2 = c.cells := toNat_byteOf_of_lt (by omega)
  have hage : (halfAt c.bytes 3).toNat = c.age := by
    have hhalf : halfAt c.bytes 3 = BitVec.ofNat 16 c.age := halfAt_be16 _
    rw [hhalf, BitVec.toNat_ofNat]
    exact Nat.mod_eq_of_lt (by omega)
  have hpolicy : Overflow.ofByte? (byteAt c.bytes 5) = some c.policy := Overflow.ofByte?_code _
  have hfill : natAt c.bytes 6 = c.fill := toNat_byteOf_of_lt (by omega)
  have hwake : yesNo? (byteAt c.bytes 7) = some c.wakeOnFill := yesNo?_yesNo _
  unfold queueSettings?
  rw [henabled, hdepth, hcells, hage, hpolicy, hfill, hwake]
  exact if_pos ⟨hd, hd', hc, hf⟩

/-! ### QUEUE_SETUP -/

/-- The settings of queue `q` are replaced, and the records whose age passes the new limit expire (R84). -/
def State.setUp (s : State) (q : Fin 4) (c : QueueSettings) : State :=
  (s.setQueue q { s.queues[q] with settings := c }).expire q (fun r => r.agedOut c.age s.line.timebase)

theorem execQueueSetup_settings {s : State} {tag : Byte} {q : Fin 4} {c : QueueSettings}
    (h : Accepted s .queueSetup tag (byteOf q.val :: c.bytes)) (hr : queueSettings? c.bytes = some c) :
    execQueueSetup s = done ((s.setUp q c).withReply .queueSetup tag [0x00] []) := by
  have hset : Accepted (s.setUp q c) .queueSetup tag (byteOf q.val :: c.bytes) := h.of_link_eq rfl
  have hbody : (byteOf q.val :: c.bytes).drop 1 = c.bytes := rfl
  unfold execQueueSetup
  rw [State.dispatch_accepted h, queue?_byteOf, hbody, hr]
  exact congrArg done (hset.answerInline [] id (fun _ => rfl) (fun _ => rfl) (Nat.zero_le 47))

/-- The records of queue `q` that meet `p` leave it, counted, with their chains released. -/
theorem State.expire_eq (s : State) (q : Fin 4) (p : Record → Bool) :
    s.expire q p = { s with
      queues := s.queues.set q { s.queues[q] with
        records := s.queues[q].records.filter (fun r => !p r)
        counters := { s.queues[q].counters with
          expired := bumpBy s.queues[q].counters.expired (s.queues[q].records.filter p).length } }
      pool := s.pool.release (.queue q) (cellsOf (s.queues[q].records.filter p)) } := by
  simp [State.expire, State.removeRecords, State.setQueueCounters, State.setQueue, State.release]

theorem State.setUp_eq (s : State) (q : Fin 4) (c : QueueSettings) :
    s.setUp q c = { s with
      queues := s.queues.set q { s.queues[q] with
        settings := c
        records := s.queues[q].records.filter (fun r => !r.agedOut c.age s.line.timebase)
        counters := { s.queues[q].counters with
          expired := bumpBy s.queues[q].counters.expired
            (s.queues[q].records.filter (fun r => r.agedOut c.age s.line.timebase)).length } }
      pool := s.pool.release (.queue q)
        (cellsOf (s.queues[q].records.filter (fun r => r.agedOut c.age s.line.timebase))) } := by
  unfold State.setUp
  rw [State.expire_eq]
  simp [State.setQueue]

theorem Record.agedOut_eq (r : Record) (limit : Nat) (now : Word) :
    r.agedOut limit now = decide (limit ≠ 0 ∧ limit < ageMs now r.stamp) := (Bool.decide_and _ _).symm

theorem Record.not_agedOut_eq (r : Record) (limit : Nat) (now : Word) :
    (!r.agedOut limit now) = decide (limit = 0 ∨ ageMs now r.stamp ≤ limit) := by
  rw [Record.agedOut_eq, ← decide_not, decide_eq_decide]
  omega

/-! ### Arrival -/

section

variable {s : State} {q : Fin 4} {r : Record}

/-- A disabled queue refuses every record (R78). -/
theorem State.arrive_disabled (he : s.queues[q].settings.enabled = false) :
    s.arrive q r = s.refuseRecord q r { s.queues[q].counters with
      disabledDrop := bump s.queues[q].counters.disabledDrop } := by
  unfold State.arrive
  exact if_pos (by rw [he]; rfl)

theorem State.arrive_enabled (he : s.queues[q].settings.enabled = true) :
    s.arrive q r = if r.agedOut s.queues[q].settings.age s.line.timebase then
        s.refuseRecord q r { s.queues[q].counters with expired := bump s.queues[q].counters.expired }
      else if s.fits q r.frame.cells then
        (s.acceptRecord q r).announce q s.queues[q].records.length
      else if s.queues[q].settings.policy = .dropOldest ∧ r.frame.cells ≤ s.queues[q].settings.cells then
        ((State.dropToFit q r.frame.cells s.queues[q].records s).acceptRecord q r).announce q
          s.queues[q].records.length
      else s.refuseRecord q r { s.queues[q].counters with
        overflowNew := bump s.queues[q].counters.overflowNew } := by
  unfold State.arrive
  exact if_neg (by rw [he]; decide)

/-- A record too old for the queue is refused (R78). -/
theorem State.arrive_old (he : s.queues[q].settings.enabled = true) (ha : s.queues[q].settings.age ≠ 0)
    (hold : s.queues[q].settings.age < ageMs s.line.timebase r.stamp) :
    s.arrive q r = s.refuseRecord q r { s.queues[q].counters with
      expired := bump s.queues[q].counters.expired } := by
  rw [State.arrive_enabled he, Record.agedOut_eq]
  exact if_pos (decide_eq_true ⟨ha, hold⟩)

theorem Record.not_agedOut {limit : Nat} {now : Word} (h : limit = 0 ∨ ageMs now r.stamp ≤ limit) :
    ¬ r.agedOut limit now = true := by
  rw [Record.agedOut_eq, decide_eq_true_iff]
  omega

theorem State.not_fits {c : Nat} (h : s.queues[q].settings.depth < s.queues[q].records.length + 1 ∨
    s.queues[q].settings.cells < s.pool.queue[q] + c) : ¬ s.fits q c = true := by
  rw [State.fits_iff]
  omega

/-- Where no room may be made, the record is refused (R79). -/
theorem State.arrive_full (he : s.queues[q].settings.enabled = true)
    (ha : s.queues[q].settings.age = 0 ∨ ageMs s.line.timebase r.stamp ≤ s.queues[q].settings.age)
    (hf : s.queues[q].settings.depth < s.queues[q].records.length + 1 ∨
      s.queues[q].settings.cells < s.pool.queue[q] + r.frame.cells)
    (hp : s.queues[q].settings.policy = .dropNewest ∨ s.queues[q].settings.cells < r.frame.cells) :
    s.arrive q r = s.refuseRecord q r { s.queues[q].counters with
      overflowNew := bump s.queues[q].counters.overflowNew } := by
  have hpolicy : ¬ (s.queues[q].settings.policy = .dropOldest ∧ r.frame.cells ≤ s.queues[q].settings.cells) := by
    rintro ⟨hpol, hcells⟩
    rcases hp with hp | hp
    · rw [hp] at hpol
      cases hpol
    · omega
  rw [State.arrive_enabled he, if_neg (Record.not_agedOut ha), if_neg (State.not_fits hf), if_neg hpolicy]

/-- What an accepted record leaves behind the removal of the head records `old`, which left `rest` (R80, R81). -/
def State.arrived (s : State) (q : Fin 4) (r : Record) (old rest : List Record) : State :=
  { s with
    queues := s.queues.set q { s.queues[q] with
      records := rest ++ [r]
      counters := { s.queues[q].counters with
        overflowOld := bumpBy s.queues[q].counters.overflowOld old.length
        accepted := bump s.queues[q].counters.accepted } }
    pool := (s.pool.release (.queue q) (cellsOf old)).move .classify (.queue q) r.frame.cells }

/-- The head records leave as many as it takes and no more, and the record joins the tail (R80, R81). -/
theorem State.arrive_accepts {old rest : List Record} (hrec : s.queues[q].records = old ++ rest)
    (he : s.queues[q].settings.enabled = true)
    (ha : s.queues[q].settings.age = 0 ∨ ageMs s.line.timebase r.stamp ≤ s.queues[q].settings.age)
    (hp : old = [] ∨ s.queues[q].settings.policy = .dropOldest ∧ r.frame.cells ≤ s.queues[q].settings.cells)
    (hdepth : rest.length + 1 ≤ s.queues[q].settings.depth)
    (hcells : (s.pool.release (.queue q) (cellsOf old)).queue[q] + r.frame.cells ≤ s.queues[q].settings.cells)
    (hneed : ∀ a b, old = a ++ b → b ≠ [] → s.queues[q].settings.depth < (b ++ rest).length + 1 ∨
      s.queues[q].settings.cells < (s.pool.release (.queue q) (cellsOf a)).queue[q] + r.frame.cells) :
    s.arrive q r = (s.arrived q r old rest).announce q s.queues[q].records.length := by
  have hsplit := State.dropToFit_split q r.frame.cells rest old s hrec hneed hdepth hcells
  have hrem : (State.dropToFit q r.frame.cells s.queues[q].records s).acceptRecord q r = s.arrived q r old rest := by
    rw [hrec, hsplit]
    simp [State.acceptRecord, State.arrived, State.setQueue, State.moveCells]
  rw [State.arrive_enabled he, if_neg (Record.not_agedOut ha)]
  by_cases hold : old = []
  · subst hold
    rw [List.nil_append] at hrec
    have hzero : cellsOf ([] : List Record) = 0 := rfl
    rw [hzero, Pool.release_zero] at hcells
    rw [if_pos ((State.fits_iff _ _ _).mpr ⟨by rw [hrec]; exact hdepth, hcells⟩)]
    refine congrArg (State.announce · q s.queues[q].records.length) ?_
    unfold State.arrived State.acceptRecord
    rw [hzero, Pool.release_zero, hrec]
    simp [State.setQueue, State.moveCells]
  · have hnot := hneed [] old rfl hold
    have hzero : cellsOf ([] : List Record) = 0 := rfl
    rw [← hrec, hzero, Pool.release_zero] at hnot
    rw [if_neg (State.not_fits hnot), if_pos (hp.resolve_left hold), hrem]

theorem State.announce_eq (s : State) (q : Fin 4) (before : Nat) :
    s.announce q before =
      if s.queues[q].settings.fill ≠ 0 ∧ before < s.queues[q].settings.fill ∧
          s.queues[q].settings.fill ≤ s.queues[q].records.length then
        (if s.queues[q].settings.wakeOnFill then
          ((if before = 0 then s.post (.queueReady q s.queues[q].records.length s.pool.queue[q]) else s).post
            (.queueFill q s.queues[q].records.length s.pool.queue[q])).give (.fill q)
        else (if before = 0 then s.post (.queueReady q s.queues[q].records.length s.pool.queue[q]) else s).post
          (.queueFill q s.queues[q].records.length s.pool.queue[q]))
      else if before = 0 then s.post (.queueReady q s.queues[q].records.length s.pool.queue[q]) else s := rfl

end

end Sys2Proof.Machine

namespace Sys2Proof
open Machine

/-- Settles O28: the settings are replaced, the records too old for them expire, and the reply follows. -/
theorem queueSetupReplacesTheSettings : Obligations.QueueSetupReplacesTheSettings := by
  unfold Obligations.QueueSetupReplacesTheSettings
  intro s tag q c hd hd' hc ha hf h
  have hset := s.setUp_eq q c
  have hout : s.queues[q].records.length - (s.setUp q c).queues[q].records.length =
      (s.queues[q].records.filter (fun r => r.agedOut c.age s.line.timebase)).length := by
    have hsum := List.length_eq_length_filter_add (l := s.queues[q].records)
      (fun r => r.agedOut c.age s.line.timebase)
    rw [hset]
    simp only [Fin.getElem_fin, Vector.getElem_set_self] at hsum ⊢
    omega
  have hkept : s.queues[q].records.filter (fun r => !r.agedOut c.age s.line.timebase) =
      s.queues[q].records.filter (fun r => decide (c.age = 0 ∨ ageMs s.line.timebase r.stamp ≤ c.age)) :=
    List.filter_congr fun r _ => r.not_agedOut_eq c.age s.line.timebase
  have hgone : s.queues[q].records.filter (fun r => r.agedOut c.age s.line.timebase) =
      s.queues[q].records.filter (fun r => decide (c.age ≠ 0 ∧ c.age < ageMs s.line.timebase r.stamp)) :=
    List.filter_congr fun r _ => r.agedOut_eq c.age s.line.timebase
  have hlink : ((s.setUp q c).withReply .queueSetup tag [0x00] []).link.outbox =
      s.link.outbox ++ [⟨s.link.nextSeq, false, .reply 0xB0 tag [0x00] []⟩] := by
    unfold State.withReply
    rw [State.append_eq]
    rfl
  refine ⟨_, execQueueSetup_settings h (queueSettings?_bytes hd hd' hc ha hf), ?_⟩
  rw [State.drivePins_queues, State.withReply_queues, hout, ← hkept, ← hgone, hset, State.drivePins_link,
    ← hset, hlink]
  refine ⟨?_, ?_, ?_, ?_, fun p hp => ?_, rfl, ?_⟩
  · rw [hset]
    simp
  · rw [hset]
    simp
  · rw [hset]
    simp
  · rw [hset]
    simp [cellsOf]
  · rw [hset]
    simp [Vector.getElem_set_ne, Fin.val_ne_of_ne hp.symm]
  · simp [State.setUp]

/-- Settles O32: the order of the checks, and what each outcome leaves; the room made under DROP_OLDEST is the
shortest head of the queue that suffices. -/
theorem arrivalIsJudgedInOrder : Obligations.ArrivalIsJudgedInOrder := by
  unfold Obligations.ArrivalIsJudgedInOrder
  intro s q r
  refine ⟨State.arrive_disabled, State.arrive_old, State.arrive_full, fun he ha hd hc => ?_,
    fun head rest hrec he ha hp hcell hf hd hc => ?_, fun old rest u v hrec he ha hp hd hc hneed hu hv => ?_⟩
  · have hall := State.arrive_accepts (s := s) (q := q) (r := r) (old := []) (rest := s.queues[q].records) rfl he
      (.inl ha) (.inl rfl) hd (by simpa [cellsOf] using hc) (by simp)
    rw [hall]
    simp [State.arrived, cellsOf]
  · have hneed : ∀ a b, [head] = a ++ b → b ≠ [] → s.queues[q].settings.depth < (b ++ rest).length + 1 ∨
        s.queues[q].settings.cells < (s.pool.release (.queue q) (cellsOf a)).queue[q] + r.frame.cells := by
      intro a b hab hb
      obtain ⟨rfl, rfl⟩ : a = [] ∧ b = [head] := by
        rcases List.singleton_eq_append_iff.mp hab with h | h
        · exact h
        · exact absurd h.2 hb
      have hlen : ([head] ++ rest).length + 1 = rest.length + 2 := rfl
      have hzero : cellsOf ([] : List Record) = 0 := rfl
      rw [hlen, hzero, Pool.release_zero]
      exact hf
    have hall := State.arrive_accepts (s := s) (q := q) (r := r) (old := [head]) (rest := rest) hrec he
      (.inl ha) (.inr ⟨hp, hcell⟩) hd (by simpa [cellsOf] using hc) hneed
    rw [hall]
    simp [State.arrived, cellsOf, bump]
  · have hu' : u = s.arrived q r old rest := hu
    have hall := State.arrive_accepts hrec he ha hp hd hc hneed
    have hlen : u.queues[q].records.length = rest.length + 1 := by
      rw [hu']
      simp [State.arrived]
    have hset : u.queues[q].settings = s.queues[q].settings := by
      rw [hu']
      simp [State.arrived]
    have hready : v = if s.queues[q].records.length = 0 then
        u.post (.queueReady q (rest.length + 1) u.pool.queue[q]) else u := by
      rw [hv]
      simp only [List.length_eq_zero_iff]
    rw [hall, ← hu', State.announce_eq, hlen, hset, ← hready]
    exact ⟨fun hno => if_neg (by omega), fun hfill hlow hhigh => if_pos ⟨hfill, hlow, hhigh⟩⟩

end Sys2Proof
end

section
/-! SEND_CANCEL and SEND_STATUS (R128, R129). -/

namespace Sys2Proof.Machine

section

variable {s : State} {tag other : Byte} {old rest : List SendEntry} {e : SendEntry}

theorem exec_sendStatus (s : State) : exec .sendStatus s = execSendStatus s := rfl

/-! ### SEND_CANCEL -/

theorem execSendCancel_notFound (h : Accepted s .sendCancel tag [other]) (hn : ∀ e ∈ s.sender.queue, e.tag ≠ other) :
    execSendCancel s = done (s.withReply .sendCancel tag [0x11] []) := by
  have hfind : s.sender.queue.find? (fun e => e.tag == other) = none :=
    List.find?_eq_none.mpr fun e he => by simpa using hn e he
  have hbody : byteAt [other] 0 = other := rfl
  unfold execSendCancel
  rw [State.dispatch_accepted h, hbody]
  simp only [State.enterTable_sender, State.emptyBuffer_sender, hfind]
  rw [h.refuse]
  rfl

theorem find?_sendTag (hq : s.sender.queue = old ++ e :: rest) (ho : ∀ x ∈ old, x.tag ≠ other) (he : e.tag = other) :
    s.sender.queue.find? (fun e => e.tag == other) = some e := by
  rw [hq]
  exact find?_split (fun e : SendEntry => e.tag == other) old rest e (fun x hx => by simpa using ho x hx)
    (by simpa using he)

theorem execSendCancel_tooLate (h : Accepted s .sendCancel tag [other]) (hq : s.sender.queue = old ++ e :: rest)
    (ho : ∀ x ∈ old, x.tag ≠ other) (he : e.tag = other) (hs : e.state = .onLine) :
    execSendCancel s = done (s.withReply .sendCancel tag [0x10] []) := by
  have hbody : byteAt [other] 0 = other := rfl
  unfold execSendCancel
  rw [State.dispatch_accepted h, hbody]
  simp only [State.enterTable_sender, State.emptyBuffer_sender, find?_sendTag hq ho he]
  rw [if_pos (TxState.isOnLine_of hs), h.refuse]
  rfl

/-- A send entry is taken back: it leaves the queue and its cells are released (R128). -/
def State.takenBack (s : State) (e : SendEntry) (old rest : List SendEntry) : State :=
  { s with
    sender := { queue := old ++ rest, pass := if old ++ rest = [] then 0 else s.sender.pass }
    pool := s.pool.release .send e.frame.cells }

/-- The FRAME_SEND completes CANCELLED ahead of the reply to the SEND_CANCEL (R128). -/
theorem execSendCancel_cancels (h : Accepted s .sendCancel tag [other]) (hq : s.sender.queue = old ++ e :: rest)
    (ho : ∀ x ∈ old, x.tag ≠ other) (he : e.tag = other) (hs : e.state ≠ .onLine)
    (hh : s.link.holdsTag other = true) :
    execSendCancel s = done (((s.takenBack e old rest).emptyBuffer.complete .frameSend other
      [0x0D, byteOf e.attempts] []).append (.reply ReqKind.sendCancel.replyCode tag [0x00] [])) := by
  have hbody : byteAt [other] 0 = other := rfl
  have hline : ¬ e.state.isOnLine = true := by rw [TxState.isOnLine]; simpa using hs
  have hfree : s.link.holdsTag tag = false := h.2.2.2.1
  have hsplit := State.completeSend_split (s := s.emptyBuffer.enterTable .sendCancel tag) (e := e) hq
    (fun x hx => by rw [he]; exact ho x hx) .cancelled [byteOf e.attempts]
  have hother : other ≠ tag := by
    rintro rfl
    rw [hfree] at hh
    cases hh
  have hbefore := State.complete_enterTable (s.takenBack e old rest).emptyBuffer .sendCancel .frameSend tag other
    [0x0D, byteOf e.attempts] [] hother
  rw [he] at hsplit
  unfold execSendCancel
  rw [State.dispatch_accepted h, hbody]
  simp only [State.enterTable_sender, State.emptyBuffer_sender, find?_sendTag hq ho he]
  rw [if_neg hline, hsplit]
  refine congrArg done ((congrArg (State.refuse · .sendCancel tag .done) hbefore).trans ?_)
  exact State.refuse_entered _ _ _ _ (State.complete_holdsTag (s.takenBack e old rest).emptyBuffer _ _ _ _ _ hfree)

end

end Sys2Proof.Machine

namespace Sys2Proof
open Machine

/-- Settles O36: SEND_CANCEL by whether the tag has an entry and what state it is in; SEND_STATUS reports. -/
theorem sendCancelAndStatusReply : Obligations.SendCancelAndStatusReply := by
  unfold Obligations.SendCancelAndStatusReply
  intro s tag
  refine ⟨fun other h => ⟨fun hn => execSendCancel_notFound h hn, fun old rest e hq ho he =>
    ⟨fun hs => execSendCancel_tooLate h hq ho he hs, fun hs hh => ?cancelled⟩⟩, fun h => ?status⟩
  case cancelled =>
    refine ⟨_, execSendCancel_cancels h hq ho he hs hh, ?_⟩
    rw [State.complete_held _ _ _ _ (by exact hh)]
    simp only [State.append_eq]
    simp only [State.drivePins_sender, State.drivePins_pool, State.drivePins_link, State.drivePins_line,
      State.drivePins_responder, State.drivePins_queues, State.drivePins_slots, State.drivePins_classifier,
      State.drivePins_sieve]
    exact ⟨rfl, rfl, rfl, List.append_assoc _ _ _, rfl, rfl, rfl, rfl, rfl, rfl, rfl⟩
  case status =>
    rw [exec_sendStatus]
    unfold execSendStatus
    rw [State.dispatch_accepted h]
    exact congrArg done (h.answer _ id (fun _ => rfl) (fun _ => rfl))

end Sys2Proof
end

section
/-! Presence: SLEEP, PRESENCE_SETUP, the wake causes, and the removal of the doze reply (R160 to R168). -/

namespace Sys2Proof.Machine

theorem exec_presenceSetup (s : State) : exec .presenceSetup s = execPresenceSetup s := rfl

/-! ### The wake causes -/

section

variable {p : Presence} {c : Cause}

theorem Presence.give_discards (h : p.mask.admits c = false ∨ p.state = .awake) : p.give c = p := by
  unfold Presence.give
  split
  · rename_i ha
    obtain hs : p.state = .awake := h.resolve_left (by simp [ha])
    rw [hs]
  · rfl

theorem Presence.give_joins (ha : p.mask.admits c = true) (hs : p.state = .dozeRequested ∨ p.state = .waking) :
    p.give c = { p with causes := p.causes ||| c.set } := by
  unfold Presence.give
  rw [if_pos ha]
  rcases hs with hs | hs <;> rw [hs]

theorem Presence.give_wakes (ha : p.mask.admits c = true) (hs : p.state = .dozing) :
    p.give c = { p with causes := p.causes ||| c.set, state := .waking } := by
  unfold Presence.give
  rw [if_pos ha, hs]

end

/-! ### SLEEP and PRESENCE_SETUP -/

section

variable {s : State} {tag : Byte}

/-- The reply of SLEEP is appended in AWAKE, where a cause is discarded; then the doze begins (R160). -/
theorem execSleep_accepted (h : Accepted s .sleep tag []) (ha : s.presence.state = .awake) :
    execSleep s = done { s with
      link := { s.link with
        buffer := .empty
        outbox := s.link.outbox ++ [⟨s.link.nextSeq, false, .reply 0xF0 tag (0x00 :: be24 s.presence.causes) []⟩]
        nextSeq := s.link.nextSeq + 1 }
      presence := { s.presence with state := .dozeRequested, dozeReply := some s.link.nextSeq } } := by
  have hp : s.emptyBuffer.presence = s.presence := rfl
  have hgive : s.emptyBuffer.presence.give .outboxHigh = s.presence := Presence.give_discards (.inr ha)
  unfold execSleep
  rw [State.dispatch_accepted h]
  simp only [State.enterTable_presence]
  rw [h.complete]
  unfold State.withReply
  rw [State.append_eq, hgive, hp, ite_self]
  rfl

/-- What PRESENCE_SETUP replaces (R168). -/
def State.presenceSet (m : WakeMask) (high : Nat) (clear : Bool) (s : State) : State :=
  { s with presence := { s.presence with
      mask := m, highMark := high, causes := if clear then 0 else s.presence.causes } }

theorem presenceSetup?_carried (m : WakeMask) {high : Nat} (clear : Bool) (hl : 8 ≤ high) (hh : high ≤ 31) :
    presenceSetup? [yesNo m.fill, yesNo m.slot, yesNo m.lineFault, yesNo m.outboxHigh, byteOf high, yesNo clear] =
      some (m, high, clear) := by
  have hread : natAt [yesNo m.fill, yesNo m.slot, yesNo m.lineFault, yesNo m.outboxHigh, byteOf high,
      yesNo clear] 4 = high := toNat_byteOf_of_lt (by omega)
  unfold presenceSetup?
  rw [hread]
  simp only [byteAt, List.getD_cons_zero, List.getD_cons_succ, yesNo?_yesNo, Option.bind_eq_bind, Option.bind_some]
  exact if_pos ⟨hl, hh⟩

theorem length_be24 (c : BitVec 24) : (be24 c).length = 3 := rfl

theorem execPresenceSetup_carried {m : WakeMask} {high : Nat} {clear : Bool} (hl : 8 ≤ high) (hh : high ≤ 31)
    (h : Accepted s .presenceSetup tag [yesNo m.fill, yesNo m.slot, yesNo m.lineFault, yesNo m.outboxHigh,
      byteOf high, yesNo clear]) :
    execPresenceSetup s = done ((s.presenceSet m high clear).withReply .presenceSetup tag
      (0x00 :: s.presenceContent m high) []) := by
  unfold execPresenceSetup
  rw [State.dispatch_accepted h, presenceSetup?_carried m clear hl hh]
  exact congrArg done (h.answerInline (s.presenceContent m high) (State.presenceSet m high clear) (fun _ => rfl)
    (fun _ => rfl) (by simp [State.presenceContent, length_be24]))

theorem toNat_le_one_of_yesNo? {b : Byte} {v : Bool} (h : yesNo? b = some v) : b.toNat ≤ 1 := by
  by_contra hb
  rw [yesNo?_eq_none (by omega)] at h
  cases h

/-- PRESENCE_SETUP is read only where every value is in range (R168). -/
theorem presenceSetup?_eq_none {body : List Byte}
    (h : 1 < natAt body 0 ∨ 1 < natAt body 1 ∨ 1 < natAt body 2 ∨ 1 < natAt body 3 ∨ natAt body 4 < 8 ∨
      31 < natAt body 4 ∨ 1 < natAt body 5) : presenceSetup? body = none := by
  rw [Option.eq_none_iff_forall_ne_some]
  intro x hx
  simp only [presenceSetup?, Option.bind_eq_bind, Option.bind_eq_some_iff] at hx
  obtain ⟨_, hfill, _, hslot, _, hfault, _, hout, _, hclear, hx⟩ := hx
  have h0 : natAt body 0 ≤ 1 := toNat_le_one_of_yesNo? hfill
  have h1 : natAt body 1 ≤ 1 := toNat_le_one_of_yesNo? hslot
  have h2 : natAt body 2 ≤ 1 := toNat_le_one_of_yesNo? hfault
  have h3 : natAt body 3 ≤ 1 := toNat_le_one_of_yesNo? hout
  have h5 : natAt body 5 ≤ 1 := toNat_le_one_of_yesNo? hclear
  rw [if_neg (by omega)] at hx
  cases hx

/-! ### The removal of the doze reply -/

/-- ATTN is not asserted in DOZING and in WAKING (R151). -/
theorem State.attnCondition_dozing (h : s.presence.state = .dozing ∨ s.presence.state = .waking) :
    s.attnCondition = false := by
  unfold State.attnCondition
  rcases h with h | h <;> rw [h] <;> rfl

theorem State.ackStep_doze {ack : Byte} {rest : List OutEntry} {e : OutEntry} (hout : s.link.outbox = e :: rest)
    (hs : e.sent = true) (hq : e.seq = ack) (hn : s.link.notices = []) (hp : s.presence.state = .dozeRequested)
    (hd : s.presence.dozeReply = some ack) :
    s.ackStep ack = { s with
      link := { s.link with outbox := rest, lastRemoved := ack }
      presence := { s.presence with
        dozeReply := none, state := if s.presence.causes = 0 then .dozing else .waking }
      pool := s.pool.release .outbox e.msg.cells } := by
  have hi : s.link.outbox.findIdx? (fun e => e.sent && e.seq == ack) = some 0 := by
    rw [hout]
    exact findIdx?_split _ [] rest e (by simp) (by simp [hs, hq])
  have htake : s.link.outbox.take (0 + 1) = [e] := by rw [hout]; rfl
  have hdrop : s.link.outbox.drop (0 + 1) = rest := by rw [hout]; rfl
  have hack : s.presence.acknowledge [e] = { s.presence with
      dozeReply := none, state := if s.presence.causes = 0 then .dozing else .waking } := by
    unfold Presence.acknowledge
    rw [hd]
    exact if_pos ⟨hp, by simp [hq]⟩
  unfold State.ackStep
  rw [hi]
  change s.removeAcked (0 + 1) ack = _
  unfold State.removeAcked
  simp only [htake, hdrop, hack]
  rw [State.drainNotices_empty (by exact hn)]
  rfl

end

end Sys2Proof.Machine

namespace Sys2Proof
open Machine

/-- Settles O37: each request by what its body carries. -/
theorem sleepAndPresenceSetupReply : Obligations.SleepAndPresenceSetupReply := by
  unfold Obligations.SleepAndPresenceSetupReply
  intro s tag
  refine ⟨fun h ha => execSleep_accepted h ha, fun m high clear hl hh h => execPresenceSetup_carried hl hh h,
    fun a b c d high o hr h => ?_⟩
  rw [exec_presenceSetup]
  unfold execPresenceSetup
  rw [State.dispatch_accepted h, presenceSetup?_eq_none (body := [a, b, c, d, high, o]) hr]
  exact congrArg done (h.refuse .badField)

/-- Settles O38: a cause by its class and the state, and the ACK that removes the doze reply. -/
theorem presenceSettlesAndWakes : Obligations.PresenceSettlesAndWakes := by
  unfold Obligations.PresenceSettlesAndWakes
  refine ⟨fun p c => ⟨⟨rfl, rfl, fun _ => rfl, fun _ => rfl, rfl, rfl⟩, Presence.give_discards, Presence.give_joins,
    Presence.give_wakes⟩, fun s ack rest e hx hout hs hq hn hp hd => ?_⟩
  refine ⟨_, exec_getAck hx ack, ?_⟩
  rw [State.ackStep_doze hout hs hq hn hp hd]
  refine ⟨rfl, State.attnCondition_dozing ?_, rfl, rfl, rfl, fun hc => ⟨if_pos hc, ?_⟩,
    fun hc => ⟨if_neg hc, ?_⟩⟩
  · by_cases hc : s.presence.causes = 0
    · exact .inl (if_pos hc)
    · exact .inr (if_neg hc)
  · refine decide_eq_false fun hw => ?_
    have hdoze : PresenceState.dozing = .waking := (if_pos hc).symm.trans hw
    cases hdoze
  · exact decide_eq_true (if_neg hc)

end Sys2Proof
end

section
/-! The receiver: a frame begins, its bytes are placed, and activity ends (R11 to R13). -/

namespace Sys2Proof.Machine

/-! ### FRAME_START -/

section

variable {s : State} {dt : Nat}

theorem exec_frameStart_own (hh : (s.elapse dt).line.hears = true) (hr : s.line.receiver = .idle) {g : Grant}
    {start : Nat} {bytes : List Byte} (ht : s.line.transmitter = .sending g start bytes) :
    exec (.frameStart dt) s = done ((s.elapse dt).setReceiver .following) := by
  change execFrameStart dt s = _
  unfold execFrameStart
  simp only [State.elapse_line_transmitter, State.elapse_line_receiver, ht]
  exact if_pos ⟨hh, hr⟩

theorem exec_frameStart_other (hh : (s.elapse dt).line.hears = true) (hr : s.line.receiver = .idle)
    (ht : ∀ g start bytes, s.line.transmitter ≠ .sending g start bytes) :
    exec (.frameStart dt) s = done (State.closeSlot { s.elapse dt with line :=
      { (s.elapse dt).line.otherActivity (s.elapse dt).line.point with receiver := .receiving [] } }).arbitrate := by
  change execFrameStart dt s = _
  unfold execFrameStart
  simp only [State.elapse_line_transmitter, State.elapse_line_receiver]
  rw [if_pos ⟨hh, hr⟩]

end

/-! ### One byte -/

section

variable {s : State} {bs : List Byte} {b : Byte}

theorem storedComplete_eq_false (h : bs.length < 7 ∨ bs.length < 7 + natAt bs 6) : storedComplete bs = false := by
  unfold storedComplete
  rw [Bool.and_eq_false_iff, decide_eq_false_iff_not, decide_eq_false_iff_not]
  omega

theorem needsCell_iff (bs : List Byte) : needsCell bs = true ↔ bs.length % 64 = 0 := beq_iff_eq

theorem natAt_last (h : bs.length = 6) : natAt (bs ++ [b]) 6 = b.toNat := by
  have hb : byteAt (bs ++ [b]) 6 = b := by
    rw [← h]
    exact byteAt_append_right bs [b] 0
  exact congrArg BitVec.toNat hb

/-- A byte shows a malformed frame at the fourth stored byte and at the seventh (R3). -/
theorem foundMalformed_append (bs : List Byte) (b : Byte) :
    foundMalformed (bs ++ [b]) = true ↔
      (bs.length = 3 ∧ isStation (halfAt (bs ++ [b]) 2) = false) ∨ (bs.length = 6 ∧ 248 < b.toNat) := by
  have hl : (bs ++ [b]).length = bs.length + 1 := by simp
  have hlast : bs.length = 6 → natAt (bs ++ [b]) 6 = b.toNat := natAt_last
  unfold foundMalformed
  rw [hl]
  simp only [Bool.or_eq_true, Bool.and_eq_true, beq_iff_eq, Bool.not_eq_true', decide_eq_true_iff]
  constructor
  · rintro (⟨h, hs⟩ | ⟨h, hs⟩)
    · exact .inl ⟨by omega, hs⟩
    · rw [hlast (by omega)] at hs
      exact .inr ⟨by omega, hs⟩
  · rintro (⟨h, hs⟩ | ⟨h, hs⟩)
    · exact .inl ⟨by omega, hs⟩
    · rw [hlast h]
      exact .inr ⟨by omega, hs⟩

section

variable (hr : s.line.receiver = .receiving bs) (hc : storedComplete bs = false)
include hr hc

/-- The state with the cell claimed that a byte behind `bs` needs (R12). -/
def State.withCell (s : State) (bs : List Byte) : State := if needsCell bs then s.claim .receive 1 else s

theorem State.receiveByte_noCell (hn : bs.length % 64 = 0) (ho : s.pool.ordinaryOk 1 = false) :
    s.receiveByte b = s.dropFrame .discarding { s.line.counters with noCell := bump s.line.counters.noCell } := by
  unfold State.receiveByte
  rw [hr]
  simp [hc, ho, (needsCell_iff bs).mpr hn]

theorem State.receiveByte_claims (ho : bs.length % 64 = 0 → s.pool.ordinaryOk 1 = true) :
    s.receiveByte b = if foundMalformed (bs ++ [b]) then
        (s.withCell bs).dropFrame .discarding
          { (s.withCell bs).line.counters with malformed := bump (s.withCell bs).line.counters.malformed }
      else (s.withCell bs).setReceiver (.receiving (bs ++ [b])) := by
  have hrefused : (needsCell bs && !s.pool.ordinaryOk 1) = false := by
    cases hn : needsCell bs with
    | false => rfl
    | true => rw [ho ((needsCell_iff bs).mp hn)]; rfl
  unfold State.receiveByte State.withCell
  rw [hr]
  simp [hc, hrefused]

end

end

/-! ### Bytes one after another -/

/-- The line as it stands with the present point as a point of other activity (R4). -/
def Line.active (l : Line) : Prop := l.lastActivity = l.point ∧ l.gap = .long

theorem Line.active.otherActivity {l : Line} (h : l.active) : l.otherActivity l.point = l := by
  obtain ⟨hp, hg⟩ := h
  cases l
  cases hp
  cases hg
  rfl

theorem State.receiveByte_active {s : State} (h : s.line.active) (b : Byte) : (s.receiveByte b).line.active := by
  unfold State.receiveByte
  split
  · split
    · exact h
    · split
      · exact h
      · dsimp only
        split <;> split <;> exact h
  · exact h

theorem State.foldl_receiveByte_active (bs : List Byte) :
    ∀ {s : State}, s.line.active → (bs.foldl State.receiveByte s).line.active := by
  induction bs with
  | nil => exact fun h => h
  | cons b bs ih => exact fun h => ih (State.receiveByte_active h b)

/-- Outside IN_FRAME no byte is placed. -/
theorem State.receiveByte_not_receiving {s : State} (h : ∀ bs, s.line.receiver ≠ .receiving bs) (b : Byte) :
    s.receiveByte b = s := by
  unfold State.receiveByte
  cases hr : s.line.receiver with
  | receiving bs => exact absurd hr (h bs)
  | _ => rfl

theorem State.foldl_receiveByte_not_receiving {s : State} (h : ∀ bs, s.line.receiver ≠ .receiving bs)
    (bs : List Byte) : bs.foldl State.receiveByte s = s := by
  induction bs with
  | nil => rfl
  | cons b bs ih => rw [List.foldl_cons, State.receiveByte_not_receiving h, ih]

theorem State.receiveBytes_receiving {s : State} {bs : List Byte} (h : s.line.receiver = .receiving bs)
    (new : List Byte) : s.receiveBytes new = new.foldl State.receiveByte (s.setLineGap s.line.point) := by
  unfold State.receiveBytes
  rw [h]

theorem State.receiveBytes_not_receiving {s : State} (h : ∀ bs, s.line.receiver ≠ .receiving bs)
    (new : List Byte) : s.receiveBytes new = s := by
  unfold State.receiveBytes
  cases hr : s.line.receiver with
  | receiving bs => exact absurd hr (h bs)
  | _ => rfl

theorem State.receiveBytes_active {s : State} (h : s.line.active) (new : List Byte) :
    s.receiveBytes new = new.foldl State.receiveByte s := by
  by_cases hr : ∃ bs, s.line.receiver = .receiving bs
  · obtain ⟨bs, hr⟩ := hr
    rw [State.receiveBytes_receiving hr]
    unfold State.setLineGap
    rw [h.otherActivity]
  · have hn : ∀ bs, s.line.receiver ≠ .receiving bs := fun bs hb => hr ⟨bs, hb⟩
    rw [State.receiveBytes_not_receiving hn, State.foldl_receiveByte_not_receiving hn]

/-- Bytes that arrive together are judged as they are one part after the other (log 22). -/
theorem State.receiveBytes_append (s : State) (a b : List Byte) :
    s.receiveBytes (a ++ b) = (s.receiveBytes a).receiveBytes b := by
  by_cases hr : ∃ bs, s.line.receiver = .receiving bs
  · obtain ⟨bs, hr⟩ := hr
    have hact : (s.setLineGap s.line.point).line.active := ⟨rfl, rfl⟩
    rw [State.receiveBytes_receiving hr, State.receiveBytes_receiving hr, List.foldl_append,
      State.receiveBytes_active (State.foldl_receiveByte_active a hact)]
  · have hn : ∀ bs, s.line.receiver ≠ .receiving bs := fun bs hb => hr ⟨bs, hb⟩
    rw [State.receiveBytes_not_receiving hn, State.receiveBytes_not_receiving hn, State.receiveBytes_not_receiving hn]

/-! ### The signals are not looked at -/

/-- The state with other signals. -/
def State.withPins (s : State) (p : Pins) : State := { s with pins := p }

theorem State.receiveByte_withPins (s : State) (p : Pins) (b : Byte) :
    (s.withPins p).receiveByte b = (s.receiveByte b).withPins p := by
  unfold State.receiveByte
  cases hr : s.line.receiver with
  | receiving bs =>
    have hr' : (s.withPins p).line.receiver = .receiving bs := hr
    rw [hr']
    dsimp only
    cases storedComplete bs with
    | true => rfl
    | false =>
      cases hn : needsCell bs with
      | false => cases foundMalformed (bs ++ [b]) <;> rfl
      | true =>
        have hp : (s.withPins p).pool.ordinaryOk 1 = s.pool.ordinaryOk 1 := rfl
        rw [hp]
        cases s.pool.ordinaryOk 1 with
        | false => rfl
        | true => cases foundMalformed (bs ++ [b]) <;> rfl
  | _ =>
    have hr' : (s.withPins p).line.receiver = s.line.receiver := rfl
    rw [hr', hr]

theorem State.receiveBytes_withPins (s : State) (p : Pins) (new : List Byte) :
    (s.withPins p).receiveBytes new = (s.receiveBytes new).withPins p := by
  have hfold : ∀ (new : List Byte) (u : State),
      new.foldl State.receiveByte (u.withPins p) = (new.foldl State.receiveByte u).withPins p := by
    intro new
    induction new with
    | nil => exact fun _ => rfl
    | cons b new ih => exact fun u => by rw [List.foldl_cons, State.receiveByte_withPins, ih]; rfl
  by_cases hr : ∃ bs, s.line.receiver = .receiving bs
  · obtain ⟨bs, hr⟩ := hr
    rw [State.receiveBytes_receiving hr, ← hfold]
    exact State.receiveBytes_receiving (s := s.withPins p) hr new
  · have hn : ∀ bs, s.line.receiver ≠ .receiving bs := fun bs hb => hr ⟨bs, hb⟩
    rw [State.receiveBytes_not_receiving hn]
    exact State.receiveBytes_not_receiving (s := s.withPins p) hn new

theorem Line.elapse_zero (l : Line) : l.elapse 0 = l := by
  have hf : (l.fraction.toNat + 0) / 4 = 0 := Nat.div_eq_of_lt l.fraction.isLt
  unfold Line.elapse
  rw [hf]
  split <;> simp

theorem State.elapse_zero (s : State) : s.elapse 0 = s := by
  unfold State.elapse
  rw [Line.elapse_zero]
  split <;> rfl

/-- The signals that a command before this one has driven are driven anew. -/
theorem State.drivePins_driven (s : State) (a w : Bool) :
    (s.withPins { s.pins with attn := a, wake := w }).drivePins = s.drivePins := rfl

/-- An operation that does not look at the signals may follow a command that has driven them. -/
theorem State.drivePins_congr {g : State → State} (hg : ∀ s p, g (s.withPins p) = (g s).withPins p) (s : State) :
    (g s.drivePins).drivePins = (g s).drivePins := by
  have hpins : (g s).pins = s.pins := by
    have h := congrArg State.pins (hg s s.pins)
    exact h
  have hkept : s.drivePins.pins = { (g s).pins with
      attn := s.attnCondition, wake := decide (s.presence.state = .waking) } := by
    rw [hpins]
    rfl
  change (g (s.withPins s.drivePins.pins)).drivePins = _
  rw [hg, hkept, State.drivePins_driven]

/-! ### The commands that carry bytes -/

/-- The bytes have arrived in the span `dt` (R12). -/
def State.received (s : State) (dt : Nat) (bytes : List Byte) : State := (s.elapse dt).receiveBytes bytes

theorem exec_receiveClaim (s : State) (dt : Nat) (bytes : List Byte) :
    exec (.receiveClaim dt bytes) s = done (s.received dt bytes) := rfl

theorem exec_malformed (s : State) (dt : Nat) (bytes : List Byte) :
    exec (.malformed dt bytes) s = done (s.received dt bytes) := rfl

theorem State.received_one {s : State} {bs : List Byte} (hr : s.line.receiver = .receiving bs) (dt : Nat) (b : Byte) :
    s.received dt [b] = ((s.elapse dt).setLineGap (s.elapse dt).line.point).receiveByte b :=
  State.receiveBytes_receiving (by rw [State.elapse_line_receiver, hr]) [b]

/-- The bytes that come behind `a` in one command may come in a command of their own. -/
theorem State.received_append (s : State) (dt : Nat) (a b : List Byte) :
    done (s.received dt (a ++ b)) = done ((s.received dt a).drivePins.received 0 b) := by
  unfold State.received
  rw [State.elapse_zero, State.receiveBytes_append]
  exact (congrArg Host.Outcome.next
    (State.drivePins_congr (g := (State.receiveBytes · b)) (fun s p => s.receiveBytes_withPins p b) _)).symm

end Sys2Proof.Machine

namespace Sys2Proof
open Machine

/-- Settles O39: how a frame begins, and what each byte of it can do. -/
theorem receptionPlacesBytes : Obligations.ReceptionPlacesBytes := by
  unfold Obligations.ReceptionPlacesBytes
  intro dt s
  have hk : (s.elapse dt).line.counters = s.line.counters := State.elapse_line_counters s dt
  have hp : (s.elapse dt).pool = s.pool := State.elapse_pool s dt
  refine ⟨fun hh hr => ⟨fun g start bytes ht => exec_frameStart_own hh hr ht, fun ht => exec_frameStart_other hh hr ht⟩,
    fun b bs hr hc => ?byte, fun b rest => ⟨_, rfl, State.received_append s dt [b] rest,
      State.received_append s dt [b] rest⟩⟩
  case byte =>
    have hr' : (s.elapse dt).line.receiver = .receiving bs := by rw [State.elapse_line_receiver, hr]
    have hc' := storedComplete_eq_false hc
    rw [exec_receiveClaim, exec_malformed, State.received_one hr, ← hk, ← hp]
    refine ⟨fun hn ho => ?noCell, fun hs hl ho => ?placed, fun hm => ?malformed⟩
    case noCell =>
      rw [State.receiveByte_noCell (by exact hr') hc' hn (by exact ho)]
      rfl
    case placed =>
      have hgood : ¬ foundMalformed (bs ++ [b]) = true := by
        rw [foundMalformed_append]
        rintro (⟨h3, hbad⟩ | ⟨h6, hbad⟩)
        · rw [hs h3] at hbad
          cases hbad
        · exact absurd (hl h6) (by omega)
      rw [State.receiveByte_claims (by exact hr') hc' (by exact ho), if_neg hgood]
      unfold State.withCell
      by_cases hn : bs.length % 64 = 0
      · rw [if_pos ((needsCell_iff bs).mpr hn), if_pos hn]
        rfl
      · rw [if_neg fun h => hn ((needsCell_iff bs).mp h), if_neg hn]
        rfl
    case malformed =>
      have hbad : foundMalformed (bs ++ [b]) = true := (foundMalformed_append bs b).mpr hm
      rw [State.receiveByte_claims (by exact hr') hc' (by omega), if_pos hbad]
      unfold State.withCell
      rw [if_neg fun h => by have hn := (needsCell_iff bs).mp h; omega]
      rfl

end Sys2Proof
end

section
/-! The ends of activity and of frames (R11 to R14, R59). -/

namespace Sys2Proof.Machine

section

variable {s : State} {dt : Nat} {bs : List Byte}

/-! ### FRAGMENT and ACTIVITY_END -/

theorem exec_fragment_firstByte (hr : s.line.receiver = .idle) (hh : (s.elapse dt).line.hears = true) :
    exec (.fragment dt .firstByte) s = done (State.closeSlot { s.elapse dt with line :=
      { (s.elapse dt).line.otherActivity (s.elapse dt).line.point with
        receiver := .discarding
        counters := { s.line.counters with fragment := bump s.line.counters.fragment } } }).arbitrate := by
  change execFragment dt .firstByte s = _
  unfold execFragment
  simp only [State.elapse_line_receiver, State.elapse_line_counters, hr]
  exact if_pos hh

theorem exec_fragment_framingFault (hr : s.line.receiver = .receiving bs) :
    exec (.fragment dt .framingFault) s = done (((s.elapse dt).dropFrame .discarding
      { s.line.counters with fragment := bump s.line.counters.fragment }).setLineGap (s.elapse dt).line.point) := by
  change execFragment dt .framingFault s = _
  unfold execFragment
  simp only [State.elapse_line_receiver, State.elapse_line_counters, hr]

theorem exec_fragment_prematureIdle (hr : s.line.receiver = .receiving bs) :
    exec (.fragment dt .prematureIdle) s = done (((s.elapse dt).dropFrame .idle
      { s.line.counters with fragment := bump s.line.counters.fragment }).setLineGap
        (max s.line.lastActivity ((s.elapse dt).line.point - bits 4))) := by
  change execFragment dt .prematureIdle s = _
  unfold execFragment
  simp only [State.elapse_line_receiver, State.elapse_line_counters, State.elapse_line_lastActivity, hr]

theorem exec_activityEnd_discarding (hr : s.line.receiver = .discarding) :
    exec (.activityEnd dt) s = done { s.elapse dt with line :=
      { (s.elapse dt).line.otherActivity (max s.line.lastActivity ((s.elapse dt).line.point - bits 4)) with
        receiver := .idle, stuckCount := 0 } } := by
  change execActivityEnd dt s = _
  unfold execActivityEnd
  simp only [State.elapse_line_receiver, State.elapse_line_lastActivity]
  exact if_pos (.inl hr)

/-! ### The frame that the bytes make -/

variable {f : Frame}

theorem Frame.natAt_length (hf : f.payload.length ≤ 248) : natAt f.bytes 6 = f.payload.length :=
  toNat_byteOf_of_lt (by omega)

theorem Frame.storedComplete_bytes (hf : f.payload.length ≤ 248) : storedComplete f.bytes = true := by
  unfold storedComplete
  rw [Frame.natAt_length hf, Frame.bytes_length]
  unfold Frame.length
  rw [Bool.and_eq_true, decide_eq_true_iff, decide_eq_true_iff]
  omega

theorem Frame.ofBytes_bytes (f : Frame) : Frame.ofBytes f.bytes = f := by
  have hdst : halfAt f.bytes 0 = f.dst := halfAt_be16 f.dst
  have hsrc : halfAt f.bytes 2 = f.src := halfAt_be16 f.src
  unfold Frame.ofBytes
  rw [hdst, hsrc]
  rfl

/-! ### FRAME_END -/

theorem exec_frameEnd_nil (hf : f.payload.length ≤ 248) (hr : s.line.receiver = .receiving f.bytes) (fcs : Half) :
    exec (.frameEnd dt [] fcs) s =
      if crc f.bytes = fcs then
        done (((s.elapse dt).setLineGap (s.elapse dt).line.point).goodFrame f)
      else done ((((s.elapse dt).setLineGap (s.elapse dt).line.point).dropFrame .idle
        { (s.elapse dt).line.counters with fcsError := bump (s.elapse dt).line.counters.fcsError }).setLineGap
          (s.elapse dt).line.point) := by
  have hr' : (s.elapse dt).line.receiver = .receiving f.bytes := by rw [State.elapse_line_receiver, hr]
  have hrec : (s.elapse dt).receiveBytes [] = (s.elapse dt).setLineGap (s.elapse dt).line.point :=
    State.receiveBytes_receiving hr' []
  have hr'' : ((s.elapse dt).setLineGap (s.elapse dt).line.point).line.receiver = .receiving f.bytes := hr'
  change execFrameEnd dt [] fcs s = _
  unfold execFrameEnd
  simp only [hrec, hr'', Frame.storedComplete_bytes hf, Frame.ofBytes_bytes, if_true]
  rfl

/-- The line after the end of a good frame (R4, R5, R14). -/
def Line.goodEnd (l : Line) (f : Frame) : Line :=
  { l with
    receiver := .idle
    lastActivity := l.point
    gap := if f.opensSlot then .long else .short
    slot := if f.opensSlot then (if l.own.contains f.dst then .own l.point else .other l.point) else l.slot
    counters := { l.counters with good := bump l.counters.good } }

theorem Line.frameEnded_good (l : Line) (f : Frame) :
    ({ (l.otherActivity l.point).frameEnded f true with
      receiver := .idle
      counters := { ((l.otherActivity l.point).frameEnded f true).counters with
        good := bump ((l.otherActivity l.point).frameEnded f true).counters.good } } : Line) = l.goodEnd f := by
  unfold Line.frameEnded Line.goodEnd
  cases f.opensSlot <;> rfl

theorem State.freeId_congr {t : State} (h : ∀ i, t.holdsId i = s.holdsId i) (n : Nat) :
    ∀ i, t.freeId n i = s.freeId n i := by
  induction n with
  | zero => exact fun _ => rfl
  | succ n ih =>
    intro i
    unfold State.freeId
    rw [h, ih]

theorem State.nextFrameId_congr {t : State} (h : ∀ i, t.holdsId i = s.holdsId i)
    (hid : t.classifier.frameId = s.classifier.frameId) : t.nextFrameId = s.nextFrameId := by
  unfold State.nextFrameId
  rw [hid, State.freeId_congr h]

/-- The frame joins the classification queue, or it is refused; an evaluation may begin at once (R59). -/
theorem State.goodFrame_eq (s : State) (l : Line) (f : Frame) :
    (({ s with line := l } : State).setLineGap l.point).goodFrame f =
      if s.classifier.queue = [] then
        (({ s with line := l.goodEnd f } : State).enqueue f l.timebase l.point).startEvaluation
      else ({ s with line := l.goodEnd f } : State).enqueue f l.timebase l.point := by
  rw [← Line.frameEnded_good]
  rfl

theorem State.enqueue_joins (s : State) (l : Line) (f : Frame) (stamp : Word) (end_ : Nat)
    (hq : s.classifier.queue.length < 4) :
    ({ s with line := l } : State).enqueue f stamp end_ = { s with
      line := l
      classifier := { s.classifier with
        queue := s.classifier.queue ++ [⟨f, s.nextFrameId, stamp, end_⟩], frameId := s.nextFrameId }
      pool := s.pool.move .receive .classify f.cells } := by
  have hid : ({ s with line := l } : State).nextFrameId = s.nextFrameId := State.nextFrameId_congr (fun _ => rfl) rfl
  unfold State.enqueue
  rw [hid]
  exact if_pos hq

theorem State.enqueue_refused (s : State) (l : Line) (f : Frame) (stamp : Word) (end_ : Nat)
    (hq : s.classifier.queue.length = 4) :
    ({ s with line := l } : State).enqueue f stamp end_ = { s with
      line := l
      classifier := { s.classifier with counters := { s.classifier.counters with
        overrun := bump s.classifier.counters.overrun } }
      pool := s.pool.release .receive f.cells } := by
  unfold State.enqueue
  exact if_neg (by rw [hq]; decide)

theorem State.startEvaluation_busy (he : s.classifier.eval.isSome = true) : s.startEvaluation = s := by
  unfold State.startEvaluation
  rw [he]
  rfl

/-- An evaluation begins where no commit is pending: the generation and the lists are fixed (R61). -/
theorem State.startEvaluation_begins {w : Waiting} {ws : List Waiting} (he : s.classifier.eval = none)
    (hh : s.line.holdsClassifier = false) (hq : s.classifier.queue = w :: ws) (hc : s.sieve.commit = none) :
    s.startEvaluation = { s with classifier := { s.classifier with
      queue := ws, eval := some ⟨w, s.sieve.generation, s.line.own, s.line.group⟩ } } := by
  unfold State.startEvaluation
  rw [he, hh, hq]
  simp only [State.applyCommit_none hc]
  rfl

/-! ### A frame's end does not look at the signals -/

theorem State.complete_withPins (s : State) (p : Pins) (k : ReqKind) (tag : Byte) (inline chain : List Byte) :
    (s.withPins p).complete k tag inline chain = (s.complete k tag inline chain).withPins p := by
  have hh : (s.withPins p).link.holdsTag tag = s.link.holdsTag tag := rfl
  unfold State.complete
  rw [hh]
  cases s.link.holdsTag tag with
  | false => rfl
  | true =>
    rw [State.append_eq, State.append_eq]
    rfl

theorem State.applyCommit_withPins (s : State) (p : Pins) : (s.withPins p).applyCommit = s.applyCommit.withPins p := by
  cases hc : s.sieve.commit with
  | none => rw [State.applyCommit_none hc, State.applyCommit_none (by exact hc)]
  | some tag =>
    have hc' : (s.withPins p).sieve.commit = some tag := hc
    cases hf : s.sieve.staged.failing s.responder.templates with
    | none =>
      have hf' : (s.withPins p).sieve.staged.failing (s.withPins p).responder.templates = none := hf
      unfold State.applyCommit
      simp only [hc, hc', hf, hf']
      rw [← State.complete_withPins]
      rfl
    | some x =>
      have hf' : (s.withPins p).sieve.staged.failing (s.withPins p).responder.templates = some x := hf
      unfold State.applyCommit
      simp only [hc, hc', hf, hf']
      rw [← State.complete_withPins]
      rfl

theorem State.startEvaluation_withPins (s : State) (p : Pins) :
    (s.withPins p).startEvaluation = s.startEvaluation.withPins p := by
  have hbusy : ((s.withPins p).classifier.eval.isSome || (s.withPins p).line.holdsClassifier) =
      (s.classifier.eval.isSome || s.line.holdsClassifier) := rfl
  unfold State.startEvaluation
  rw [hbusy, State.applyCommit_withPins]
  split
  · rfl
  · cases hq : s.classifier.queue with
    | nil =>
      have hq' : (s.withPins p).classifier.queue = [] := hq
      rw [hq']
    | cons w ws =>
      have hq' : (s.withPins p).classifier.queue = w :: ws := hq
      rw [hq']
      rfl

theorem State.enqueue_withPins (s : State) (p : Pins) (f : Frame) (stamp : Word) (end_ : Nat) :
    (s.withPins p).enqueue f stamp end_ = (s.enqueue f stamp end_).withPins p := by
  have hid : (s.withPins p).nextFrameId = s.nextFrameId := State.nextFrameId_congr (fun _ => rfl) rfl
  have hq : (s.withPins p).classifier.queue = s.classifier.queue := rfl
  unfold State.enqueue
  rw [hid, hq]
  split <;> rfl

theorem State.goodFrame_withPins (s : State) (p : Pins) (f : Frame) :
    (s.withPins p).goodFrame f = (s.goodFrame f).withPins p := by
  have hgood : (s.withPins p).goodFrame f =
      if s.classifier.queue = [] then
        (((({ s with line := { s.line.frameEnded f true with
          receiver := .idle
          counters := { (s.line.frameEnded f true).counters with
            good := bump (s.line.frameEnded f true).counters.good } } } : State).withPins p).enqueue f s.line.timebase
              s.line.point)).startEvaluation
      else (({ s with line := { s.line.frameEnded f true with
          receiver := .idle
          counters := { (s.line.frameEnded f true).counters with
            good := bump (s.line.frameEnded f true).counters.good } } } : State).withPins p).enqueue f s.line.timebase
              s.line.point := rfl
  rw [hgood, State.enqueue_withPins, State.startEvaluation_withPins]
  unfold State.goodFrame
  split <;> rfl

/-- What the end of a frame leaves, its bytes placed (R14). -/
def State.frameJudged (fcs : Half) (s : State) : State :=
  match s.line.receiver with
  | .receiving bs =>
    if storedComplete bs then
      if crc bs = fcs then s.goodFrame (Frame.ofBytes bs)
      else (s.dropFrame .idle { s.line.counters with fcsError := bump s.line.counters.fcsError }).setLineGap
        s.line.point
    else s
  | _ => s

theorem exec_frameEnd (s : State) (dt : Nat) (bytes : List Byte) (fcs : Half) :
    exec (.frameEnd dt bytes fcs) s = done ((s.received dt bytes).frameJudged fcs) := by
  change execFrameEnd dt bytes fcs s = _
  unfold execFrameEnd State.frameJudged State.received
  generalize (s.elapse dt).receiveBytes bytes = u
  cases hr : u.line.receiver with
  | receiving bs =>
    simp only [hr]
    split
    · split <;> rfl
    · rfl
  | _ => simp only [hr]

theorem State.frameJudged_withPins (fcs : Half) (s : State) (p : Pins) :
    (s.withPins p).frameJudged fcs = (s.frameJudged fcs).withPins p := by
  unfold State.frameJudged
  cases hr : s.line.receiver with
  | receiving bs =>
    have hr' : (s.withPins p).line.receiver = .receiving bs := hr
    rw [hr']
    dsimp only
    split
    · split
      · exact s.goodFrame_withPins p _
      · rfl
    · rfl
  | _ =>
    have hr' : (s.withPins p).line.receiver = s.line.receiver := rfl
    rw [hr', hr]

/-- FRAME_END with bytes is RECEIVE_CLAIM of them and then FRAME_END (log 22). -/
theorem exec_frameEnd_split (s : State) (dt : Nat) (bytes : List Byte) (fcs : Half) :
    exec (.frameEnd dt bytes fcs) s = exec (.frameEnd 0 [] fcs) (s.received dt bytes).drivePins := by
  have hnil : (s.received dt bytes).receiveBytes [] = s.received dt bytes := by
    unfold State.received
    rw [← State.receiveBytes_append, List.append_nil]
  have hcongr := State.drivePins_congr (g := fun u => (u.receiveBytes []).frameJudged fcs)
    (fun u p => by rw [State.receiveBytes_withPins, State.frameJudged_withPins]) (s.received dt bytes)
  rw [exec_frameEnd, exec_frameEnd]
  unfold State.received at hcongr hnil ⊢
  rw [State.elapse_zero]
  rw [hnil] at hcongr
  exact congrArg Host.Outcome.next hcongr.symm

end

end Sys2Proof.Machine

namespace Sys2Proof
open Machine

/-- Settles O40: each fragment by its cause, and the end of activity. -/
theorem fragmentsAndEndsOfActivity : Obligations.FragmentsAndEndsOfActivity := by
  unfold Obligations.FragmentsAndEndsOfActivity
  intro dt s
  have hp : (s.elapse dt).pool = s.pool := State.elapse_pool s dt
  refine ⟨fun hr hh => exec_fragment_firstByte hr hh, fun bs hr => ?_, fun hr => exec_activityEnd_discarding hr⟩
  rw [exec_fragment_framingFault hr, exec_fragment_prematureIdle hr, ← hp]
  exact ⟨rfl, rfl⟩

/-- Settles O41: the FCS decides between the error count and the classification queue. -/
theorem frameEndJudgesTheFcs : Obligations.FrameEndJudgesTheFcs := by
  unfold Obligations.FrameEndJudgesTheFcs
  intro dt s f hf hr
  have hk : (s.elapse dt).line.counters = s.line.counters := State.elapse_line_counters s dt
  have hp : (s.elapse dt).pool = s.pool := State.elapse_pool s dt
  refine ⟨fun fcs hfcs => ?error, fun l hl => ?good, fun bytes fcs => ⟨_, rfl, exec_frameEnd_split s dt bytes fcs⟩⟩
  case error =>
    rw [exec_frameEnd_nil hf hr, if_neg (Ne.symm hfcs), ← hk, ← hp]
    rfl
  case good =>
    have hgood : exec (.frameEnd dt [] (crc f.bytes)) s =
        done (if s.classifier.queue = [] then
          (({ s with line := l } : State).enqueue f l.timebase l.point).startEvaluation
        else ({ s with line := l } : State).enqueue f l.timebase l.point) := by
      have hl' : l = (s.elapse dt).line.goodEnd f := by
        rw [hl, ← hk, ← State.elapse_line_own s dt, ← State.elapse_line_slot s dt]
        rfl
      have heq := s.goodFrame_eq (s.elapse dt).line f
      rw [exec_frameEnd_nil hf hr, if_pos rfl, hl']
      exact congrArg done ((congrArg (State.goodFrame · f) (State.elapse_withLine s dt _)).trans heq)
    rw [hgood]
    refine ⟨fun he hq => ?busy, fun he hq hs hc => ?begins, fun hq => ?overrun⟩
    case busy =>
      rw [State.enqueue_joins s l f _ _ hq, State.startEvaluation_busy (by exact he), ite_self]
      rfl
    case begins =>
      rw [State.enqueue_joins s l f _ _ (by rw [hq]; decide), if_pos hq]
      have hheld : l.holdsClassifier = false := by
        have hside : l.lineSide = none := by
          rw [hl, ← hs]
          exact State.elapse_line_lineSide s dt
        unfold Line.holdsClassifier
        rw [hside]
      have hwait : s.classifier.queue ++ [(⟨f, s.nextFrameId, l.timebase, l.point⟩ : Waiting)] =
          ⟨f, s.nextFrameId, l.timebase, l.point⟩ :: [] := by rw [hq]; rfl
      rw [State.startEvaluation_begins (by exact he) (by exact hheld) (by exact hwait) (by exact hc)]
      have hown : l.own = s.line.own := by
        rw [hl]
        exact State.elapse_line_own s dt
      have hgroup : l.group = s.line.group := by
        rw [hl]
        exact State.elapse_line_group s dt
      rw [← hown, ← hgroup]
      rfl
    case overrun =>
      have hne : s.classifier.queue ≠ [] := fun h => by rw [h] at hq; cases hq
      rw [State.enqueue_refused s l f _ _ hq, if_neg hne]
      rfl

end Sys2Proof
end

section
/-! The ages of records and slots (R83, R97). -/

namespace Sys2Proof.Machine

section

variable {s : State} {q : Fin 4} {old rest : List Record} {r : Record}

/-- The queues and the signals apart, an event of the queues is an event of the state as time left it. -/
theorem exec_expiry (s : State) (dt : Nat) (q : Fin 4) (id : Half) :
    exec (.expiry dt q id) s = done ((s.elapse dt).expire q (fun r => decide (r.id = id) &&
      r.agedOut (s.elapse dt).queues[q].settings.age (s.elapse dt).line.timebase)) := rfl

theorem State.expire_none {p : Record → Bool} (h : ∀ r ∈ s.queues[q].records, p r = false) : s.expire q p = s := by
  have hout : s.queues[q].records.filter p = [] :=
    List.filter_eq_nil_iff.mpr fun r hr => by rw [h r hr]; decide
  have hkept : s.queues[q].records.filter (fun r => !p r) = s.queues[q].records :=
    List.filter_eq_self.mpr fun r hr => by rw [h r hr]; rfl
  rw [State.expire_eq, hout, hkept]
  have hzero : cellsOf ([] : List Record) = 0 := rfl
  have hsame : s.queues.set q s.queues[q] = s.queues := Vector.set_getElem_self _
  rw [hzero, Pool.release_zero, List.length_nil, bumpBy_zero]
  exact congrArg (fun d => ({ s with queues := d } : State)) hsame

theorem State.expire_one {p : Record → Bool} (hq : s.queues[q].records = old ++ r :: rest) (hr : p r = true)
    (ho : ∀ x ∈ old ++ rest, p x = false) :
    s.expire q p = { s with
      queues := s.queues.set q { s.queues[q] with
        records := old ++ rest
        counters := { s.queues[q].counters with expired := bump s.queues[q].counters.expired } }
      pool := s.pool.release (.queue q) r.frame.cells } := by
  have hnone : ∀ l : List Record, (∀ x ∈ l, p x = false) → l.filter p = [] ∧ l.filter (fun x => !p x) = l :=
    fun l hl => ⟨List.filter_eq_nil_iff.mpr fun x hx => by rw [hl x hx]; decide,
      List.filter_eq_self.mpr fun x hx => by rw [hl x hx]; rfl⟩
  obtain ⟨hold, hold'⟩ := hnone old fun x hx => ho x (List.mem_append_left _ hx)
  obtain ⟨hrest, hrest'⟩ := hnone rest fun x hx => ho x (List.mem_append_right _ hx)
  have hout : s.queues[q].records.filter p = [r] := by
    rw [hq, List.filter_append, hold, List.filter_cons_of_pos hr, hrest]
    rfl
  have hkept : s.queues[q].records.filter (fun x => !p x) = old ++ rest := by
    rw [hq, List.filter_append, hold', List.filter_cons_of_neg (by rw [hr]; decide), hrest']
  have hcells : cellsOf [r] = r.frame.cells := Nat.add_zero _
  rw [State.expire_eq, hout, hkept, hcells]
  rfl

end

/-! ### A slot -/

section

variable {s : State} {dt : Nat} {n : Fin 16} {c : SlotContent}

theorem exec_slotStale (s : State) (dt : Nat) (n : Fin 16) :
    exec (.slotStale dt n) s = done ((s.elapse dt).setSlot n
      ((s.elapse dt).slots[n].judgeAge (s.elapse dt).line.timebase)) := rfl

theorem exec_slotStale_passes (hs : s.slots[n].state = .held c) (hl : s.slots[n].limit ≠ 0)
    (ha : s.slots[n].limit < ageMs (s.elapse dt).line.timebase c.stamp) :
    exec (.slotStale dt n) s = done { s.elapse dt with
      slots := s.slots.set n { s.slots[n] with state := .stale c } } := by
  have hslots : (s.elapse dt).slots = s.slots := State.elapse_slots s dt
  have hjudged : s.slots[n].judgeAge (s.elapse dt).line.timebase = { s.slots[n] with state := .stale c } :=
    Slot.judgeAge_passed hs hl ha
  rw [exec_slotStale, hslots, hjudged]
  unfold State.setSlot
  rw [hslots]

theorem exec_slotStale_keeps (h : ∀ c, s.slots[n].state = .held c →
    s.slots[n].limit = 0 ∨ ageMs (s.elapse dt).line.timebase c.stamp ≤ s.slots[n].limit) :
    exec (.slotStale dt n) s = done (s.elapse dt) := by
  have hslots : (s.elapse dt).slots = s.slots := State.elapse_slots s dt
  have hjudged : s.slots[n].judgeAge (s.elapse dt).line.timebase = s.slots[n] :=
    Slot.judgeAge_fresh h
  have hsame : s.slots.set n s.slots[n] = s.slots := Vector.set_getElem_self _
  rw [exec_slotStale, hslots, hjudged]
  unfold State.setSlot
  rw [hslots, hsame, ← hslots]

end

end Sys2Proof.Machine

namespace Sys2Proof
open Machine

/-- Settles O52: an age that has passed acts, and one that has not leaves the part as time left it. -/
theorem agesActOnRecordsAndSlots : Obligations.AgesActOnRecordsAndSlots := by
  unfold Obligations.AgesActOnRecordsAndSlots
  intro dt s
  have hqueues : (s.elapse dt).queues = s.queues := State.elapse_queues s dt
  have hpool : (s.elapse dt).pool = s.pool := State.elapse_pool s dt
  refine ⟨fun q old rest r hrec hid => ?record, fun n => ⟨fun c => exec_slotStale_passes, exec_slotStale_keeps⟩⟩
  case record =>
    have hother : ∀ x ∈ old ++ rest, ∀ now age, (decide (x.id = r.id) && x.agedOut age now) = false :=
      fun x hx now age => by rw [decide_eq_false (hid x hx)]; rfl
    rw [exec_expiry, hqueues, ← hpool]
    refine ⟨fun ha hage => ?_, fun hage => ?_⟩
    · have hp : (decide (r.id = r.id) && r.agedOut s.queues[q].settings.age (s.elapse dt).line.timebase) = true := by
        rw [decide_eq_true rfl, Record.agedOut_eq]
        exact decide_eq_true ⟨ha, hage⟩
      rw [State.expire_one (by rw [hqueues]; exact hrec) hp fun x hx => hother x hx _ _, hqueues]
      rfl
    · have hnot := Record.not_agedOut (r := r) hage
      rw [State.expire_none]
      · rfl
      · intro x hx
        rw [hqueues, hrec] at hx
        by_cases hxr : x ∈ old ++ rest
        · exact hother x hxr _ _
        · obtain rfl : x = r := by
            simp only [List.mem_append, List.mem_cons] at hx hxr
            tauto
          rw [Bool.eq_false_iff.mpr hnot, Bool.and_false]

end Sys2Proof
end

section
/-! Fields out of their ranges (R77, R86 to R90, R101 to R110, R168 and the like): BAD_FIELD. -/

namespace Sys2Proof.Machine

section

variable {s : State} {k : ReqKind} {tag : Byte} {body : List Byte}

/-- The request's own judgement of a body is the refusal BAD_FIELD, in every state. -/
def JudgedBadField (s : State) (k : ReqKind) (tag : Byte) (body : List Byte) : Prop :=
  ∃ act, exec (requestRow k body) s = done (s.dispatch k act) ∧
    ∀ t : State, act tag body t = t.refuse k tag .badField

theorem Accepted.badField (h : Accepted s k tag body) (hj : JudgedBadField s k tag body) :
    exec (requestRow k body) s = done (s.withReply k tag [0x03] []) := by
  obtain ⟨act, hexec, hact⟩ := hj
  rw [hexec, State.dispatch_accepted h, hact, h.refuse]
  rfl

/-! ### The fields -/

theorem yesNo?_natAt {i : Nat} (h : 1 < natAt body i) : yesNo? (byteAt body i) = none := yesNo?_eq_none h

theorem queue?_natAt {i : Nat} (h : 3 < natAt body i) : queue? (byteAt body i) = none := number?_eq_none (n := 4) h

theorem sixteen?_natAt {i : Nat} (h : 15 < natAt body i) : sixteen? (byteAt body i) = none :=
  number?_eq_none (n := 16) h

theorem index?_natAt {i : Nat} (h : 31 < natAt body i) : index? (byteAt body i) = none :=
  number?_eq_none (n := 32) h

theorem byteAt_ne_of_natAt {i : Nat} {b : Byte} (h : natAt body i ≠ b.toNat) : byteAt body i ≠ b :=
  fun hb => h (congrArg BitVec.toNat hb)

/-! ### The requests, by their first field out of range -/

theorem judgedBadField_option (hk : k = .identify ∨ k = .lineCounters ∨ k = .classifyStatus ∨ k = .responderStatus)
    (ho : 1 < natAt body 0) : JudgedBadField s k tag body := by
  have hno := yesNo?_natAt ho
  rcases hk with rfl | rfl | rfl | rfl <;> exact ⟨_, rfl, fun t => by simp only [hno]⟩

theorem judgedBadField_queue (hk : k = .framePeek ∨ k = .frameTake ∨ k = .queueFlush ∨ k = .frameDiscard)
    (hq : 3 < natAt body 0) : JudgedBadField s k tag body := by
  have hno := queue?_natAt hq
  rcases hk with rfl | rfl | rfl | rfl <;> exact ⟨_, rfl, fun t => by simp only [hno]⟩

theorem judgedBadField_sixteen (hk : k = .slotRead ∨ k = .templateGet ∨ k = .templateClear ∨ k = .slotWrite)
    (hn : 15 < natAt body 0) : JudgedBadField s k tag body := by
  have hno := sixteen?_natAt hn
  rcases hk with rfl | rfl | rfl | rfl <;> exact ⟨_, rfl, fun t => by simp only [hno]⟩

/-- A reset scope that is neither 0 nor 1. -/
theorem judgedBadField_reset (hb : s.link.buffer = .held ReqKind.reset.code tag body) (ho : 1 < natAt body 0) :
    JudgedBadField s .reset tag body := by
  have hone : body ≠ [1] := by
    rintro rfl
    exact absurd ho (by decide)
  have hzero : byteAt body 0 ≠ 0 := byteAt_ne_of_natAt (b := 0) (by simpa using by omega)
  have hrow : requestRow .reset body = .resetPart := if_neg hone
  have hexec : execResetPart s = done (s.dispatch .reset fun tag body t =>
      if byteAt body 0 = 0 then t.fullReset .request else t.refuse .reset tag .badField) := by
    unfold execResetPart
    rw [hb]
    split
    · rename_i heq
      cases heq
      exact absurd rfl hone
    · rfl
  refine ⟨_, by rw [hrow]; exact hexec, fun t => if_neg hzero⟩

theorem judgedBadField_queueStatus (h : 3 < natAt body 0 ∨ 1 < natAt body 1) :
    JudgedBadField s .queueStatus tag body := by
  refine ⟨_, rfl, fun t => ?_⟩
  rcases h with h | h
  · simp only [queue?_natAt h]
  · simp only [yesNo?_natAt h]
    cases queue? (byteAt body 0) <;> rfl

theorem natAt_drop_one (bs : List Byte) (i : Nat) : natAt (bs.drop 1) i = natAt bs (i + 1) :=
  congrArg BitVec.toNat (byteAt_drop_one bs i)

theorem Overflow.ofByte?_eq_none {b : Byte} (h : 1 < b.toNat) : Overflow.ofByte? b = none := by
  have h0 : b ≠ 0 := by bv_omega
  have h1 : b ≠ 1 := by bv_omega
  unfold Overflow.ofByte?
  rw [if_neg h0, if_neg h1]

theorem queueSettings?_eq_none {bs : List Byte} (h : 1 < natAt bs 0 ∨ natAt bs 1 < 1 ∨ 64 < natAt bs 1 ∨
    192 < natAt bs 2 ∨ 1 < natAt bs 5 ∨ 64 < natAt bs 6 ∨ 1 < natAt bs 7) : queueSettings? bs = none := by
  rw [Option.eq_none_iff_forall_ne_some]
  intro x hx
  simp only [queueSettings?, Option.bind_eq_bind, Option.bind_eq_some_iff] at hx
  obtain ⟨_, henabled, _, hpolicy, _, hwake, hx⟩ := hx
  have h0 : natAt bs 0 ≤ 1 := toNat_le_one_of_yesNo? henabled
  have h5 : natAt bs 5 ≤ 1 := by
    by_contra hb
    rw [Overflow.ofByte?_eq_none (b := byteAt bs 5) (Nat.lt_of_not_le hb)] at hpolicy
    cases hpolicy
  have h7 : natAt bs 7 ≤ 1 := toNat_le_one_of_yesNo? hwake
  rw [if_neg (by omega)] at hx
  cases hx

theorem judgedBadField_queueSetup (h : 3 < natAt body 0 ∨ 1 < natAt body 1 ∨ natAt body 2 < 1 ∨ 64 < natAt body 2 ∨
    192 < natAt body 3 ∨ 1 < natAt body 6 ∨ 64 < natAt body 7 ∨ 1 < natAt body 8) :
    JudgedBadField s .queueSetup tag body := by
  refine ⟨_, rfl, fun t => ?_⟩
  rcases h with h | h
  · simp only [queue?_natAt h]
  · have hset : queueSettings? (body.drop 1) = none := by
      refine queueSettings?_eq_none ?_
      simp only [natAt_drop_one]
      exact h
    simp only [hset]
    cases queue? (byteAt body 0) <;> rfl

theorem judgedBadField_slotWrite (h : natAt body 1 < 1 ∨ 16 < natAt body 1) : JudgedBadField s .slotWrite tag body := by
  refine ⟨_, rfl, fun t => ?_⟩
  cases sixteen? (byteAt body 0) with
  | none => rfl
  | some n => exact if_pos h

theorem orNone?_natAt {n : Nat} {i : Nat} (h : n ≤ natAt body i) (hne : natAt body i ≠ 255) :
    orNone? (number? n) (byteAt body i) = none :=
  orNone?_eq_none h (byteAt_ne_of_natAt hne)

theorem judgedBadField_slotClear (h : 15 < natAt body 0) (hne : natAt body 0 ≠ 255) :
    JudgedBadField s .slotClear tag body := by
  have hno : orNone? sixteen? (byteAt body 0) = none := orNone?_natAt (n := 16) h hne
  exact ⟨_, rfl, fun t => by simp only [hno]⟩

theorem judgedBadField_slotSetup (h : 15 < natAt body 0 ∨ 1 < natAt body 1 ∨ 1 < natAt body 2) :
    JudgedBadField s .slotSetup tag body := by
  refine ⟨_, rfl, fun t => ?_⟩
  rcases h with h | h | h
  · simp only [sixteen?_natAt h]
  · simp only [yesNo?_natAt h]
    cases sixteen? (byteAt body 0) <;> rfl
  · simp only [yesNo?_natAt h]
    cases sixteen? (byteAt body 0) with
    | none => rfl
    | some n => cases yesNo? (byteAt body 1) <;> rfl

theorem judgedBadField_sieveGet (h : 1 < natAt body 0 ∨ 31 < natAt body 1) : JudgedBadField s .sieveGet tag body := by
  refine ⟨_, rfl, fun t => ?_⟩
  rcases h with h | h
  · have hbank : t.sieve.bank? (byteAt body 0) = none :=
      t.sieve.bank?_eq_none (byteAt_ne_of_natAt (by simpa using by omega)) (byteAt_ne_of_natAt (by simpa using by omega))
    simp only [hbank]
  · simp only [index?_natAt h]
    cases t.sieve.bank? (byteAt body 0) <;> rfl

theorem judgedBadField_sieveClear (h : 31 < natAt body 0) (hne : natAt body 0 ≠ 255) :
    JudgedBadField s .sieveClear tag body := by
  have hno : orNone? index? (byteAt body 0) = none := orNone?_natAt (n := 32) h hne
  exact ⟨_, rfl, fun t => by simp only [hno]⟩

theorem judgedBadField_sieveDefault (h : (3 < natAt body 0 ∧ natAt body 0 ≠ 255) ∨ 1 < natAt body 1) :
    JudgedBadField s .sieveDefault tag body := by
  refine ⟨_, rfl, fun t => ?_⟩
  rcases h with ⟨h, hne⟩ | h
  · have hno : orNone? queue? (byteAt body 0) = none := orNone?_natAt (n := 4) h hne
    simp only [hno]
  · simp only [yesNo?_natAt h]
    cases orNone? queue? (byteAt body 0) <;> rfl

theorem judgedBadField_hitsRead (hr : hitsReadRange? body = none) : JudgedBadField s .hitsRead tag body :=
  ⟨_, rfl, fun t => by simp only [hr]⟩

theorem judgedBadField_hitsClear (hr : hitsClearRange? body = none) : JudgedBadField s .hitsClear tag body :=
  ⟨_, rfl, fun t => by simp only [hr]⟩

theorem judgedBadField_presenceSetup (hr : presenceSetup? body = none) : JudgedBadField s .presenceSetup tag body :=
  ⟨_, rfl, fun t => by simp only [hr]⟩

end

end Sys2Proof.Machine

namespace Sys2Proof
open Machine

/-- Settles O53: each request's own reading of its body refuses it. -/
theorem fieldsOutOfRangeAreBadFields : Obligations.FieldsOutOfRangeAreBadFields := by
  unfold Obligations.FieldsOutOfRangeAreBadFields
  intro s tag k body h hfield
  obtain ⟨hb, -, hlength, -, -, -⟩ := id h
  refine h.badField ?_
  have hthree : ∀ k', k'.bodyRange = (3, 3) → k = k' → ∃ a b c, body = [a, b, c] := by
    rintro k' hrange rfl
    rw [ReqKind.lengthOk, hrange, Bool.and_eq_true, decide_eq_true_iff, decide_eq_true_iff] at hlength
    exact List.length_eq_three.mp (Nat.le_antisymm hlength.2 hlength.1)
  rcases hfield with ⟨hk, hv⟩ | ⟨hk, hv⟩ | ⟨rfl, hv⟩ | ⟨rfl, hv⟩ | ⟨hk, hv⟩ | ⟨rfl, hv⟩ | ⟨rfl, hv, hne⟩ | ⟨rfl, hv⟩ |
    ⟨rfl, hv⟩ | ⟨rfl, hv, hne⟩ | ⟨rfl, hv⟩ | ⟨rfl, hv⟩ | ⟨rfl, hv⟩ | ⟨rfl, hv⟩
  case inl =>
    by_cases hreset : k = .reset
    · subst hreset
      exact judgedBadField_reset hb hv
    · exact judgedBadField_option (by tauto) hv
  · exact judgedBadField_queue hk hv
  · exact judgedBadField_queueStatus hv
  · exact judgedBadField_queueSetup hv
  · exact judgedBadField_sixteen (by tauto) hv
  · rcases hv with hv | hv
    · exact judgedBadField_sixteen (by tauto) hv
    · exact judgedBadField_slotWrite hv
  · exact judgedBadField_slotClear hv hne
  · exact judgedBadField_slotSetup hv
  · exact judgedBadField_sieveGet hv
  · exact judgedBadField_sieveClear hv hne
  · exact judgedBadField_sieveDefault hv
  · obtain ⟨first, count, o, rfl⟩ := hthree .hitsRead rfl rfl
    have hrange : 31 < first.toNat ∨ 8 < count.toNat ∨ 32 < first.toNat + count.toNat ∨ 1 < o.toNat ∨
      8 < count.toNat + o.toNat ∨ count.toNat + o.toNat < 1 := hv
    exact judgedBadField_hitsRead (hitsReadRange?_eq_none (by omega))
  · obtain ⟨first, count, o, rfl⟩ := hthree .hitsClear rfl rfl
    have hrange : 31 < first.toNat ∨ 32 < count.toNat ∨ 32 < first.toNat + count.toNat ∨ 1 < o.toNat ∨
      count.toNat + o.toNat < 1 := hv
    have hempty : count.toNat + o.toNat < 1 → count = 0 ∧ o ≠ 1 := fun hz => ⟨by bv_omega, by bv_omega⟩
    exact judgedBadField_hitsClear (hitsClearRange?_eq_none (by tauto))
  · exact judgedBadField_presenceSetup (presenceSetup?_eq_none hv)

end Sys2Proof
end

section
/-! The build of a reply (R111 to R115). -/

namespace Sys2Proof.Machine

/-! ### What keeps a template from being built -/

theorem any_copyShort_iff (items : List Item) (len : Nat) :
    items.any (Item.copyShort len) = true ↔
      ∃ target source length, .copy target source length ∈ items ∧ len < source + length := by
  rw [List.any_eq_true]
  constructor
  · rintro ⟨i, hi, hs⟩
    cases i with
    | copy target source length => exact ⟨target, source, length, hi, of_decide_eq_true hs⟩
    | _ => cases hs
  · rintro ⟨target, source, length, hi, hs⟩
    exact ⟨_, hi, decide_eq_true hs⟩

/-- A slot in this state keeps a template from being built (R111). -/
def SlotState.suppresses (policy : StalePolicy) (v : SlotState) : Prop :=
  v = .empty ∨ (policy = .suppress ∧ ∃ c, v = .stale c)

theorem Item.slotSuppressed_slot_iff (slots : Vector Slot 16) (policy : StalePolicy) (target : Nat) (m : Fin 16) :
    (Item.slot target m).slotSuppressed slots policy = true ↔ slots[m].state.suppresses policy := by
  unfold Item.slotSuppressed SlotState.suppresses
  dsimp only
  cases slots[m].state with
  | empty => simp
  | held c => simp
  | stale c => simp

theorem any_slotSuppressed_iff (items : List Item) (slots : Vector Slot 16) (policy : StalePolicy) :
    items.any (Item.slotSuppressed slots policy) = true ↔
      ∃ target m, .slot target m ∈ items ∧ slots[m].state.suppresses policy := by
  rw [List.any_eq_true]
  constructor
  · rintro ⟨i, hi, hs⟩
    cases i with
    | slot target m => exact ⟨target, m, hi, (Item.slotSuppressed_slot_iff slots policy target m).mp hs⟩
    | _ => cases hs
  · rintro ⟨target, m, hi, hs⟩
    exact ⟨_, hi, (Item.slotSuppressed_slot_iff slots policy target m).mpr hs⟩

/-! ### The build -/

section

variable {s : State} {n : Fin 16} {f : Frame} {fe : Nat}

theorem State.build_overflow (hq : 4 ≤ s.responder.queue.length) :
    s.build n f fe = (s.setReplyCounters { s.responder.counters with
      answerOverflow := bump s.responder.counters.answerOverflow }, false) := if_pos hq

theorem State.build_copyShort (hq : s.responder.queue.length < 4)
    (hc : s.responder.templates[n].items.any (Item.copyShort f.payload.length) = true) :
    s.build n f fe = (s.setReplyCounters { s.responder.counters with
      copyShort := bump s.responder.counters.copyShort }, false) := by
  unfold State.build
  exact (if_neg (by omega)).trans (if_pos hc)

theorem State.build_slotSuppressed (hq : s.responder.queue.length < 4)
    (hc : ¬ s.responder.templates[n].items.any (Item.copyShort f.payload.length) = true)
    (hs : s.responder.templates[n].items.any
      (Item.slotSuppressed s.slots s.responder.templates[n].stale) = true) :
    s.build n f fe = (s.setReplyCounters { s.responder.counters with
      slotSuppressed := bump s.responder.counters.slotSuppressed }, false) := by
  unfold State.build
  exact (if_neg (by omega)).trans ((if_neg hc).trans (if_pos hs))

section

variable (hq : s.responder.queue.length < 4)
  (hc : ¬ s.responder.templates[n].items.any (Item.copyShort f.payload.length) = true)
  (hs : ¬ s.responder.templates[n].items.any
    (Item.slotSuppressed s.slots s.responder.templates[n].stale) = true)
include hq hc hs

/-- A build that passes contends where no reply slot opens for it (R112). -/
theorem State.build_contends (ho : ¬ (f.opensSlot && s.line.own.contains f.dst) = true) :
    s.build n f fe = s.placeReply n f none := by
  unfold State.build
  exact (if_neg (by omega)).trans ((if_neg hc).trans ((if_neg hs).trans (if_neg ho)))

theorem State.build_inWindow (ho : (f.opensSlot && s.line.own.contains f.dst) = true) (hl : s.line.slot = .own fe) :
    s.build n f fe = s.placeReply n f (some fe) := by
  unfold State.build
  exact (if_neg (by omega)).trans ((if_neg hc).trans ((if_neg hs).trans ((if_pos ho).trans (if_pos hl))))

/-- The late policy, once the own reply slot has closed (R112). -/
theorem State.build_late (ho : (f.opensSlot && s.line.own.contains f.dst) = true) (hl : s.line.slot ≠ .own fe) :
    (s.responder.templates[n].late = .send → s.build n f fe = (s.setReplyCounters { s.responder.counters with
        lateSent := bump s.responder.counters.lateSent }).placeReply n f none) ∧
    (s.responder.templates[n].late = .drop → s.build n f fe = (s.setReplyCounters { s.responder.counters with
        lateDropped := bump s.responder.counters.lateDropped }, false)) := by
  unfold State.build
  constructor <;>
  · intro hlate
    refine (if_neg (by omega)).trans ((if_neg hc).trans ((if_neg hs).trans ((if_pos ho).trans ((if_neg hl).trans ?_))))
    rw [hlate]

end

/-- What a build that passes leaves: the entry at the tail, its cells, the use count and the sequence counter (R113,
R115). -/
theorem State.placeReply_placed (hf : (s.replyFrame s.responder.templates[n] f).cells ≤ s.pool.free)
    (window : Option Nat) :
    s.placeReply n f window = ({ s with
      responder := { s.responder with
        templates := s.responder.templates.set n { s.responder.templates[n] with
          uses := s.responder.templates[n].uses + 1 }
        queue := s.responder.queue ++ [⟨s.replyFrame s.responder.templates[n] f, n,
          s.responder.templates[n].late, window, 0, .waiting⟩]
        seqCounter := s.responder.seqCounter + 1 }
      pool := s.pool.claim .responder (s.replyFrame s.responder.templates[n] f).cells }, true) := by
  have hok : s.pool.responderOk (s.replyFrame s.responder.templates[n] f).cells = true := decide_eq_true hf
  unfold State.placeReply
  exact if_pos hok

end

/-! ### The payload -/

theorem getElem?_splice {target : Nat} {new body : List Byte} (h : target + new.length ≤ body.length) (j : Nat) :
    (splice target new body)[j]? = if target ≤ j ∧ j < target + new.length then new[j - target]? else body[j]? := by
  have htake : (body.take target).length = target := by rw [List.length_take]; omega
  unfold splice
  rw [List.getElem?_append, List.getElem?_append, List.length_append, htake]
  by_cases h1 : j < target
  · rw [if_pos (by omega), if_pos h1, if_neg (by omega), List.getElem?_take_of_lt h1]
  · by_cases h2 : j < target + new.length
    · rw [if_pos h2, if_neg h1, if_pos (by omega)]
    · rw [if_neg h2, if_neg (by omega), List.getElem?_drop]
      congr 1
      omega

theorem Item.written_slot {slots : Vector Slot 16} {m : Fin 16} {c : SlotContent}
    (h : slots[m].state = .held c ∨ slots[m].state = .stale c) (target : Nat) (payload : List Byte) (now : Word)
    (uses : Half) : (Item.slot target m).written slots payload now uses = c.data := by
  have hcontent : slots[m].state.content? = some c := by
    rcases h with h | h <;> rw [h] <;> rfl
  unfold Item.written
  dsimp only
  rw [hcontent]

end Sys2Proof.Machine

namespace Sys2Proof
open Machine

/-- Settles O51: the checks in their order, the three ways a reply is placed, and what each item writes. -/
theorem buildsPlaceTheReply : Obligations.BuildsPlaceTheReply := by
  unfold Obligations.BuildsPlaceTheReply
  refine ⟨fun s n f fe => ⟨State.build_overflow, fun hq hc => State.build_copyShort hq ((any_copyShort_iff _ _).mpr hc),
    fun hq hc hs => ?suppressed, ?passes⟩, fun _ _ _ _ _ => rfl,
    fun slots payload now uses => ⟨fun _ _ _ => ⟨rfl, rfl⟩,
      fun target m c => ⟨rfl, fun h => Item.written_slot h target payload now uses⟩, fun _ => ⟨rfl, rfl⟩,
      fun _ => ⟨rfl, rfl⟩⟩, fun _ _ _ _ _ _ _ => List.foldl_append, fun _ _ _ j h => getElem?_splice h j⟩
  case suppressed =>
    refine State.build_slotSuppressed hq ?_ ((any_slotSuppressed_iff _ _ _).mpr hs)
    rw [any_copyShort_iff]
    rintro ⟨target, source, length, hi, hshort⟩
    exact absurd (hc target source length hi) (by omega)
  case passes =>
    rintro t rfl hq hc hs reply placed hreply hcells hplaced
    have hcopy : ¬ s.responder.templates[n].items.any (Item.copyShort f.payload.length) = true := by
      rw [any_copyShort_iff]
      rintro ⟨target, source, length, hi, hshort⟩
      exact absurd (hc target source length hi) (by omega)
    have hslot : ¬ s.responder.templates[n].items.any
        (Item.slotSuppressed s.slots s.responder.templates[n].stale) = true := by
      rw [any_slotSuppressed_iff]
      rintro ⟨target, m, hi, hempty | ⟨hpolicy, c, hstale⟩⟩
      · exact (hs target m hi).1 hempty
      · exact (hs target m hi).2 hpolicy c hstale
    have hframe : reply = s.replyFrame s.responder.templates[n] f := by
      have hsrc : (if f.dst ∈ s.line.own then f.dst else s.line.own.headD 0) =
          (if s.line.own.contains f.dst = true then f.dst else s.line.own.headD 0) :=
        if_congr List.contains_iff_mem.symm rfl rfl
      rw [hreply, hsrc]
      rfl
    rw [hframe] at hcells hplaced
    have hopens : (f.opensSlot && s.line.own.contains f.dst) = true ↔
        (isStation f.dst && !f.kind.msb) = true ∧ f.dst ∈ s.line.own := by
      rw [Bool.and_eq_true, List.contains_iff_mem]
      rfl
    have hplace : ∀ window, s.placeReply n f window = placed window s.responder.counters :=
      fun window => (State.placeReply_placed hcells window).trans (hplaced window _).symm
    refine ⟨fun ho => ?_, fun ho hown => ?_⟩
    · rw [← hplace]
      refine State.build_contends hq hcopy hslot fun h => ?_
      obtain ⟨h1, h2⟩ := hopens.mp h
      rcases ho with ho | ho
      · rw [h1] at ho
        cases ho
      · exact ho h2
    · have hopen := hopens.mpr ⟨ho, hown⟩
      refine ⟨fun hl => ?_, fun hl hlate => ?_, fun hl => (State.build_late hq hcopy hslot hopen hl).2⟩
      · rw [← hplace]
        exact State.build_inWindow hq hcopy hslot hopen hl
      · rw [(State.build_late hq hcopy hslot hopen hl).1 hlate, hplaced]
        exact State.placeReply_placed (s := s.setReplyCounters { s.responder.counters with
          lateSent := bump s.responder.counters.lateSent }) hcells none

end Sys2Proof
end

section
/-! The evaluations (R61, R64 to R69). -/

namespace Sys2Proof.Machine

/-! ### The begin of an evaluation -/

section

variable {s : State} {dt : Nat}

theorem exec_evaluationStart (s : State) (dt : Nat) : exec (.evaluationStart dt) s = done (s.elapse dt).startEvaluation :=
  rfl

theorem State.startEvaluation_idle {w : Waiting} {ws : List Waiting} (he : s.classifier.eval = none)
    (hh : s.line.holdsClassifier = false) (hq : s.classifier.queue = w :: ws) :
    s.startEvaluation = { s.applyCommit with classifier := { s.applyCommit.classifier with
      queue := ws
      eval := some ⟨w, s.applyCommit.sieve.generation, s.applyCommit.line.own, s.applyCommit.line.group⟩ } } := by
  unfold State.startEvaluation
  rw [he, hh, hq]
  rfl

theorem Line.holdsClassifier_of_none {l : Line} (h : l.lineSide = none) : l.holdsClassifier = false := by
  unfold Line.holdsClassifier
  rw [h]

end

/-! ### The scan -/

section

variable {b : Bank} {own group : List Half} {f : Frame}

theorem Bank.scan_nil_of {is : List (Fin 32)} (h : ∀ i ∈ is, b.entries[i].matches own group f = false) :
    b.scan own group f is = [] := by
  induction is with
  | nil => rfl
  | cons i is ih =>
    obtain ⟨hi, his⟩ := List.forall_mem_cons.mp h
    unfold Bank.scan
    rw [hi]
    exact ih his

theorem Bank.scan_terminal {l r : List (Fin 32)} {i : Fin 32}
    (hl : ∀ j ∈ l, b.entries[j].matches own group f = false) (hm : b.entries[i].matches own group f = true)
    (hc : b.entries[i].continue_ = false) : b.scan own group f (l ++ i :: r) = [(i, b.entries[i])] := by
  induction l with
  | nil =>
    rw [List.nil_append]
    unfold Bank.scan
    rw [hm, hc]
    rfl
  | cons j l ih =>
    obtain ⟨hj, hl⟩ := List.forall_mem_cons.mp hl
    rw [List.cons_append]
    unfold Bank.scan
    rw [hj]
    exact ih hl

/-- The first entry that matches ends a scan of all indices, if it is terminal (R64). -/
theorem Bank.scan_first {i : Fin 32} (hl : ∀ j : Fin 32, j < i → b.entries[j].matches own group f = false)
    (hm : b.entries[i].matches own group f = true) (hc : b.entries[i].continue_ = false) :
    b.scan own group f (List.finRange 32) = [(i, b.entries[i])] := by
  obtain ⟨l, r, hsplit⟩ := List.append_of_mem (List.mem_finRange i)
  have hp : (List.finRange 32).Pairwise (· < ·) := List.pairwise_lt_finRange 32
  rw [hsplit] at hp ⊢
  exact Bank.scan_terminal (fun j hj => hl j ((List.pairwise_append.mp hp).2.2 j hj i (by simp))) hm hc

/-- The verdict of one matching entry that neither delivers nor answers nor wakes (R65). -/
theorem verdictOf_absorbs {i : Fin 32} {e : Entry} (hd : e.deliver = none) (ha : e.answer = none)
    (hw : e.wake = false) (d : DefaultVerdict) :
    verdictOf [(i, e)] d =
      ⟨none, none, none, ((e.capture.map (fun c => (i, c))).toList).take 4, 0, false, true⟩ := by
  rw [verdictOf_of_ne_nil (by simp)]
  have hcaptures : capturesOf [(i, e)] = (e.capture.map (fun c => (i, c))).toList := by
    unfold capturesOf
    cases hc : e.capture <;> simp [hc]
  have hlen : (capturesOf [(i, e)]).length - 4 = 0 := by
    rw [hcaptures]
    cases e.capture <;> rfl
  rw [hlen, hcaptures]
  simp [hd, ha, hw]

end

/-! ### The stages -/

section

variable {u : State}

theorem State.captureStage_fits (f : Frame) (i : Fin 32) (c : Capture) (cs : List (Fin 32 × Capture))
    (h : c.offset + c.length ≤ f.payload.length) :
    u.captureStage f ((i, c) :: cs) =
      (((u.lineWrite c.slot ((f.payload.drop c.offset).take c.length) i f.src).captureStage f cs).1, true) :=
  if_pos h

theorem State.captureStage_short (f : Frame) (i : Fin 32) (c : Capture) (cs : List (Fin 32 × Capture))
    (h : f.payload.length < c.offset + c.length) :
    u.captureStage f ((i, c) :: cs) = State.captureStage (u.setClassifierCounters { u.classifier.counters with
      captureShort := bump u.classifier.counters.captureShort }) f cs :=
  if_neg (by omega)

/-- The slot after a LINE write (R96). -/
def State.lineWritten (u : State) (n : Fin 16) (data : List Byte) (i : Fin 32) (src : Half) : State :=
  { u with slots := u.slots.set n { u.slots[n] with
      state := .held ⟨data, .line i src, u.line.timebase⟩
      updates := u.slots[n].updates + 1
      unread := true } }

theorem State.lineWrite_eq (u : State) (n : Fin 16) (data : List Byte) (i : Fin 32) (src : Half) :
    u.lineWrite n data i src =
      if u.slots[n].wakeOnUpdate then
        (if u.slots[n].watch then (u.lineWritten n data i src).post
            (.slotUpdate n (u.slots[n].updates + 1) data i src u.line.timebase)
          else u.lineWritten n data i src).give (.slot n)
      else if u.slots[n].watch then (u.lineWritten n data i src).post
          (.slotUpdate n (u.slots[n].updates + 1) data i src u.line.timebase)
        else u.lineWritten n data i src := rfl

theorem State.lineWrite_slots (u : State) (n : Fin 16) (data : List Byte) (i : Fin 32) (src : Half) :
    (u.lineWrite n data i src).slots = (u.lineWritten n data i src).slots := by
  rw [State.lineWrite_eq]
  split <;> split <;> simp

theorem State.answerStage_active {n : Fin 16} {w : Waiting} (hm : u.line.mode = .active)
    (hs : u.line.stoppingOrReset = false) : u.answerStage (some n) w = u.build n w.frame w.frameEnd :=
  if_pos ⟨hm, hs⟩

theorem State.answerStage_suppressed {n : Fin 16} {w : Waiting}
    (h : u.line.mode ≠ .active ∨ u.line.stoppingOrReset = true) :
    u.answerStage (some n) w = (u.setClassifierCounters { u.classifier.counters with
      suppressed := bump u.classifier.counters.suppressed }, false) := by
  refine if_neg ?_
  rintro ⟨hm, hs⟩
  rcases h with h | h
  · exact h hm
  · rw [hs] at h
    cases h

theorem State.deliverStage_none {v : Verdict} (h : v.deliver = none) (e : Evaluation) (answered captured : Bool) :
    u.deliverStage v e answered captured = u.release .classify e.member.frame.cells := by
  unfold State.deliverStage
  rw [h]

theorem State.deliverStage_some {v : Verdict} {q : Fin 4} (h : v.deliver = some q) (e : Evaluation)
    (answered captured : Bool) :
    u.deliverStage v e answered captured = u.arrive q ⟨e.member.frame, e.member.id, e.member.stamp, e.generation,
      v.matched, answered, v.wake, captured⟩ := by
  unfold State.deliverStage
  rw [h]

/-! ### The end of an evaluation -/

theorem State.continueLineSide_waits (h : u.classifier.eval.isSome = true ∨
    (∀ tag, u.line.lineSide ≠ some ⟨tag, .classifier⟩)) : u.continueLineSide = u := by
  unfold State.continueLineSide
  cases hl : u.line.lineSide with
  | none => rfl
  | some r =>
    refine if_neg ?_
    rintro ⟨hp, he⟩
    rcases h with h | h
    · rw [he] at h
      cases h
    · refine h r.tag ?_
      rw [hl, ← hp]

theorem State.continueLineSide_finishes {tag : Byte} (he : u.classifier.eval = none)
    (hl : u.line.lineSide = some ⟨tag, .classifier⟩) : u.continueLineSide = u.finishLineSide tag := by
  unfold State.continueLineSide
  rw [hl]
  exact if_pos ⟨rfl, he⟩

/-- Where no commit is pending and no line-side reset runs, the classifier is IDLE and nothing else happens. -/
theorem State.endEvaluation_idle (hc : u.sieve.commit = none) (hl : u.line.lineSide = none) :
    u.endEvaluation.continueLineSide = { u with classifier := { u.classifier with eval := none } } := by
  have hend : u.endEvaluation = { u with classifier := { u.classifier with eval := none } } :=
    State.applyCommit_none hc
  rw [hend]
  exact State.continueLineSide_waits (.inr fun tag h => by
    have hn : some (⟨tag, .classifier⟩ : LineSideReset) = none := h.symm.trans hl
    cases hn)

end

/-! ### The scan's end -/

section

variable {s : State} {dt : Nat} {e : Evaluation} {ms : List (Fin 32 × Entry)} {v : Verdict}

theorem exec_scanEnd (he : s.classifier.eval = some e)
    (hms : s.sieve.active.scan e.own e.group e.member.frame (List.finRange 32) = ms)
    (hv : verdictOf ms s.sieve.active.dflt = v) (dt : Nat) :
    exec (.scanEnd dt) s =
      done ((((s.elapse dt).countScan ms v).carryOut v e).endEvaluation.continueLineSide.arbitrate) := by
  have he' : (s.elapse dt).classifier.eval = some e := by rw [State.elapse_classifier, he]
  change execScanEnd dt s = _
  unfold execScanEnd
  simp only [he', State.elapse_sieve, hms, hv]

theorem State.carryOut_sieve (s : State) (v : Verdict) (e : Evaluation) : (s.carryOut v e).sieve = s.sieve := by
  unfold State.carryOut
  dsimp only
  split <;> simp

theorem State.carryOut_line (s : State) (v : Verdict) (e : Evaluation) : (s.carryOut v e).line = s.line := by
  unfold State.carryOut
  dsimp only
  split <;> simp

/-- Where no commit is pending and no line-side reset runs, a scan's end is the verdict carried out. -/
theorem exec_scanEnd_idle (he : s.classifier.eval = some e) (hc : s.sieve.commit = none)
    (hl : s.line.lineSide = none)
    (hms : s.sieve.active.scan e.own e.group e.member.frame (List.finRange 32) = ms)
    (hv : verdictOf ms s.sieve.active.dflt = v) (dt : Nat) :
    exec (.scanEnd dt) s = done (State.arbitrate { ((s.elapse dt).countScan ms v).carryOut v e with
      classifier := { (((s.elapse dt).countScan ms v).carryOut v e).classifier with eval := none } }) := by
  have hc' : (((s.elapse dt).countScan ms v).carryOut v e).sieve.commit = none := by
    rw [State.carryOut_sieve, State.countScan_sieve, State.elapse_sieve, hc]
  have hl' : (((s.elapse dt).countScan ms v).carryOut v e).line.lineSide = none := by
    rw [State.carryOut_line, State.countScan_line, State.elapse_line_lineSide, hl]
  rw [exec_scanEnd he hms hv, State.endEvaluation_idle hc' hl']

/-- The counts at the end of a scan (R64, R65). -/
theorem State.countScan_eq (s : State) (ms : List (Fin 32 × Entry)) (v : Verdict) :
    s.countScan ms v = { s with classifier := { s.classifier with
      hits := ms.foldl (fun h m => h.set m.1 (bump h[m.1])) s.classifier.hits
      defaultHits := if ms = [] then bump s.classifier.defaultHits else s.classifier.defaultHits
      counters := { s.classifier.counters with
        absorbed := if v.absorbed then bump s.classifier.counters.absorbed else s.classifier.counters.absorbed
        captureExcess := bumpBy s.classifier.counters.captureExcess v.excess } } } := by
  have habs : bumpBy s.classifier.counters.absorbed (if v.absorbed then 1 else 0) =
      if v.absorbed then bump s.classifier.counters.absorbed else s.classifier.counters.absorbed := by
    cases v.absorbed
    · exact bumpBy_zero _
    · rfl
  unfold State.countScan
  rw [habs]

theorem State.arbitrate_keeps (s : State) :
    s.arbitrate.classifier = s.classifier ∧ s.arbitrate.queues = s.queues ∧ s.arbitrate.slots = s.slots ∧
      s.arbitrate.pool = s.pool := by
  unfold State.arbitrate
  split
  · split
    · simp
    · split <;> simp
    · simp
  · simp

/-- What such an end leaves in the parts that the arbiter does not touch. -/
theorem exec_scanEnd_parts (he : s.classifier.eval = some e) (hc : s.sieve.commit = none)
    (hl : s.line.lineSide = none)
    (hms : s.sieve.active.scan e.own e.group e.member.frame (List.finRange 32) = ms)
    (hv : verdictOf ms s.sieve.active.dflt = v) {w : State} (hw : ((s.elapse dt).countScan ms v).carryOut v e = w) :
    ∃ t, exec (.scanEnd dt) s = .next t ∧ t.classifier = { w.classifier with eval := none } ∧
      t.queues = w.queues ∧ t.slots = w.slots ∧ t.pool = w.pool := by
  have hend := exec_scanEnd_idle he hc hl hms hv dt
  rw [hw] at hend
  exact ⟨_, hend, State.arbitrate_keeps _⟩

/-- A verdict that only counts releases the frame's cells. -/
theorem exec_scanEnd_releases (he : s.classifier.eval = some e) (hc : s.sieve.commit = none)
    (hl : s.line.lineSide = none)
    (hms : s.sieve.active.scan e.own e.group e.member.frame (List.finRange 32) = ms) {absorbed : Bool}
    (hv : verdictOf ms s.sieve.active.dflt = ⟨none, none, none, [], 0, false, absorbed⟩) (dt : Nat) :
    exec (.scanEnd dt) s = done (State.arbitrate { s.elapse dt with
      classifier := { s.classifier with
        eval := none
        hits := ms.foldl (fun h m => h.set m.1 (bump h[m.1])) s.classifier.hits
        defaultHits := if ms = [] then bump s.classifier.defaultHits else s.classifier.defaultHits
        counters := { s.classifier.counters with
          absorbed := if absorbed then bump s.classifier.counters.absorbed
            else s.classifier.counters.absorbed } }
      pool := s.pool.release .classify e.member.frame.cells }) := by
  have hcarry : ∀ u : State, u.carryOut ⟨none, none, none, [], 0, false, absorbed⟩ e =
      u.release .classify e.member.frame.cells := fun _ => rfl
  rw [exec_scanEnd_idle he hc hl hms hv, hcarry, State.countScan_eq, ← State.elapse_pool s dt,
    ← State.elapse_classifier s dt]
  dsimp only
  rw [bumpBy_zero]
  rfl

theorem State.carryOut_writes {i : Fin 32} {c : Capture} (u : State)
    (h : c.offset + c.length ≤ e.member.frame.payload.length) :
    u.carryOut ⟨none, none, none, [(i, c)], 0, false, true⟩ e =
      (u.lineWrite c.slot ((e.member.frame.payload.drop c.offset).take c.length) i e.member.frame.src).release
        .classify e.member.frame.cells := by
  unfold State.carryOut
  rw [State.captureStage_fits _ i c [] h]
  rfl

theorem State.carryOut_short {i : Fin 32} {c : Capture} (u : State)
    (h : e.member.frame.payload.length < c.offset + c.length) :
    u.carryOut ⟨none, none, none, [(i, c)], 0, false, true⟩ e =
      (u.setClassifierCounters { u.classifier.counters with
        captureShort := bump u.classifier.counters.captureShort }).release .classify e.member.frame.cells := by
  unfold State.carryOut
  rw [State.captureStage_short _ i c [] h]
  rfl

/-! ### The arrival does not look at the classifier -/

/-- The state with another classifier. -/
def State.withClassifier (s : State) (c : Classifier) : State := { s with classifier := c }

theorem State.dropToFit_withClassifier (q : Fin 4) (n : Nat) (c : Classifier) (rs : List Record) :
    ∀ s : State, State.dropToFit q n rs (s.withClassifier c) = (State.dropToFit q n rs s).withClassifier c := by
  induction rs with
  | nil => exact fun _ => rfl
  | cons r rs ih =>
    intro s
    have hfits : (s.withClassifier c).fits q n = s.fits q n := rfl
    unfold State.dropToFit
    rw [hfits]
    split
    · rfl
    · exact ih ((s.removeRecords q rs [r]).setQueueCounters q { (s.removeRecords q rs [r]).queues[q].counters with
        overflowOld := bump (s.removeRecords q rs [r]).queues[q].counters.overflowOld })

/-- What an arrival leaves in the queues and in the pool does not depend on the classifier. -/
theorem State.arrive_withClassifier (s : State) (c : Classifier) (q : Fin 4) (r : Record) :
    ((s.withClassifier c).arrive q r).queues = (s.arrive q r).queues ∧
      ((s.withClassifier c).arrive q r).pool = (s.arrive q r).pool := by
  have hfits : (s.withClassifier c).fits q r.frame.cells = s.fits q r.frame.cells := rfl
  have hqueues : (s.withClassifier c).queues = s.queues := rfl
  have hline : (s.withClassifier c).line = s.line := rfl
  unfold State.arrive
  rw [hqueues, hline, hfits]
  dsimp only
  split
  · exact ⟨rfl, rfl⟩
  split
  · exact ⟨rfl, rfl⟩
  split
  · simp only [State.announce_queues, State.announce_pool]
    exact ⟨rfl, rfl⟩
  split
  · rw [State.dropToFit_withClassifier]
    simp only [State.announce_queues, State.announce_pool]
    exact ⟨rfl, rfl⟩
  · exact ⟨rfl, rfl⟩

end

end Sys2Proof.Machine

namespace Sys2Proof
open Machine

/-- Settles O50: the begin of an evaluation, and the end of a scan stage by stage. -/
theorem evaluationsBeginAndEnd : Obligations.EvaluationsBeginAndEnd := by
  unfold Obligations.EvaluationsBeginAndEnd
  intro dt s
  refine ⟨fun w ws he hq hl => ?begins, fun e he hc hl => ⟨fun hno => ?default,
      fun i hm hcont hlow hdel hans hwake => ?absorbs⟩,
    fun e ms v counted d c a he hms hv hcounted hca ha hd => ?ends, fun u f => ⟨rfl, fun i c cs =>
      ⟨State.captureStage_fits f i c cs, State.captureStage_short f i c cs⟩⟩,
    fun u w p n data i src hw hp => ?writes,
    fun u w => ⟨rfl, fun n => ⟨State.answerStage_active, State.answerStage_suppressed⟩⟩,
    fun u v e answered captured => ⟨fun h => State.deliverStage_none h e answered captured,
      fun q h => State.deliverStage_some h e answered captured⟩, fun u g hg => ?commit, fun u w hw => ?lineSide⟩
  case begins =>
    have he' : (s.elapse dt).classifier.eval = none := by rw [State.elapse_classifier, he]
    have hq' : (s.elapse dt).classifier.queue = w :: ws := by rw [State.elapse_classifier, hq]
    have hl' : (s.elapse dt).line.holdsClassifier = false :=
      Line.holdsClassifier_of_none (by rw [State.elapse_line_lineSide, hl])
    rw [exec_evaluationStart]
    refine ⟨fun hc => ?_, fun hc hf => ?_⟩
    · rw [State.startEvaluation_begins he' hl' hq' (by rw [State.elapse_sieve, hc]),
        ← State.elapse_classifier s dt, ← State.elapse_sieve s dt, ← State.elapse_line_own s dt,
        ← State.elapse_line_group s dt]
      rfl
    · obtain ⟨tag, htag⟩ := Option.isSome_iff_exists.mp hc
      have hinstall := State.applyCommit_installs (s := s.elapse dt) (tag := tag)
        (by rw [State.elapse_sieve, htag]) (by rw [State.elapse_sieve, State.elapse_responder, hf])
      refine ⟨_, rfl, ?_⟩
      rw [State.startEvaluation_idle he' hl' hq', hinstall]
      simp [State.installed]
  case default =>
    have hscan := Bank.scan_nil_of (b := s.sieve.active) (own := e.own) (group := e.group) (f := e.member.frame)
      (is := List.finRange 32) fun i _ => hno i
    refine ⟨fun hd => ?_, fun q hd => ?_⟩
    · rw [exec_scanEnd_releases (absorbed := false) he hc hl hscan (by rw [hd]; rfl)]
      rfl
    · have hv : verdictOf [] s.sieve.active.dflt = ⟨some q, none, none, [], 0, false, false⟩ := by rw [hd]; rfl
      have hcount : (s.elapse dt).countScan [] ⟨some q, none, none, [], 0, false, false⟩ =
          (s.elapse dt).withClassifier { s.classifier with defaultHits := bump s.classifier.defaultHits } := by
        rw [State.countScan_eq, ← State.elapse_classifier s dt]
        dsimp only
        rw [bumpBy_zero]
        rfl
      have hcarry : ∀ u : State, u.carryOut ⟨some q, none, none, [], 0, false, false⟩ e = u.arrive q
          ⟨e.member.frame, e.member.id, e.member.stamp, e.generation, none, false, false, false⟩ := fun _ => rfl
      obtain ⟨hqueues, hpool⟩ := (s.elapse dt).arrive_withClassifier
        { s.classifier with defaultHits := bump s.classifier.defaultHits } q
        ⟨e.member.frame, e.member.id, e.member.stamp, e.generation, none, false, false, false⟩
      obtain ⟨t, ht, hclassifier, htq, hslots, htp⟩ := exec_scanEnd_parts he hc hl hscan hv (dt := dt)
        ((congrArg (State.carryOut · _ e) hcount).trans (hcarry _))
      refine ⟨t, ht, ?_, htq.trans hqueues, htp.trans hpool, ?_⟩
      · rw [hclassifier, State.arrive_classifier]
        rfl
      · rw [hslots, State.arrive_slots]
        exact State.elapse_slots s dt
  case absorbs =>
    have hscan := Bank.scan_first (own := e.own) (group := e.group) hlow hm hcont
    have hv := verdictOf_absorbs (i := i) hdel hans hwake s.sieve.active.dflt
    refine ⟨fun hcap => ?_, fun c hcap => ⟨fun hfit => ?_, fun hshort => ?_⟩⟩
    · rw [hcap] at hv
      rw [exec_scanEnd_releases (absorbed := true) he hc hl hscan hv]
      rfl
    · rw [hcap] at hv
      obtain ⟨t, ht, hclassifier, hqueues, hslots, hpool⟩ := exec_scanEnd_parts he hc hl hscan hv (dt := dt)
        (State.carryOut_writes _ hfit)
      refine ⟨t, ht, by rw [hclassifier], ?_, ?_, ?_⟩
      · rw [hslots, State.release_slots, State.lineWrite_slots, ← State.elapse_slots s dt]
        rfl
      · rw [hpool, ← State.elapse_pool s dt]
        simp [State.release]
      · rw [hqueues]
        simp
    · rw [hcap] at hv
      obtain ⟨t, ht, hclassifier, hqueues, hslots, -⟩ := exec_scanEnd_parts he hc hl hscan hv (dt := dt)
        (State.carryOut_short _ hshort)
      refine ⟨t, ht, by rw [hclassifier], ?_, ?_, ?_⟩
      · rw [hslots, ← State.elapse_slots s dt]
        rfl
      · rw [hclassifier, ← State.elapse_classifier s dt]
        rfl
      · rw [hqueues, ← State.elapse_queues s dt]
        rfl
  case ends =>
    have hcount : (s.elapse dt).countScan ms v = counted := by
      rw [hcounted, State.countScan_eq, State.elapse_classifier]
    have hcarry : counted.carryOut v e = if v.wake then d.give .verdict else d := by
      rw [hd, ha, hca]
      rfl
    have hend : (counted.carryOut v e).endEvaluation = State.applyCommit
        { (if v.wake then d.give .verdict else d) with classifier := { d.classifier with eval := none } } := by
      rw [hcarry]
      cases v.wake <;> rfl
    rw [exec_scanEnd he hms.symm hv.symm, hcount, hend]
    rfl
  case writes =>
    subst hp hw
    exact u.lineWrite_eq n data i src
  case commit =>
    subst hg
    refine ⟨State.applyCommit_none, fun tag htag => ⟨fun i n hf => State.applyCommit_fails htag hf, fun hf => ?_⟩⟩
    have hdefault : (if decide (u.sieve.staged.dflt ≠ u.sieve.active.dflt) = true then 0
        else u.classifier.defaultHits) =
        if u.sieve.staged.dflt = u.sieve.active.dflt then u.classifier.defaultHits else 0 := by
      by_cases h : u.sieve.staged.dflt = u.sieve.active.dflt <;> simp [h]
    rw [State.applyCommit_installs htag hf]
    unfold State.installed
    rw [hdefault]
    rfl
  case lineSide =>
    subst hw
    refine ⟨State.continueLineSide_waits, fun tag he hl => ?_⟩
    rw [State.continueLineSide_finishes he hl, State.finishLineSide_eq]

end Sys2Proof
end
